-- ==== Sys2Proof/Word.lean ====
section
/-! DEFINITION. Word types and the fixed-length table type that holds the part's like things in a row. -/

namespace Sys2Proof

/-- A byte of host memory. -/
abbrev Byte := BitVec 8
/-- A 16-bit field: a highway sample, a seizure id. -/
abbrev Half := BitVec 16
/-- A 32-bit word: a register, a station address, a run-clock value. -/
abbrev Word := BitVec 32

/-- A row of exactly `n` like things (64 lines, 16 generators, 60 bytes of an order body). -/
structure Table (n : Nat) (α : Type) where
  toList : List α
  length_eq : toList.length = n
deriving DecidableEq, Repr

namespace Table

variable {n : Nat} {α β : Type}

/-- Entry `i`. -/
def get (t : Table n α) (i : Fin n) : α :=
  t.toList[i.val]'(by rw [t.length_eq]; exact i.isLt)

/-- The row with entry `i` replaced. -/
def set (t : Table n α) (i : Fin n) (x : α) : Table n α :=
  ⟨t.toList.set i.val x, by simp [t.length_eq]⟩

/-- The row whose entry `i` is `f i`. -/
def ofFn (f : Fin n → α) : Table n α := ⟨List.ofFn f, by simp⟩

/-- The row that holds `x` everywhere. -/
def replicate (n : Nat) (x : α) : Table n α := ⟨List.replicate n x, by simp⟩

@[simp] theorem get_set_self (t : Table n α) (i : Fin n) (x : α) : (t.set i x).get i = x := by
  simp [get, set]

theorem get_set_ne (t : Table n α) {i j : Fin n} (x : α) (h : i ≠ j) :
    (t.set i x).get j = t.get j := by
  have : i.val ≠ j.val := fun e => h (Fin.ext e)
  simp [get, set, this]

theorem get_set (t : Table n α) (i j : Fin n) (x : α) :
    (t.set i x).get j = if i = j then x else t.get j := by
  split
  · next h => subst h; simp
  · next h => exact get_set_ne t x h

@[simp] theorem get_ofFn (f : Fin n → α) (i : Fin n) : (ofFn f).get i = f i := by
  simp [get, ofFn]

@[simp] theorem get_replicate (x : α) (i : Fin n) : (replicate n x).get i = x := by
  simp [get, replicate]

theorem ext_get {t u : Table n α} (h : ∀ i, t.get i = u.get i) : t = u := by
  obtain ⟨l, hl⟩ := t
  obtain ⟨m, hm⟩ := u
  have : l = m := by
    apply List.ext_get (hl.trans hm.symm)
    intro i h1 h2
    exact h ⟨i, hl ▸ h1⟩
  subst this
  rfl

@[simp] theorem set_get_self (t : Table n α) (i : Fin n) : t.set i (t.get i) = t :=
  ext_get fun j => by rw [get_set]; split <;> simp_all

end Table

end Sys2Proof
end

