-- ==== Sys2Proof/Config.lean ====
section
/-! DEFINITION. What one DC64 fixes (00_scope, R178) and the two free choices its manual leaves open. -/

namespace Sys2Proof.Config

/-- Lines, and slots of every highway (00_scope "Terms"; R178). -/
abbrev lines : Nat := 64
/-- Tone generators G0 to G15 (R115). -/
abbrev generators : Nat := 16
/-- Profiles (R84). -/
abbrev profiles : Nat := 8
/-- Plan entries a bank holds at most (R91). -/
abbrev planEntries : Nat := 128
/-- Entries a send queue holds at most (R110). -/
abbrev sendQueue : Nat := 32
/-- Symbols the number register holds at most (R97). -/
abbrev numberRegister : Nat := 24
/-- Entries a draft's symbol list holds at most (R150). -/
abbrev symbolList : Nat := 32
/-- The interval length saturates here, in frames (R18). -/
abbrev intervalMax : Nat := 40000
/-- Line or return frames in an unbroken run that restore a highway (R10). -/
abbrev restoreFrames : Nat := 32
/-- Frame periods without a frame that lose a highway (R10). -/
abbrev watchPeriods : Nat := 4
/-- The signature of a station header (R192). -/
abbrev headerSignature : Nat := 0xD6C40A51
/-- The one layout version (R167, R192). -/
abbrev layoutVersion : Nat := 1

/-- FREE VALUE (log 4). Of several events due at the same moment, which the manual lets be taken in any
order (00_scope "Events"), draw `k` names the place in the list of the one taken first. -/
opaque eventOrder : Nat → Nat

/-- FREE VALUE (log 20). R181: an ABORT in the same CONTROL write as a RUN change: "either may be taken
first". Draw `k` says whether the ABORT is. -/
opaque abortFirst : Nat → Bool

end Sys2Proof.Config
end

