-- ==== Sys2Proof/Syntax.lean ====
section
/-! DEFINITION. The commands: one constructor per row of spec/opcode_table.json, with what the step needs
from outside the part as its operands. -/

namespace Sys2Proof

/-- Line number, 0 to 63. -/
abbrev LineNo := Fin Config.lines
/-- Generator number, G0 to G15. -/
abbrev GenNo := Fin Config.generators
/-- The two incoming highways, the ones that are watched (R10). -/
inductive Highway where
  | line
  | ret
deriving DecidableEq, Repr

/-- The five registers (R190). -/
inductive Register where
  | control
  | state
  | stationBase
  | attention
  | attentionMask
deriving DecidableEq, Repr

/-- One slot of a line-highway frame (R191). -/
structure LineSlot where
  sample : Half
  closed : Bool
deriving DecidableEq, Repr

/-- One slot of a return-highway frame (R191). -/
structure ReturnSlot where
  sample : Half
  proceed : Bool
  incoming : Bool
deriving DecidableEq, Repr

abbrev LineFrame := Table Config.lines LineSlot
abbrev ReturnFrame := Table Config.lines ReturnSlot
/-- The body of an order slot, bytes 0x04 to 0x3F (R193). -/
abbrev OrderBody := Table 60 Byte
/-- The station header (R192). -/
abbrev HeaderBytes := Table 160 Byte
/-- A profile record (R195). -/
abbrev ProfileBytes := Table 64 Byte
/-- A tone entry (R196). -/
abbrev ToneBytes := Table 8 Byte
/-- A plan entry (R196). -/
abbrev PlanBytes := Table 32 Byte

/-- A command: a step of the part (opcode_table.json, 95_what_each_step_holds). Commands that name one of
the part's own events (an expiry, an acceptance) take effect when that event is due (log 3). Commands that
complete an access of the memory port carry the bytes read. -/
inductive Instr where
  /-- POWER_ON (R182) -/
  | powerOn
  /-- HOLD_RESET (R184) -/
  | holdReset
  /-- HOLD_RESET_RELEASE (R181), with the RUN and ATTN_ENABLE values of the write -/
  | holdResetRelease (run attnEnable : Bool)
  /-- RUN_WRITTEN_1 (R183) -/
  | runWritten1
  /-- RUN_WRITTEN_0 (R183) -/
  | runWritten0
  /-- ABORT_ORDER (R176) -/
  | abortOrder
  /-- ATTN_ENABLE (R181) -/
  | attnEnable (value : Bool)
  /-- STATION_BASE_WRITE (R182) -/
  | stationBaseWrite (value : Word)
  /-- ATTENTION_READ (R187) -/
  | attentionRead
  /-- REGISTER_WRITE (R190): the register bus, any of the five registers, found by its offset (`registerAt`; log 21) -/
  | registerWrite (register : Register) (value : Word)
  /-- LINE_FRAME (R2) -/
  | lineFrame (frame : LineFrame)
  /-- REFERENCE_FRAME_TIME (R8) -/
  | referenceFrameTime
  /-- RETURN_FRAME (R3) -/
  | returnFrame (frame : ReturnFrame)
  /-- FRAME_WATCH_EXPIRY (R10) -/
  | frameWatchExpiry (highway : Highway)
  /-- MILLISECOND_EVENT (R9) -/
  | millisecondEvent
  /-- LOOP_CHANGE_ACCEPTED (R22) -/
  | loopChangeAccepted (n : LineNo)
  /-- LONG_OPEN_ENTRY (R34) -/
  | longOpenEntry (n : LineNo)
  /-- SEIZURE (R27) -/
  | seizure (n : LineNo)
  /-- CLEAR (R37) -/
  | clear (n : LineNo)
  /-- DIGIT_COMPLETE (R32) -/
  | digitComplete (n : LineNo)
  /-- FIRST_DIGIT_TIMER_EXPIRY (R73) -/
  | firstDigitTimerExpiry (n : LineNo)
  /-- COMPLETE_TIMER_EXPIRY (R74) -/
  | completeTimerExpiry (n : LineNo)
  /-- QUIET_TIMER_EXPIRY (R75) -/
  | quietTimerExpiry (n : LineNo)
  /-- PROCEED_TIMER_EXPIRY (R76) -/
  | proceedTimerExpiry (n : LineNo)
  /-- GENERATOR_WAIT_TIMER_EXPIRY (R77) -/
  | generatorWaitTimerExpiry (n : LineNo)
  /-- ESCAPE_TIMER_EXPIRY (R67) -/
  | escapeTimerExpiry (n : LineNo)
  /-- MUTE_TAIL_EXPIRY (R78) -/
  | muteTailExpiry (n : LineNo)
  /-- FLASH_OUT_EXPIRY (R79) -/
  | flashOutExpiry (n : LineNo)
  /-- ON_EXPIRY (R121) -/
  | onExpiry (g : GenNo)
  /-- GAP_EXPIRY (R122) -/
  | gapExpiry (g : GenNo)
  /-- HOLD_EXPIRY (R123) -/
  | holdExpiry (g : GenNo)
  /-- SWEEP_EVENT (R173) -/
  | sweepEvent
  /-- ORDER_MARK_READ_DONE (R173): the mark read -/
  | orderMarkReadDone (mark : Word)
  /-- TAKEN_WRITE_DONE (R174) -/
  | takenWriteDone
  /-- UNKNOWN_ORDER (R174): the body read -/
  | unknownOrder (body : OrderBody)
  /-- NOP (R178): the body read -/
  | nop (body : OrderBody)
  /-- IDENTIFY (R178): the body read -/
  | identify (body : OrderBody)
  /-- IDENTIFY_WRITE_DONE (R178) -/
  | identifyWriteDone
  /-- READ_LINE (R179): the body read -/
  | readLine (body : OrderBody)
  /-- READ_LINE_WRITE_DONE (R179) -/
  | readLineWriteDone
  /-- SET_LINE (R87): the body read -/
  | setLine (body : OrderBody)
  /-- LOAD_PROFILE (R86): the body read -/
  | loadProfile (body : OrderBody)
  /-- PROFILE_READ_DONE (R86): the record read -/
  | profileReadDone (bytes : ProfileBytes)
  /-- LOAD_TONES (R138): the body read -/
  | loadTones (body : OrderBody)
  /-- TONE_ENTRY_READ_DONE (R138): the entry read -/
  | toneEntryReadDone (bytes : ToneBytes)
  /-- LOAD_PLAN (R102): the body read -/
  | loadPlan (body : OrderBody)
  /-- PLAN_ENTRY_READ_DONE (R103): the entry read -/
  | planEntryReadDone (bytes : PlanBytes)
  /-- SWITCH_PLAN (R106): the body read -/
  | switchPlan (body : OrderBody)
  /-- SEND_TONES (R127): the body read -/
  | sendTones (body : OrderBody)
  /-- ORDER_RESULT_WRITE_DONE (R175) -/
  | orderResultWriteDone
  /-- ORDER_DONE_WRITE_DONE (R175) -/
  | orderDoneWriteDone
  /-- TOUCHED_WRITE_DONE (R170) -/
  | touchedWriteDone
  /-- RECORD_MARK_READ_DONE (R157): the mark read -/
  | recordMarkReadDone (mark : Word)
  /-- RECORD_BODY_WRITE_DONE (R158) -/
  | recordBodyWriteDone
  /-- RECORD_MARK_WRITE_DONE (R158) -/
  | recordMarkWriteDone
  /-- HEADER_READ_DONE (R167): the header read -/
  | headerReadDone (bytes : HeaderBytes)
  /-- HOST_BUS_ERROR (R171): the access on the bus fails -/
  | hostBusError
deriving DecidableEq, Repr

end Sys2Proof
end

