-- ==== Sys2Proof/WellFormed.lean ====
section
/-! DEFINITION. Which commands are well formed: the one thing the types leave open is that a body handed
to an order's row carries that order's code (R174, R193). -/

namespace Sys2Proof

/-- The order code, byte 0x04 of the slot (R193). -/
def OrderBody.code (b : OrderBody) : Nat := (b.get 0).toNat

/-- The row of the opcode table that a body read with this code is (R174, R193). -/
def knownOrder (code : Nat) : Bool := 1 ≤ code && code ≤ 9

/-- Well-formedness of a command. -/
def Instr.wellFormed : Instr → Bool
  | .unknownOrder b => !knownOrder b.code
  | .nop b => b.code == 0x01
  | .identify b => b.code == 0x02
  | .readLine b => b.code == 0x03
  | .setLine b => b.code == 0x04
  | .loadProfile b => b.code == 0x05
  | .loadTones b => b.code == 0x06
  | .loadPlan b => b.code == 0x07
  | .switchPlan b => b.code == 0x08
  | .sendTones b => b.code == 0x09
  | .powerOn => true
  | .holdReset => true
  | .holdResetRelease _ _ => true
  | .runWritten1 => true
  | .runWritten0 => true
  | .abortOrder => true
  | .attnEnable _ => true
  | .stationBaseWrite _ => true
  | .attentionRead => true
  | .registerWrite _ _ => true
  | .lineFrame _ => true
  | .referenceFrameTime => true
  | .returnFrame _ => true
  | .frameWatchExpiry _ => true
  | .millisecondEvent => true
  | .loopChangeAccepted _ => true
  | .longOpenEntry _ => true
  | .seizure _ => true
  | .clear _ => true
  | .digitComplete _ => true
  | .firstDigitTimerExpiry _ => true
  | .completeTimerExpiry _ => true
  | .quietTimerExpiry _ => true
  | .proceedTimerExpiry _ => true
  | .generatorWaitTimerExpiry _ => true
  | .escapeTimerExpiry _ => true
  | .muteTailExpiry _ => true
  | .flashOutExpiry _ => true
  | .onExpiry _ => true
  | .gapExpiry _ => true
  | .holdExpiry _ => true
  | .sweepEvent => true
  | .orderMarkReadDone _ => true
  | .takenWriteDone => true
  | .identifyWriteDone => true
  | .readLineWriteDone => true
  | .profileReadDone _ => true
  | .toneEntryReadDone _ => true
  | .planEntryReadDone _ => true
  | .orderResultWriteDone => true
  | .orderDoneWriteDone => true
  | .touchedWriteDone => true
  | .recordMarkReadDone _ => true
  | .recordBodyWriteDone => true
  | .recordMarkWriteDone => true
  | .headerReadDone _ => true
  | .hostBusError => true

end Sys2Proof
end

