-- ==== Sys2Proof/Decode.lean ====
section
/-! DEFINITION. Decoding of table words. The opcode table of this block gives bits to no row ("fields" is
empty in every row), so no word spells a command. -/

namespace Sys2Proof

/-- The command that a word spells by the table's bits: none, since no row of the table gives bits. -/
def decodeTableWord (_nbits _w : Nat) : Option Instr := none

end Sys2Proof
end

