-- ==== Sys2Proof/Machine/Operands.lean ====
section
/-! DEFINITION. Operand forms: bytes and little-endian fields of the structures in host memory, exact
rounding and saturation, and the comparison of a length in frames with a bound in milliseconds. -/

namespace Sys2Proof.Machine

/-- Byte `i` of a structure as a number; a byte past its end reads 0. -/
def byteAt (bs : List Byte) (i : Nat) : Nat := (bs.getD i 0).toNat

/-- The little-endian 16-bit field at offset `i` (11, "All multi-byte fields are little-endian"). -/
def half (bs : List Byte) (i : Nat) : Nat := byteAt bs i + 256 * byteAt bs (i + 1)

/-- The little-endian 32-bit field at offset `i`. -/
def word (bs : List Byte) (i : Nat) : Nat := half bs i + 65536 * half bs (i + 2)

/-- `k` bytes of `x`, least significant first. -/
def toLE : Nat → Nat → List Byte
  | 0, _ => []
  | k + 1, x => BitVec.ofNat 8 x :: toLE k (x / 256)

/-- One byte. -/
def byte (x : Nat) : List Byte := toLE 1 x

/-- Unused bytes the part writes: zeros (R189). -/
def zeros (k : Nat) : List Byte := List.replicate k 0

/-- `num / den` rounded half to even (00_scope "Samples and arithmetic"). -/
def roundHalfEven (num : Int) (den : Nat) : Int :=
  let q := num / (den : Int)
  let r := num % (den : Int)
  if 2 * r < (den : Int) then q
  else if (den : Int) < 2 * r then q + 1
  else if q % 2 = 0 then q else q + 1

/-- Saturation to the range of a 16-bit signed sample. -/
def saturate16 (x : Int) : Int := max (-32768) (min 32767 x)

/-- One more, saturating at `m`. -/
def satSucc (m x : Nat) : Nat := min m (x + 1)

/-- R20: a length of `len` frames is at least `w` ms. -/
def isAtLeast (len w : Nat) : Bool := 8 * w ≤ len

/-- R20: a length of `len` frames is at most `w` ms. -/
def isAtMost (len w : Nat) : Bool := len ≤ 8 * w + 7

/-- `lo ≤ x ≤ hi`. -/
def inRange (lo hi x : Nat) : Bool := lo ≤ x && x ≤ hi

end Sys2Proof.Machine
end

