-- ==== Sys2Proof/Machine/Tones.lean ====
section
/-! DEFINITION. Tone arithmetic: the derived values of a tone entry (R137) and one sample of a resonator
(R142). -/

namespace Sys2Proof.Machine

/-- The fixed-point scale of the wave functions, 2^96 (log 17). -/
def fixOne : Int := 2 ^ 96

/-- π in that scale, rounded down (log 17). -/
def fixPi : Int := 0x3243f6a8885a308d313198a2e

/-- Terms `k, k+1, …` of the alternating series whose `k`-th term is `t` and whose next term divides by
`(a + 1)(a + 2)`: the tail of the cosine (a = 0, t = 1) or of the sine (a = 1, t = x). -/
def waveSeries : Nat → Int → Int → Nat → Int
  | 0, _, _, _ => 0
  | fuel + 1, x2, t, a => t + waveSeries fuel x2 (-(t * x2 / fixOne) / (((a + 1) * (a + 2) : Nat) : Int)) (a + 2)

/-- The angle 2πf/8000 in fixed point (R137). -/
def fixAngle (f : Nat) : Int := fixPi * (f : Int) / 4000

/-- cos(2πf/8000) in fixed point. -/
def fixCos (f : Nat) : Int :=
  waveSeries 40 (fixAngle f * fixAngle f / fixOne) fixOne 0

/-- sin(2πf/8000) in fixed point. -/
def fixSin (f : Nat) : Int :=
  waveSeries 40 (fixAngle f * fixAngle f / fixOne) (fixAngle f) 1

/-- R137: c is 32768·cos ω, rounded half to even and saturated. -/
def toneCoefficient (f : Nat) : Int := saturate16 (roundHalfEven (32768 * fixCos f) (2 ^ 96))

/-- R137: s1 is A·sin ω, rounded half to even. -/
def toneStart (f a : Nat) : Int := roundHalfEven ((a : Int) * fixSin f) (2 ^ 96)

/-- R142: the difference of index 2 or more before saturation: 2·c·y(n-1)/32768 rounded half to even, less
y(n-2). -/
def resonatorDifference (c y1 y2 : Int) : Int := roundHalfEven (2 * c * y1) 32768 - y2

end Sys2Proof.Machine
end

