-- ==== Sys2Proof/Machine/Types.lean ====
section
/-! DEFINITION. The types of what the twelve blocks of 00_scope hold. Plain data. -/

namespace Sys2Proof.Machine

/-! ### Small types -/

/-- A tone symbol, code 0x00 to 0x0F (R1). -/
abbrev Tone := Fin 16
/-- Bank 0 or bank 1 (R91). -/
abbrev BankNo := Fin 2
/-- Profile 0 to profile 7 (R84). -/
abbrev ProfileNo := Fin Config.profiles
/-- Window 0 to 15 (R166). -/
abbrev WindowNo := Fin 16

/-- Class of a generator request (00_scope "Terms"). -/
inductive ServiceClass where
  | a | b | c
deriving DecidableEq, Repr

/-- Part state (R182). -/
inductive PartState where
  | resetHeld | halted | starting | running | stopping | startFailed
deriving DecidableEq, Repr

/-- Result code of STATE (R182, R190). -/
inductive ResultCode where
  | none | ok | badSignature | badVersion | badWindow | badOrderArea | badRecordArea | badSweep
  | badReserve | memoryError | runCleared
deriving DecidableEq, Repr

/-- Attention cause (R187). -/
inductive Cause where
  | memoryError | windowFault | lineHighway | returnHighway | emergency | recordParked | startResult
  | orderDone | recordWritten
deriving DecidableEq, Repr

/-- Line state (R59). -/
inductive LineState where
  | disabled | idle | seized | collecting | sending | converting | lockout
deriving DecidableEq, Repr

/-- Pulse state (R18). -/
inductive PulseState where
  | steadyOpen | steadyClosed | brk | make | longOpen
deriving DecidableEq, Repr

/-- Close cause of a draft, and cause of a teardown (R153, R83). -/
inductive CloseCause where
  | complete | quiet | noDial | cleared | barred | incomplete | noProceed | noGenerator | disabled
  | stopped | highwayLoss
deriving DecidableEq, Repr

/-- Mode of a profile (R85). -/
inductive Mode where
  | direct | enBloc
deriving DecidableEq, Repr

/-- Unmatched action of a profile (R85). -/
inductive UnmatchedAction where
  | pass | bar
deriving DecidableEq, Repr

/-- Action of a plan entry (R90). -/
inductive PlanAction where
  | pass | prepend | stripPrepend | bar
deriving DecidableEq, Repr

/-- State of a plan bank (R91). -/
inductive BankState where
  | empty | loading | staged | active | inactiveLoaded
deriving DecidableEq, Repr

/-- State of a generator (R115). -/
inductive GenState where
  | free | on | gap | hold
deriving DecidableEq, Repr

/-- State of the record writer (R156). -/
inductive WriterState where
  | idle | searching | writingBody | writingMark | parked
deriving DecidableEq, Repr

/-- State of the order unit (R173). -/
inductive UnitState where
  | idle | scanning | taking | executing | inProgress | completing
deriving DecidableEq, Repr

/-! ### Control and attention -/

/-- The registers, the part state and the attention flags (10, 11). -/
structure Control where
  part : PartState
  result : ResultCode
  run : Bool
  holdReset : Bool
  attnEnable : Bool
  stationBase : Word
  attentionMask : Word
  /-- Pending flags, indexed by code less 1 (R187). -/
  attention : Table 9 Bool
  recordsDropped : Nat
  /-- What the last read of ATTENTION returned (R187). -/
  readData : Word
  /-- Step 2 of the stop in progress has been done (R186). -/
  stopTornDown : Bool
deriving DecidableEq, Repr

/-! ### Slot path -/

/-- The watch of one incoming highway (R10). -/
structure Watch where
  present : Bool
  restoreCount : Nat
  frameWatch : Nat
deriving DecidableEq, Repr

/-- One slot of a trunk frame (R191). -/
structure TrunkSlot where
  sample : Half
  offHook : Bool
deriving DecidableEq, Repr

abbrev TrunkFrame := Table Config.lines TrunkSlot

/-- The frame whose trunk frame is still to be built (log 3). -/
inductive FrameInHand where
  | line (frame : LineFrame)
  | reference
deriving DecidableEq, Repr

/-- The slot path (01). `trunkLeaving` is the trunk frame that leaves at the next frame moment; `trunkOut` holds those
that have left since the last one began, oldest first (R4, log 8). -/
structure SlotPath where
  lineHw : Watch
  retHw : Watch
  proceed : Table Config.lines Bool
  incoming : Table Config.lines Bool
  frameCount : Nat
  runClock : Word
  msDue : Bool
  frameInHand : Option FrameInHand
  trunkLeaving : Option TrunkFrame
  trunkOut : List TrunkFrame
deriving DecidableEq, Repr

/-! ### Loop classifiers and period estimators -/

/-- A length bound reached at a flag frame, not yet acted on (R21; log 3). -/
inductive Bound where
  | longOpen | clear | digit | seizure
deriving DecidableEq, Repr

/-- One loop classifier (R18), and the model's marks (log 3, log 18). -/
structure Classifier where
  accepted : Bool
  runCount : Nat
  pulse : PulseState
  interval : Nat
  pulseCount : Nat
  corrupt : Bool
  firstBreak : Option Word
  lastBreak : Nat
  idtInUse : Nat
  seizureCount : Nat
  dropped : Bool
  waiting : Bool
  lastBreakPulse : Bool
  bound : Option Bound
  change : Bool
deriving DecidableEq, Repr

/-- One period estimator (R44). -/
structure Estimator where
  p : Nat
  idt : Nat
deriving DecidableEq, Repr

/-! ### Settings store -/

/-- A profile: windows (R19), estimator fields (R44), tables (R52, R54), and the fields of R85. An entry
`none` of a table is NONE. -/
structure Profile where
  glitchMs : Nat
  seizeMs : Nat
  breakMin : Nat
  breakMax : Nat
  flashMin : Nat
  flashMax : Nat
  clearMs : Nat
  initPeriodMs : Nat
  weightShift : Nat
  idtFactor : Nat
  idtFloor : Nat
  idtCeiling : Nat
  translation : Table 10 (Option Tone)
  escape : Table 10 (Option Tone)
  mode : Mode
  unmatchedAction : UnmatchedAction
  escapeEnable : Bool
  escapeWindowMs : Nat
  firstDigitWait : Nat
  completeMs : Nat
  quietMs : Nat
  waitProceed : Bool
  proceedWaitMs : Nat
  genWaitMs : Nat
  toneOnMs : Nat
  toneOffMs : Nat
  genHoldMs : Nat
  flashOutMs : Nat
  muteTailMs : Nat
deriving DecidableEq, Repr

/-- Derived values of one resonator of a tone entry (R137). -/
structure Derived where
  silent : Bool
  coefficient : Int
  start : Int
deriving DecidableEq, Repr

/-- A tone table entry with its derived values (R135). -/
structure ToneEntry where
  lowHz : Nat
  highHz : Nat
  lowAmp : Nat
  highAmp : Nat
  low : Derived
  high : Derived
deriving DecidableEq, Repr

/-- A line setting (R84). -/
structure LineSetting where
  enabled : Bool
  profile : ProfileNo
  cls : ServiceClass
deriving DecidableEq, Repr

/-- The settings store (R84). -/
structure Settings where
  profiles : Table Config.profiles Profile
  tones : Table 16 ToneEntry
  lines : Table Config.lines LineSetting
deriving DecidableEq, Repr

/-! ### Line contexts -/

/-- One of the eight line timers (R71). -/
inductive TimerKind where
  | firstDigit | complete | quiet | proceed | generatorWait | escape | muteTail | flashOut
deriving DecidableEq, Repr

/-- A timer: stopped, or running with the millisecond events counted and its length (R71). -/
inductive Timer where
  | stopped
  | running (count length : Nat)
deriving DecidableEq, Repr

/-- Where a send-queue entry came from; an ORDER entry carries the index of the order slot (R110). -/
inductive Origin where
  | subscriber
  | order (slot : Nat)
deriving DecidableEq, Repr

/-- A send-queue entry (R110); `begun` says that it has begun sending (R131; log 18). -/
structure QueueEntry where
  symbol : Tone
  origin : Origin
  begun : Bool
deriving DecidableEq, Repr

/-- A plan decision in a line context (R59, R99). -/
structure Decision where
  cls : ServiceClass
  toSend : Nat
  sent : Nat
deriving DecidableEq, Repr

/-- An entry of a draft's symbol list (R150). -/
inductive ListEntry where
  | tone (t : Tone)
  | flash
  | rejectCount
  | rejectOpen
  | rejectEscape
deriving DecidableEq, Repr

/-- A draft (R149 to R152). `follow` is the kind FOLLOW; `none` is NONE in the plan fields. -/
structure Draft where
  line : LineNo
  seizureId : Half
  follow : Bool
  openTime : Word
  symbols : List ListEntry
  numberLen : Nat
  toSend : Nat
  sent : Nat
  glitch : Nat
  ignored : Nat
  proceedLoss : Nat
  unrecorded : Nat
  bank : Option BankNo
  entry : Option Nat
  action : Option PlanAction
  incoming : Bool
  escapeUsed : Bool
  emergency : Bool
  unmatched : Bool
  clipped : Bool
  queueFull : Bool
  listFull : Bool
deriving DecidableEq, Repr

/-- A closed draft: the draft with what its close set (R153). -/
structure ClosedDraft where
  draft : Draft
  closeTime : Word
  p : Nat
  cause : CloseCause
deriving DecidableEq, Repr

/-- Draft condition of a line (R148). -/
inductive DraftCondition where
  | none
  | opened (d : Draft)
  | unrecorded
deriving DecidableEq, Repr

/-- A line context (R59, R148). -/
structure LineCtx where
  state : LineState
  bound : Option Profile
  seizureId : Half
  answered : Bool
  draftOpened : Bool
  escapePending : Bool
  escapedDigit : Bool
  number : List Tone
  boundBank : Option BankNo
  decision : Option Decision
  queue : List QueueEntry
  timers : Table 8 Timer
  draft : DraftCondition
  pendingUnrecorded : Nat
deriving DecidableEq, Repr

/-! ### Plan table -/

/-- A pattern position (R90). -/
inductive PatternSymbol where
  | tone (t : Tone)
  | any
deriving DecidableEq, Repr

/-- A plan entry (R90). -/
structure PlanEntry where
  pattern : List PatternSymbol
  minLen : Nat
  maxLen : Nat
  action : PlanAction
  strip : Nat
  insert : List Tone
  cls : ServiceClass
deriving DecidableEq, Repr

/-- A plan bank (R91). -/
structure Bank where
  state : BankState
  entries : List PlanEntry
  refCount : Nat
deriving DecidableEq, Repr

/-- The plan table (R91). -/
structure Plan where
  banks : Table 2 Bank
  active : BankNo
deriving DecidableEq, Repr

/-- What the matcher decides (R95, R96): an entry with its index, the unmatched action, or INCOMPLETE. -/
inductive Verdict where
  | entry (index : Nat) (e : PlanEntry)
  | unmatchedPass
  | unmatchedBar
  | incomplete
deriving DecidableEq, Repr

/-! ### Generator pool and tone synthesizer -/

/-- A generator (R115). -/
structure Generator where
  state : GenState
  attached : Option LineNo
  served : Option ServiceClass
  timer : Timer
  clip : Bool
deriving DecidableEq, Repr

/-- A wait-list entry (R114); `join` keeps the order in which entries joined (log 18). -/
structure WaitEntry where
  line : LineNo
  cls : ServiceClass
  entryTime : Word
  preempted : Bool
  join : Nat
deriving DecidableEq, Repr

/-- The generator pool (06). The wait list is kept in grant order (R114). -/
structure Pool where
  gens : Table Config.generators Generator
  waitList : List WaitEntry
  joins : Nat
  reserve : Nat
deriving DecidableEq, Repr

/-- A resonator (R141): `y1` is the newest sample, `y2` the one before, `start` the start value taken at the
entry into ON (log 18). -/
structure Resonator where
  silent : Bool
  coefficient : Int
  start : Int
  y1 : Int
  y2 : Int
deriving DecidableEq, Repr

/-- The synthesizer's part for one generator (R141). -/
structure Voice where
  index : Nat
  low : Resonator
  high : Resonator
deriving DecidableEq, Repr

/-! ### Record writer -/

/-- The record writer (R156). -/
structure Writer where
  fifo : List ClosedDraft
  cursor : Nat
  sequence : Word
  state : WriterState
  examined : Nat
  chosen : Nat
  retry : Bool
  area : Word
  slots : Nat
deriving DecidableEq, Repr

/-! ### Order unit -/

/-- Result of an order (R175, R193). -/
inductive OrderStatus where
  | ok | unknownOrder | badParameter | lineBusy | lineNotReady | planInUse | notStaged | queueFull
  | windowFault | aborted | cleared
deriving DecidableEq, Repr

/-- Result details (R193). A detail that the result does not fill is written as 0 (log 34, the model's choice). -/
structure Details where
  field : Nat := 0
  bank : Nat := 0
  index : Nat := 0
  address : Nat := 0
  kind : Nat := 0
  state : Nat := 0
  sent : Nat := 0
  unsent : Nat := 0
  cause : Nat := 0
  refCount : Nat := 0
  free : Nat := 0
  order : Nat := 0
deriving DecidableEq, Repr

/-- A chosen result. -/
structure OrderResult where
  status : OrderStatus
  details : Details
deriving DecidableEq, Repr

/-- The four checked fields of a tone entry that passed (R138). -/
structure ToneFields where
  lowHz : Nat
  highHz : Nat
  lowAmp : Nat
  highAmp : Nat
deriving DecidableEq, Repr

/-- What the current order is about, beyond its body. -/
inductive OrderWork where
  | none
  /-- LOAD_PROFILE reading its record (R86) -/
  | loadProfile (profile : ProfileNo)
  /-- LOAD_TONES: source and the entries that have passed (R138) -/
  | loadTones (source : Word) (passed : List ToneFields)
  /-- LOAD_PLAN: source, target bank and entry count (R102); the entries written stand in the bank -/
  | loadPlan (source : Word) (bank : BankNo) (count : Nat)
  /-- SEND_TONES in progress (R128, R131): `abortFixed` when an ABORT has fixed its result -/
  | sendTones (n : LineNo) (cls : ServiceClass) (count sent : Nat) (abortFixed : Bool)
deriving DecidableEq, Repr

/-- The current order (R174). -/
structure CurrentOrder where
  slot : Nat
  body : Option OrderBody
  work : OrderWork
  abort : Bool
  result : Option OrderResult
  progressed : Bool
deriving DecidableEq, Repr

/-- The order unit and the sweep timer (R173). -/
structure Orders where
  state : UnitState
  cursor : Nat
  passStart : Nat
  examined : Nat
  current : Option CurrentOrder
  area : Word
  slots : Nat
  sweepTimer : Nat
  sweepInterval : Nat
  sweepDue : Bool
deriving DecidableEq, Repr

/-- An event of the part that is due and not yet taken (log 3). -/
inductive Due where
  | millisecond
  | longOpen (n : LineNo)
  | clear (n : LineNo)
  | digit (n : LineNo)
  | seizure (n : LineNo)
  | loopChange (n : LineNo)
  | timer (k : TimerKind) (n : LineNo)
  | onExpiry (g : GenNo)
  | gapExpiry (g : GenNo)
  | holdExpiry (g : GenNo)
  | sweep
deriving DecidableEq, Repr

/-! ### Memory port -/

/-- A window (R166, R170); 0 pages is unused. -/
structure Window where
  base : Nat
  pages : Nat
  access : Bool
  write : Bool
  touched : Bool
deriving DecidableEq, Repr

/-- What an access of the memory port is for. -/
inductive Purpose where
  | headerRead
  | orderMarkRead | takenWrite | bodyRead | identifyWrite | readLineWrite | profileRead | toneRead | planRead
  | resultWrite | doneWrite
  | recordMarkRead | recordBodyWrite | recordMarkWrite
  | touchedWrite
deriving DecidableEq, Repr

/-- Why the result of an access still on the host bus is discarded (R166, R184; log 11). -/
inductive Abandon where
  | byReset
  | byRunCleared
deriving DecidableEq, Repr

/-- An access: physical address, length in bytes, the bytes written (none for a read), and the window a
write goes through (R169, R170). -/
structure Access where
  purpose : Purpose
  addr : Nat
  length : Nat
  data : List Byte
  window : Option WindowNo
  abandoned : Option Abandon
deriving DecidableEq, Repr

/-- The memory port (09). -/
structure Port where
  windows : Table 16 Window
  inFlight : Option Access
  behind : Option Access
  waitStart : Option Access
  waitWriter : Option Access
  waitOrder : Option Access
deriving DecidableEq, Repr

end Sys2Proof.Machine
end

