-- ==== Sys2Proof/Machine/Defaults.lean ====
section
/-! DEFINITION. Default and reset values, block by block. -/

namespace Sys2Proof.Machine

/-- R18, last column: after power-on and hold reset. `accepted` false is open. -/
def Classifier.reset : Classifier :=
  { accepted := false, runCount := 0, pulse := .steadyOpen, interval := 0, pulseCount := 0, corrupt := false,
    firstBreak := none, lastBreak := 0, idtInUse := 0, seizureCount := 0, dropped := false, waiting := true,
    lastBreakPulse := false, bound := none, change := false }

/-- The defaults of R19, R44, R52, R54 and R85. -/
def Profile.default : Profile :=
  { glitchMs := 3, seizeMs := 40, breakMin := 20, breakMax := 130, flashMin := 200, flashMax := 700,
    clearMs := 900, initPeriodMs := 100, weightShift := 2, idtFactor := 12, idtFloor := 100, idtCeiling := 400,
    translation := ⟨[some 1, some 2, some 3, some 4, some 5, some 6, some 7, some 8, some 9, some 0], rfl⟩,
    escape := ⟨[none, some 0xA, some 0xB, some 0xC, some 0xD, some 0xE, some 0xF, none, none, none], rfl⟩,
    mode := .direct, unmatchedAction := .pass, escapeEnable := true, escapeWindowMs := 2000,
    firstDigitWait := 10, completeMs := 5000, quietMs := 10000, waitProceed := true, proceedWaitMs := 3000,
    genWaitMs := 5000, toneOnMs := 70, toneOffMs := 70, genHoldMs := 300, flashOutMs := 250, muteTailMs := 60 }

/-- R136, R137: the derived values of a resonator of frequency `f` and amplitude `a`; a silent resonator has
no coefficient and no start value (held as 0). -/
def deriveTone (f a : Nat) : Derived :=
  if f = 0 then { silent := true, coefficient := 0, start := 0 }
  else { silent := false, coefficient := toneCoefficient f, start := toneStart f a }

/-- A tone entry as installed (R137). -/
def toneEntry (lowHz highHz lowAmp highAmp : Nat) : ToneEntry :=
  { lowHz, highHz, lowAmp, highAmp, low := deriveTone lowHz lowAmp, high := deriveTone highHz highAmp }

/-- Row of the default table for one symbol: amplitudes 6000 and 7500 (R135). -/
def defaultTone (lowHz highHz : Nat) : ToneEntry := toneEntry lowHz highHz 6000 7500

/-- R135: the default table, in symbol order 0x00 to 0x0F. -/
def defaultTones : Table 16 ToneEntry :=
  ⟨[defaultTone 941 1336, defaultTone 697 1209, defaultTone 697 1336, defaultTone 697 1477,
    defaultTone 770 1209, defaultTone 770 1336, defaultTone 770 1477, defaultTone 852 1209,
    defaultTone 852 1336, defaultTone 852 1477, defaultTone 941 1209, defaultTone 941 1477,
    defaultTone 697 1633, defaultTone 770 1633, defaultTone 852 1633, defaultTone 941 1633], rfl⟩

/-- R59, third column: after power-on and hold reset. -/
def LineCtx.reset : LineCtx :=
  { state := .disabled, bound := none, seizureId := 0, answered := false, draftOpened := false,
    escapePending := false, escapedDigit := false, number := [], boundBank := none, decision := none,
    queue := [], timers := Table.replicate 8 .stopped, draft := .none, pendingUnrecorded := 0 }

/-- R115, last column. -/
def Generator.reset : Generator :=
  { state := .free, attached := none, served := none, timer := .stopped, clip := false }

/-- R141: after power-on and hold reset. -/
def Resonator.reset : Resonator := { silent := false, coefficient := 0, start := 0, y1 := 0, y2 := 0 }

def Voice.reset : Voice := { index := 0, low := .reset, high := .reset }

def Window.unused : Window := { base := 0, pages := 0, access := false, write := false, touched := false }



def Watch.reset : Watch := { present := false, restoreCount := 0, frameWatch := 0 }

/-- R16, and the model's own marks clear (log 2). -/
def SlotPath.reset : SlotPath :=
  { lineHw := .reset, retHw := .reset, proceed := Table.replicate _ false, incoming := Table.replicate _ false,
    frameCount := 0, runClock := 0, msDue := false, frameInHand := none, trunkLeaving := none, trunkOut := [] }

/-- R84, R135. -/
def Settings.reset : Settings :=
  { profiles := Table.replicate _ .default, tones := defaultTones,
    lines := Table.replicate _ { enabled := false, profile := 0, cls := .b } }

def Bank.reset : Bank := { state := .empty, entries := [], refCount := 0 }

/-- R91. -/
def Plan.reset : Plan := { banks := Table.replicate _ .reset, active := 0 }

/-- R114, R115; the reserve is log 2's. -/
def Pool.reset : Pool := { gens := Table.replicate _ .reset, waitList := [], joins := 0, reserve := 0 }

/-- R156; area and slot count are log 2's. -/
def Writer.reset : Writer :=
  { fifo := [], cursor := 0, sequence := 0, state := .idle, examined := 0, chosen := 0, retry := false, area := 0,
    slots := 0 }

/-- R173; area, slot count and sweep interval are log 2's. -/
def Orders.reset : Orders :=
  { state := .idle, cursor := 0, passStart := 0, examined := 0, current := none, area := 0, slots := 0,
    sweepTimer := 0, sweepInterval := 0, sweepDue := false }

/-- R168: every window unused. -/
def Port.reset : Port :=
  { windows := Table.replicate _ .unused, inFlight := none, behind := none, waitStart := none,
    waitWriter := none, waitOrder := none }

/-- R181, R182, R187: the registers at power-on. -/
def Control.powerOn : Control :=
  { part := .halted, result := .none, run := false, holdReset := false, attnEnable := false, stationBase := 0,
    attentionMask := 0, attention := Table.replicate _ false, recordsDropped := 0, readData := 0,
    stopTornDown := false }

end Sys2Proof.Machine
end

