-- ==== Sys2Proof/Machine/State.lean ====
section
/-! DEFINITION. The state of the part, its faults and refusals, and the state after reset. -/

namespace Sys2Proof.Machine

/-- The whole part: the queue of waiting commands, the count of free choices drawn, and the twelve blocks. -/
structure State where
  pending : List Instr
  draws : Nat
  control : Control
  slotPath : SlotPath
  classifiers : Table Config.lines Classifier
  estimators : Table Config.lines Estimator
  lines : Table Config.lines LineCtx
  settings : Settings
  plan : Plan
  pool : Pool
  voices : Table Config.generators Voice
  writer : Writer
  orders : Orders
  port : Port
deriving DecidableEq, Repr

/-- Conditions in which the part stops. The manual names none: a host-bus error, a disallowed access and a bad
header each have a stated effect (R171, R169, R167; log 29). -/
inductive Fault : Type
deriving DecidableEq, Repr

/-- Refusals of the model. -/
inductive Refusal where
  /-- Raised by an arm of `exec` whose command has no meaning yet. Safe: nothing can be proved of a run past it.
  No arm uses it. -/
  | notModelled (mnemonic : String)
deriving DecidableEq, Repr

/-- The part right after power-on (log 1). -/
def State.reset : State :=
  { pending := [], draws := 0, control := .powerOn, slotPath := .reset, classifiers := Table.replicate _ .reset,
    estimators := Table.replicate _ { p := 0, idt := 0 }, lines := Table.replicate _ .reset,
    settings := .reset, plan := .reset, pool := .reset, voices := Table.replicate _ .reset, writer := .reset,
    orders := .reset, port := .reset }

end Sys2Proof.Machine
end

