-- ==== Sys2Proof/Machine/Flags.lean ====
section
/-! DEFINITION. Flags and codes: the attention flags and their raising (R187), the register words (R190), the
flags and counts of a draft (R150 to R152), and the code values of 11. -/

namespace Sys2Proof.Machine

/-! ### Code values -/

/-- R187: place of a cause; its code is one more. -/
def Cause.index : Cause → Fin 9
  | .memoryError => 0
  | .windowFault => 1
  | .lineHighway => 2
  | .returnHighway => 3
  | .emergency => 4
  | .recordParked => 5
  | .startResult => 6
  | .orderDone => 7
  | .recordWritten => 8

def Cause.code (c : Cause) : Nat := c.index.val + 1

def PartState.code : PartState → Nat
  | .resetHeld => 0 | .halted => 1 | .starting => 2 | .running => 3 | .stopping => 4 | .startFailed => 5

def ResultCode.code : ResultCode → Nat
  | .none => 0x00 | .ok => 0x01 | .badSignature => 0x02 | .badVersion => 0x03 | .badWindow => 0x04
  | .badOrderArea => 0x05 | .badRecordArea => 0x06 | .badSweep => 0x07 | .badReserve => 0x08
  | .memoryError => 0x09 | .runCleared => 0x0A

def LineState.code : LineState → Nat
  | .disabled => 0 | .idle => 1 | .seized => 2 | .collecting => 3 | .sending => 4 | .converting => 5
  | .lockout => 6

def BankState.code : BankState → Nat
  | .empty => 0 | .loading => 1 | .staged => 2 | .active => 3 | .inactiveLoaded => 4

def CloseCause.code : CloseCause → Nat
  | .complete => 1 | .quiet => 2 | .noDial => 3 | .cleared => 4 | .barred => 5 | .incomplete => 6
  | .noProceed => 8 | .noGenerator => 9 | .disabled => 10 | .stopped => 11 | .highwayLoss => 12

def PulseState.code : PulseState → Nat
  | .steadyOpen => 0 | .steadyClosed => 1 | .brk => 2 | .make => 3 | .longOpen => 4

def GenState.code : GenState → Nat
  | .free => 0 | .on => 1 | .gap => 2 | .hold => 3

def ServiceClass.code : ServiceClass → Nat
  | .a => 1 | .b => 2 | .c => 3

/-- The class of a class code (11). -/
def classOfCode : Nat → Option ServiceClass
  | 1 => some .a
  | 2 => some .b
  | 3 => some .c
  | _ => none

def OrderStatus.code : OrderStatus → Nat
  | .ok => 0x01 | .unknownOrder => 0x02 | .badParameter => 0x03 | .lineBusy => 0x04 | .lineNotReady => 0x05
  | .planInUse => 0x06 | .notStaged => 0x07 | .queueFull => 0x08 | .windowFault => 0x09 | .aborted => 0x0A
  | .cleared => 0x0B

/-- Action codes of a record's plan byte (R194). -/
def PlanAction.code : PlanAction → Nat
  | .pass => 1 | .prepend => 2 | .stripPrepend => 3 | .bar => 4

/-- The action of an action code of a plan entry (R196). -/
def actionOfCode : Nat → Option PlanAction
  | 1 => some .pass
  | 2 => some .prepend
  | 3 => some .stripPrepend
  | 4 => some .bar
  | _ => none

/-- R1: the code of a symbol-list entry. -/
def ListEntry.code : ListEntry → Nat
  | .tone t => t.val
  | .flash => 0x10
  | .rejectCount => 0x11
  | .rejectOpen => 0x12
  | .rejectEscape => 0x13

/-- R1: the tone symbol of a code, if it is one. -/
def toneOfCode (c : Nat) : Option Tone := if h : c < 16 then some ⟨c, h⟩ else none

/-- R90: the pattern symbol of a code: a tone symbol, or ANY 0x1E. -/
def patternOfCode (c : Nat) : Option PatternSymbol :=
  if c = 0x1E then some .any else (toneOfCode c).map .tone

/-- R52, R54: a translation or escape entry of a code: a tone symbol or NONE 0xFF. -/
def tableEntryOfCode (c : Nat) : Option (Option Tone) :=
  if c = 0xFF then some none else (toneOfCode c).map some

/-- R193: marks of an order slot. -/
def markPosted : Word := 1
def markTaken : Nat := 2
def markDone : Nat := 3
/-- R194: marks of a record slot. -/
def markFree : Word := 0
def markFilled : Nat := 1

/-! ### Attention -/

def State.modControl (s : State) (f : Control → Control) : State := { s with control := f s.control }

/-- R187: the enable of a cause in ATTENTION MASK. -/
def Control.enabled (c : Control) (k : Cause) : Bool := c.attentionMask.getLsbD k.code

/-- R187: raising a cause sets its flag if its enable is 1 at that moment. -/
def raise (k : Cause) (s : State) : State :=
  s.modControl fun c => if c.enabled k then { c with attention := c.attention.set k.index true } else c

/-- R187: the attention line. -/
def attentionLine (s : State) : Bool := s.control.attnEnable && s.control.attention.toList.any id

/-- R187: the place of the highest-priority pending flag. -/
def firstPending (c : Control) : Option (Fin 9) := (List.finRange 9).find? fun i => c.attention.get i

/-! ### Registers -/

def bit (b : Bool) : Nat := if b then 1 else 0

/-- R190: the offset of a register from the register base. -/
def registerOffset : Register → Nat
  | .control => 0x00 | .state => 0x04 | .stationBase => 0x08 | .attention => 0x0C | .attentionMask => 0x10

/-- R190: the register that the register bus finds at an offset, if any. -/
def registerAt (offset : Nat) : Option Register :=
  [Register.control, .state, .stationBase, .attention, .attentionMask].find? fun r => registerOffset r == offset

/-- R190: what a read of each register shows. A read of ATTENTION also clears a flag; that is a step of its
own (R187). -/
def readRegister (s : State) : Register → Word
  | .control =>
    BitVec.ofNat 32 (bit s.control.run + 2 * bit s.control.holdReset + 8 * bit s.control.attnEnable)
  | .state =>
    BitVec.ofNat 32 (s.control.part.code + 2 ^ 8 * s.control.result.code + 2 ^ 16 * bit s.slotPath.lineHw.present
      + 2 ^ 17 * bit s.slotPath.retHw.present + 2 ^ 24 * s.control.recordsDropped)
  | .stationBase => s.control.stationBase
  | .attention =>
    match firstPending s.control with
    | some i => BitVec.ofNat 32 (i.val + 1)
    | none => 0
  | .attentionMask => s.control.attentionMask

/-! ### Draft flags and counts -/

/-- R150: recording in the symbol list; the 33rd entry sets LIST_FULL instead. -/
def Draft.record (e : ListEntry) (d : Draft) : Draft :=
  if d.symbols.length < Config.symbolList then { d with symbols := d.symbols ++ [e] } else { d with listFull := true }

/-- R152: recording a symbol, which sets ESCAPE_USED when it is an escaped one. -/
def Draft.recordTone (t : Tone) (escaped : Bool) (d : Draft) : Draft :=
  { d.record (.tone t) with escapeUsed := d.escapeUsed || escaped }

/-- R151: the counts, each saturating at 255. -/
def Draft.countSent (d : Draft) : Draft := { d with sent := satSucc 255 d.sent }
def Draft.countGlitch (d : Draft) : Draft := { d with glitch := satSucc 255 d.glitch }
def Draft.countIgnored (d : Draft) : Draft := { d with ignored := satSucc 255 d.ignored }
def Draft.countProceedLoss (d : Draft) : Draft := { d with proceedLoss := satSucc 255 d.proceedLoss }

/-- R194: the flags byte of a record. -/
def Draft.flagsByte (d : Draft) : Nat :=
  bit d.follow + 2 * bit d.incoming + 4 * bit d.escapeUsed + 8 * bit d.emergency + 16 * bit d.unmatched
    + 32 * bit d.clipped + 64 * bit d.queueFull + 128 * bit d.listFull

end Sys2Proof.Machine
end

