-- ==== Sys2Proof/Machine/Ops.lean ====
section
/-! DEFINITION. Named reads and updates of the blocks, the timers (R71), the memory port (R169 to R171) and the
free choices (log 4). -/

namespace Sys2Proof.Machine

/-! ### Reads -/

def State.line (s : State) (n : LineNo) : LineCtx := s.lines.get n
def State.classifier (s : State) (n : LineNo) : Classifier := s.classifiers.get n
def State.estimator (s : State) (n : LineNo) : Estimator := s.estimators.get n
def State.gen (s : State) (g : GenNo) : Generator := s.pool.gens.get g
def State.setting (s : State) (n : LineNo) : LineSetting := s.settings.lines.get n
def State.bank (s : State) (b : BankNo) : Bank := s.plan.banks.get b
def State.running (s : State) : Bool := s.control.part == .running
def State.stopping (s : State) : Bool := s.control.part == .stopping

/-- The profile the line's setting names, as the store holds it now (R20, R84). -/
def State.namedProfile (s : State) (n : LineNo) : Profile := s.settings.profiles.get (s.setting n).profile

/-- The profile bound to the line (R61); a line without one is read through its setting. -/
def State.boundProfile (s : State) (n : LineNo) : Profile := (s.line n).bound.getD (s.namedProfile n)

/-- R20: the profile whose windows the classifier uses: the store's while the line is IDLE, else the bound one. -/
def State.windows (s : State) (n : LineNo) : Profile :=
  if (s.line n).state = .idle then s.namedProfile n else s.boundProfile n

/-- The generator attached to a line, if any (R115). -/
def genOf (s : State) (n : LineNo) : Option GenNo :=
  (List.finRange Config.generators).find? fun g => (s.gen g).attached == some n

/-- R28 to R34: a pulse is in progress. -/
def PulseState.inProgress : PulseState → Bool
  | .steadyOpen => false
  | .steadyClosed => false
  | .brk => true
  | .make => true
  | .longOpen => true

/-! ### Updates -/

def State.modSlotPath (s : State) (f : SlotPath → SlotPath) : State := { s with slotPath := f s.slotPath }
def State.modClassifier (s : State) (n : LineNo) (f : Classifier → Classifier) : State :=
  { s with classifiers := s.classifiers.set n (f (s.classifiers.get n)) }
def State.modEstimator (s : State) (n : LineNo) (f : Estimator → Estimator) : State :=
  { s with estimators := s.estimators.set n (f (s.estimators.get n)) }
def State.modLine (s : State) (n : LineNo) (f : LineCtx → LineCtx) : State :=
  { s with lines := s.lines.set n (f (s.lines.get n)) }
def State.modSettings (s : State) (f : Settings → Settings) : State := { s with settings := f s.settings }
def State.modPlan (s : State) (f : Plan → Plan) : State := { s with plan := f s.plan }
def State.modBank (s : State) (b : BankNo) (f : Bank → Bank) : State :=
  s.modPlan fun p => { p with banks := p.banks.set b (f (p.banks.get b)) }
def State.modPool (s : State) (f : Pool → Pool) : State := { s with pool := f s.pool }
def State.modGen (s : State) (g : GenNo) (f : Generator → Generator) : State :=
  s.modPool fun p => { p with gens := p.gens.set g (f (p.gens.get g)) }
def State.modVoice (s : State) (g : GenNo) (f : Voice → Voice) : State :=
  { s with voices := s.voices.set g (f (s.voices.get g)) }
def State.modWriter (s : State) (f : Writer → Writer) : State := { s with writer := f s.writer }
def State.modOrders (s : State) (f : Orders → Orders) : State := { s with orders := f s.orders }
def State.modPort (s : State) (f : Port → Port) : State := { s with port := f s.port }

/-- Every line in turn, in ascending order (log 15). -/
def eachLine (f : LineNo → State → State) (s : State) : State :=
  (List.finRange Config.lines).foldl (fun s n => f n s) s

/-! ### Timers -/

/-- Place of a line timer in the order of the READ_LINE snapshot (R197). -/
def TimerKind.index : TimerKind → Fin 8
  | .firstDigit => 0
  | .complete => 1
  | .quiet => 2
  | .proceed => 3
  | .generatorWait => 4
  | .escape => 5
  | .muteTail => 6
  | .flashOut => 7

/-- R71: it expires at the event at which its count reaches its length. -/
def Timer.expired : Timer → Bool
  | .stopped => false
  | .running c l => l ≤ c

def Timer.isRunning : Timer → Bool
  | .stopped => false
  | .running _ _ => true

/-- R71: a running timer counts a millisecond event; one whose expiry is due counts no further. -/
def Timer.tick : Timer → Timer
  | .stopped => .stopped
  | .running c l => if c < l then .running (c + 1) l else .running c l

/-- R71: a running timer set to zero. -/
def Timer.zero : Timer → Timer
  | .stopped => .stopped
  | .running _ l => .running 0 l

def LineCtx.timer (c : LineCtx) (k : TimerKind) : Timer := c.timers.get k.index
def LineCtx.setTimer (c : LineCtx) (k : TimerKind) (t : Timer) : LineCtx :=
  { c with timers := c.timers.set k.index t }
def LineCtx.startTimer (c : LineCtx) (k : TimerKind) (length : Nat) : LineCtx := c.setTimer k (.running 0 length)
def LineCtx.stopTimer (c : LineCtx) (k : TimerKind) : LineCtx := c.setTimer k .stopped
def LineCtx.zeroTimer (c : LineCtx) (k : TimerKind) : LineCtx := c.setTimer k (c.timer k).zero

/-- A change of the open draft; nothing while none is open or an unrecorded episode stands (R65). -/
def LineCtx.mapDraft (f : Draft → Draft) (c : LineCtx) : LineCtx :=
  match c.draft with
  | .opened d => { c with draft := .opened (f d) }
  | .none => c
  | .unrecorded => c

/-! ### Free choices -/

/-- Place in a list of `len` events of the one taken first: 0 when there is one, else a free choice (log 4). -/
def choose (s : State) (len : Nat) : Nat := if len ≤ 1 then 0 else Config.eventOrder s.draws % len

def State.draw (s : State) : State := { s with draws := s.draws + 1 }

/-! ### The memory port -/

/-- R169: the window number, bits 23 to 20. -/
def stationWindow (sa : Word) : WindowNo := ⟨sa.toNat / 2 ^ 20 % 16, Nat.mod_lt _ (by decide)⟩
/-- R169: the offset, bits 19 to 0. -/
def stationOffset (sa : Word) : Nat := sa.toNat % 2 ^ 20

/-- R169: the port's check of an access made through a station address. -/
def accessAllowed (ws : Table 16 Window) (sa : Word) (len : Nat) (write : Bool) : Bool :=
  let w := ws.get (stationWindow sa)
  sa.toNat / 2 ^ 24 == 0 && w.pages != 0 && w.access && stationOffset sa + len ≤ w.pages * 4096
    && (!write || w.write)

/-- R169: an allowed access is made at the window's base plus the offset. -/
def physical (ws : Table 16 Window) (sa : Word) : Nat := (ws.get (stationWindow sa)).base + stationOffset sa

/-- A read of `len` bytes at a station address. -/
def readAccess (s : State) (p : Purpose) (sa : Word) (len : Nat) : Access :=
  { purpose := p, addr := physical s.port.windows sa, length := len, data := [], window := none, abandoned := none }

/-- A write of `data` at a station address. -/
def writeAccess (s : State) (p : Purpose) (sa : Word) (data : List Byte) : Access :=
  { purpose := p, addr := physical s.port.windows sa, length := data.length, data,
    window := some (stationWindow sa), abandoned := none }

/-- R170: the write of a window entry's flags with TOUCHED set, ACCESS and WRITE as read at the start. -/
def touchedAccess (base : Word) (w : WindowNo) (win : Window) : Access :=
  { purpose := .touchedWrite, addr := base.toNat + 0x20 + 8 * w.val + 6, length := 1,
    data := byte (bit win.access + 2 * bit win.write + 4), window := some w, abandoned := none }

/-- R169, R170: an access goes on the bus, behind a TOUCHED write if it is the first write through its window. -/
def placeOnBus (base : Word) (a : Access) (p : Port) : Port :=
  match a.window with
  | none => { p with inFlight := some a }
  | some w =>
    if (p.windows.get w).touched then { p with inFlight := some a }
    else { p with inFlight := some (touchedAccess base w (p.windows.get w)), behind := some a }

/-- R171: a free port serves the start sequencer first, then the record writer, then the order unit. -/
def servePort (base : Word) (p : Port) : Port :=
  match p.inFlight with
  | some _ => p
  | none =>
    match p.waitStart with
    | some a => placeOnBus base a { p with waitStart := none }
    | none =>
      match p.waitWriter with
      | some a => placeOnBus base a { p with waitWriter := none }
      | none =>
        match p.waitOrder with
        | some a => placeOnBus base a { p with waitOrder := none }
        | none => p

def portServe (s : State) : State := s.modPort (servePort s.control.stationBase)

/-- The access on the bus leaves it. -/
def freeBus (s : State) : State := s.modPort fun p => { p with inFlight := none }

/-- R186: no access in flight and none waiting. -/
def Port.quiet (p : Port) : Bool :=
  p.inFlight.isNone && p.behind.isNone && p.waitStart.isNone && p.waitWriter.isNone && p.waitOrder.isNone

end Sys2Proof.Machine
end

