-- ==== Sys2Proof/Machine/Drafts.lean ====
section
/-! DEFINITION. Opening and closing drafts (R149, R153, R154), the closed-draft FIFO and the record writer's
search pass (R156, R157), and the record body (R194). -/

namespace Sys2Proof.Machine

/-! ### The record writer -/

/-- R155: station address of record slot `i`. -/
def recordSlot (w : Writer) (i : Nat) : Word := w.area + BitVec.ofNat 32 (64 * i)

/-- R157: the slot whose mark the pass reads next. -/
def Writer.searchSlot (w : Writer) : Nat := (w.cursor + w.examined) % w.slots

/-- R157: the read of the next mark is asked for. -/
def readRecordMark (s : State) : State :=
  s.modPort fun p =>
    { p with waitWriter := some (readAccess s .recordMarkRead (recordSlot s.writer s.writer.searchSlot) 4) }

/-- R157: a search pass for the head draft begins at the cursor; with nothing waiting the writer is IDLE.
`retry` marks a pass begun by a sweep event while PARKED (R159). -/
def beginPass (retry : Bool) (s : State) : State :=
  match s.writer.fifo with
  | [] => s.modWriter fun w => { w with state := .idle, retry := false }
  | _ :: _ => readRecordMark (s.modWriter fun w => { w with state := .searching, examined := 0, retry })

/-- R153, R156: a closed draft joins the tail; an IDLE writer begins a pass for it. -/
def joinFifo (d : ClosedDraft) (s : State) : State :=
  let t := s.modWriter fun w => { w with fifo := w.fifo ++ [d] }
  if s.writer.state = .idle then beginPass false t else t

/-- R149: a closed draft of the line waits in the FIFO. -/
def closedWaiting (s : State) (n : LineNo) : Bool := s.writer.fifo.any fun d => d.draft.line == n

/-! ### Opening and closing -/

/-- R146: the line's attached generator has its CLIP indicator set. -/
def attachedClip (s : State) (n : LineNo) : Bool :=
  match genOf s n with
  | some g => (s.gen g).clip
  | none => false

/-- R149: the draft an opening event makes. -/
def newDraft (s : State) (n : LineNo) : Draft :=
  { line := n, seizureId := (s.line n).seizureId, follow := (s.line n).draftOpened, openTime := s.slotPath.runClock,
    symbols := [], numberLen := 0, toSend := 0, sent := 0, glitch := 0, ignored := 0, proceedLoss := 0,
    unrecorded := (s.line n).pendingUnrecorded, bank := none, entry := none, action := none,
    incoming := (s.line n).answered, escapeUsed := false, emergency := false, unmatched := false,
    clipped := attachedClip s n, queueFull := false, listFull := false }

/-- R75: the quiet timer starts from zero. -/
def LineCtx.startQuiet (p : Profile) (c : LineCtx) : LineCtx := c.startTimer .quiet p.quietMs

/-- R149, R154: a draft opens, or an unrecorded episode begins where a closed draft of the line still waits. In
CONVERTING the quiet timer starts (R75). -/
def openDraft (n : LineNo) (s : State) : State :=
  s.modLine n fun c =>
    let d : LineCtx :=
      if closedWaiting s n then { c with draft := .unrecorded }
      else { c with draft := .opened (newDraft s n), pendingUnrecorded := 0 }
    let e : LineCtx := { d with draftOpened := true, answered := false }
    if c.state = .converting then e.startQuiet (s.boundProfile n) else e

/-- R65: "a draft is open" holds also while an unrecorded episode stands. -/
def LineCtx.hasDraft (c : LineCtx) : Bool :=
  match c.draft with
  | .none => false
  | .opened _ => true
  | .unrecorded => true

def ensureDraft (n : LineNo) (s : State) : State := if (s.line n).hasDraft then s else openDraft n s

/-- R153, R154: the open draft closes with a cause and joins the FIFO, or the unrecorded episode ends and is
counted. The quiet timer stops (R75). -/
def closeDraft (n : LineNo) (cause : CloseCause) (s : State) : State :=
  match (s.line n).draft with
  | .none => s
  | .unrecorded =>
    s.modLine n fun c =>
      { c.stopTimer .quiet with draft := .none, pendingUnrecorded := satSucc 255 c.pendingUnrecorded }
  | .opened d =>
    joinFifo { draft := d, closeTime := s.slotPath.runClock, p := (s.estimator n).p, cause }
      (s.modLine n fun c => { c.stopTimer .quiet with draft := .none })

/-- A change of the open draft of a line. -/
def inDraft (n : LineNo) (f : Draft → Draft) (s : State) : State := s.modLine n fun c => c.mapDraft f

/-! ### The record -/

/-- R194: the plan byte. -/
def Draft.planByte (d : Draft) : Nat :=
  (match d.bank with | some b => b.val | none => 3) + 16 * (match d.action with | some a => a.code | none => 0)

/-- R194: bytes 0x04 to 0x3F of the record. -/
def recordBody (seq : Word) (c : ClosedDraft) : List Byte :=
  toLE 4 seq.toNat ++ toLE 4 c.draft.openTime.toNat ++ toLE 4 c.closeTime.toNat ++ toLE 2 c.draft.seizureId.toNat
    ++ toLE 2 c.p ++ byte c.draft.line.val ++ byte c.cause.code ++ byte c.draft.flagsByte ++ byte c.draft.numberLen
    ++ byte c.draft.planByte ++ byte (c.draft.entry.getD 0xFF) ++ byte c.draft.toSend ++ byte c.draft.sent
    ++ byte c.draft.glitch ++ byte c.draft.ignored ++ byte c.draft.proceedLoss ++ byte c.draft.unrecorded
    ++ c.draft.symbols.map (fun e => BitVec.ofNat 8 e.code)
    ++ List.replicate (Config.symbolList - c.draft.symbols.length) 0xFF

end Sys2Proof.Machine
end

