-- ==== Sys2Proof/Machine/Pool.lean ====
section
/-! DEFINITION. The generator pool: requests, the wait list, grants, preemption and release (06), and what a
line's events set going in it. -/

namespace Sys2Proof.Machine

/-! ### The wait list (R114) -/

def ServiceClass.rank : ServiceClass → Nat
  | .a => 0
  | .b => 1
  | .c => 2

/-- R114: `a` stands before `b` in grant order: by class, then preempted entries first, then as they joined. -/
def WaitEntry.before (a b : WaitEntry) : Bool :=
  a.cls.rank < b.cls.rank ||
    (a.cls.rank == b.cls.rank && ((a.preempted && !b.preempted) || (a.preempted == b.preempted && a.join < b.join)))

/-- An entry takes its place in grant order. -/
def insertWait (e : WaitEntry) : List WaitEntry → List WaitEntry
  | [] => [e]
  | x :: xs => if e.before x then e :: x :: xs else x :: insertWait e xs

def waitEntry (s : State) (n : LineNo) : Option WaitEntry := s.pool.waitList.find? fun e => e.line == n

def isWaiting (s : State) (n : LineNo) : Bool := (waitEntry s n).isSome

/-- R77: the generator-wait timer starts from zero for a claim of class B or C. -/
def startGeneratorWait (n : LineNo) (cls : ServiceClass) (s : State) : State :=
  if cls = .a then s
  else s.modLine n fun c => c.startTimer .generatorWait (s.boundProfile n).genWaitMs

/-- R114: a line joins the wait list with an entry time of now. -/
def joinWait (n : LineNo) (cls : ServiceClass) (preempted : Bool) (s : State) : State :=
  startGeneratorWait n cls <| s.modPool fun p =>
    { p with
      waitList := insertWait { line := n, cls, entryTime := s.slotPath.runClock, preempted, join := p.joins } p.waitList,
      joins := p.joins + 1 }

/-- R77, R112: a line leaves the wait list and its generator-wait timer stops. -/
def leaveWait (n : LineNo) (s : State) : State :=
  (s.modPool fun p => { p with waitList := p.waitList.filter fun e => e.line != n }).modLine n fun c =>
    c.stopTimer .generatorWait

/-! ### Requests (R112, R113) -/

def QueueEntry.isOrder (e : QueueEntry) : Bool :=
  match e.origin with
  | .subscriber => false
  | .order _ => true

/-- The class the SEND_TONES order in progress on the line gives (R113). -/
def orderClass (s : State) (n : LineNo) : Option ServiceClass :=
  match s.orders.current with
  | some { work := .sendTones m cls _ _ _, .. } => if m = n then some cls else none
  | _ => none

/-- R113: the request class of a line. -/
def requestClass (s : State) (n : LineNo) : ServiceClass :=
  match (s.line n).state, (s.line n).decision with
  | .sending, some d => d.cls
  | _, _ =>
    if (s.line n).queue.any QueueEntry.isOrder then (orderClass s n).getD (s.setting n).cls else (s.setting n).cls

/-- R112, third condition. -/
def permitted (s : State) (n : LineNo) : Bool := s.slotPath.proceed.get n || !(s.boundProfile n).waitProceed

/-- R112: the state condition of a request. -/
def LineState.mayRequest : LineState → Bool
  | .seized => true
  | .sending => true
  | .converting => true
  | .disabled => false
  | .idle => false
  | .collecting => false
  | .lockout => false

/-- R112: all five conditions of a request. -/
def requests (s : State) (n : LineNo) : Bool :=
  (s.line n).state.mayRequest && !(s.line n).queue.isEmpty && permitted s n && (genOf s n).isNone && !isWaiting s n

/-- R113: a new class in the wait-list entry of a line, which takes its place in that class; a change from A starts the
generator-wait timer, a change to A stops it. -/
def reclassWaiting (n : LineNo) (cls : ServiceClass) (s : State) : State :=
  match waitEntry s n with
  | none => s
  | some e =>
    let moved := s.modPool fun p =>
      { p with waitList := insertWait { e with cls } (p.waitList.filter fun x => x.line != n) }
    if e.cls = .a then startGeneratorWait n cls moved
    else if cls = .a then moved.modLine n fun c => c.stopTimer .generatorWait
    else moved

/-- R113: a new served class in the generator a line holds. -/
def reclassGen (n : LineNo) (cls : ServiceClass) (s : State) : State :=
  match genOf s n with
  | none => s
  | some g => s.modGen g fun x => { x with served := some cls }

/-- R113: the request class is formed afresh for a line that waits or holds a generator. -/
def formClassAfresh (n : LineNo) (s : State) : State :=
  reclassGen n (requestClass s n) (reclassWaiting n (requestClass s n) s)

/-! ### A generator at work -/

/-- R141: a resonator as an entry into ON sets it from the table's derived values. -/
def Derived.load (d : Derived) : Resonator :=
  { silent := d.silent, coefficient := d.coefficient, start := d.start, y1 := 0, y2 := 0 }

/-- R118, R122, R123, R141: the generator enters ON for the head of its line's queue, which begins sending. -/
def enterOn (g : GenNo) (s : State) : State :=
  match (s.gen g).attached with
  | none => s
  | some n =>
    match (s.line n).queue with
    | [] => s
    | e :: rest =>
      let tone := s.settings.tones.get e.symbol
      ((s.modGen g fun x => { x with state := .on, timer := .running 0 (s.boundProfile n).toneOnMs }).modVoice g
        fun _ => { index := 0, low := tone.low.load, high := tone.high.load }).modLine n
        fun c => { c with queue := { e with begun := true } :: rest }

/-- R125, steps 1 to 3. The CLIP indicator stays as it is (R145). -/
def releaseGen (g : GenNo) (s : State) : State :=
  s.modGen g fun x => { x with state := .free, attached := none, served := none, timer := .stopped }

/-- R82, step 3: the generator attached to the line, if any, is released. -/
def releaseOf (n : LineNo) (s : State) : State :=
  match genOf s n with
  | some g => releaseGen g s
  | none => s

/-- R122, R125: the decided number of a SENDING line ends: its draft closes COMPLETE, the decision is absent, and
the line is CONVERTING with no draft open. -/
def endNumber (n : LineNo) (s : State) : State :=
  (closeDraft n .complete s).modLine n fun c => { c with decision := none, state := .converting }

/-- R122: the decision's sent count has reached its to-send count, on a SENDING line. -/
def numberFinished (s : State) (n : LineNo) : Bool :=
  (s.line n).state == .sending &&
    match (s.line n).decision with
    | some d => d.toSend ≤ d.sent
    | none => false

/-- R125: a preemption or a clearing of PROCEED releases a generator; from GAP it ends a finished number. -/
def releaseEarly (g : GenNo) (n : LineNo) (s : State) : State :=
  if (s.gen g).state = .gap ∧ numberFinished s n = true then endNumber n (releaseGen g s) else releaseGen g s

/-! ### Grants (R116 to R118) -/

def isFree (s : State) (g : GenNo) : Bool := (s.gen g).state == .free

def firstFree (s : State) : Option GenNo := (List.finRange Config.generators).find? (isFree s)

def freeCount (s : State) : Nat := ((List.finRange Config.generators).filter (isFree s)).length

/-- R117: classes A and B are always eligible, class C when the FREE generators exceed the reserve. -/
def eligible (s : State) (e : WaitEntry) : Bool := e.cls != .c || s.pool.reserve < freeCount s

/-- R118. -/
def grant (g : GenNo) (e : WaitEntry) (s : State) : State :=
  enterOn g <| (leaveWait e.line s).modGen g fun x =>
    { x with attached := some e.line, served := some e.cls, clip := false }

/-- R116: grants go on until no FREE generator or no eligible claim remains; each takes a generator, so sixteen
rounds do. -/
def arbitrate : Nat → State → State
  | 0, s => s
  | k + 1, s =>
    match firstFree s, s.pool.waitList.find? (eligible s) with
    | some g, some e => arbitrate k (grant g e s)
    | _, _ => s

/-! ### Preemption (R119, R120) -/

/-- R119: the generator to take: the lowest in HOLD, else the lowest in ON or GAP that serves class C. -/
def victim (s : State) : Option GenNo :=
  match (List.finRange Config.generators).find? fun g => (s.gen g).state == .hold with
  | some g => some g
  | none =>
    (List.finRange Config.generators).find? fun g =>
      ((s.gen g).state == .on || (s.gen g).state == .gap) && (s.gen g).served == some .c

/-- R120: preemption releases the generator; its line rejoins the list at once, ahead of its class, if symbols are
queued. -/
def preempt (g : GenNo) (s : State) : State :=
  match (s.gen g).attached with
  | none => releaseGen g s
  | some n =>
    let cls := (s.gen g).served.getD (requestClass s n)
    let t := releaseEarly g n s
    if requests t n then joinWait n cls true t else t

/-- R119: one generator for each class A claim still waiting, while none is FREE and some is preemptable. -/
def preemptAll : Nat → State → State
  | 0, s => s
  | k + 1, s =>
    if (s.pool.waitList.any fun e => e.cls == .a) && (firstFree s).isNone then
      match victim s with
      | some g => preemptAll k (arbitrate Config.generators (preempt g s))
      | none => s
    else s

/-- R116, R119, R126: the pool makes its grants and preemptions; it works while the part is RUNNING. It looks at every
claim after each event of a line, so a claim re-formed to class A or B (R113) is granted then too (log 32). -/
def poolRun (s : State) : State :=
  if s.running then preemptAll Config.generators (arbitrate Config.generators s) else s

/-! ### After each event on a line -/

/-- R123: a symbol that joined the queue of a line whose generator is in HOLD sets it playing. -/
def wakeHold (n : LineNo) (s : State) : State :=
  match genOf s n with
  | some g => if (s.gen g).state = .hold ∧ (s.line n).queue ≠ [] then enterOn g s else s
  | none => s

/-- R112: a waiting line whose permission or symbols are gone leaves the list. -/
def withdrawIfNot (n : LineNo) (s : State) : State :=
  if isWaiting s n && (!permitted s n || (s.line n).queue.isEmpty) then leaveWait n s else s

/-- R112: the line raises its request; the claim stands in the list in grant order for the arbiter (R116). -/
def raiseRequest (n : LineNo) (s : State) : State :=
  if requests s n then joinWait n (requestClass s n) false s else s

/-- R76: the four conditions of the proceed timer. -/
def proceedWaits (s : State) (n : LineNo) : Bool :=
  (s.line n).bound.isSome && !(s.line n).queue.isEmpty && (genOf s n).isNone && (s.boundProfile n).waitProceed
    && !s.slotPath.proceed.get n

/-- R76: the proceed timer starts from zero when its conditions come to hold and stops when one ceases. -/
def watchProceed (n : LineNo) (s : State) : State :=
  if proceedWaits s n then
    if ((s.line n).timer .proceed).isRunning then s
    else s.modLine n fun c => c.startTimer .proceed (s.boundProfile n).proceedWaitMs
  else s.modLine n fun c => c.stopTimer .proceed

/-- R112: "The line controller checks the conditions after each event it takes on the line." Outside RUNNING it
takes none (R126). -/
def afterEvent (n : LineNo) (s : State) : State :=
  if s.running then poolRun (watchProceed n (raiseRequest n (withdrawIfNot n (wakeHold n s)))) else s

/-! ### A change of PROCEED (R3, R124) -/

/-- R124: what a clearing of PROCEED does to the generator of a line that waits for PROCEED. -/
def cutByProceed (n : LineNo) (s : State) : State :=
  match genOf s n with
  | none => s
  | some g =>
    if (s.gen g).state = .on then releaseGen g (inDraft n Draft.countProceedLoss s) else releaseEarly g n s

/-- R3: the PROCEED change delivered to a line's context and to the pool. -/
def proceedChanged (n : LineNo) (s : State) : State :=
  if s.running then
    afterEvent n (if !s.slotPath.proceed.get n && (s.boundProfile n).waitProceed then cutByProceed n s else s)
  else s

end Sys2Proof.Machine
end

