-- ==== Sys2Proof/Machine/PlanTable.lean ====
section
/-! DEFINITION. The plan table: matching (R94), the matcher's decisions (R95, R96), what a decision sends (R98),
and binding (R93). -/

namespace Sys2Proof.Machine

/-- R90: a pattern position matches a symbol; ANY matches the digits 0 to 9. -/
def PatternSymbol.matchesTone : PatternSymbol → Tone → Bool
  | .tone a, b => a == b
  | .any, b => b.val ≤ 9

/-- R94: the first min(n, L) positions of N match. -/
def PlanEntry.agrees (e : PlanEntry) (number : List Tone) : Bool :=
  (e.pattern.zip number).all fun x => x.1.matchesTone x.2

/-- R94: a candidate. -/
def PlanEntry.candidate (e : PlanEntry) (number : List Tone) : Bool :=
  number.length ≤ e.maxLen && e.agrees number

/-- R94: a bound candidate. -/
def PlanEntry.boundFor (e : PlanEntry) (number : List Tone) : Bool :=
  e.candidate number && e.pattern.length ≤ number.length

/-- R94: an open candidate. -/
def PlanEntry.openFor (e : PlanEntry) (number : List Tone) : Bool :=
  e.candidate number && number.length < e.pattern.length

/-- R94: of entries from index `i` on, the bound candidate with the longest pattern, the lowest index among equals. -/
def selectFrom (number : List Tone) : Nat → List PlanEntry → Option (Nat × PlanEntry)
  | _, [] => none
  | i, e :: es =>
    match selectFrom number (i + 1) es with
    | none => if e.boundFor number then some (i, e) else none
    | some (j, f) =>
      if e.boundFor number && f.pattern.length ≤ e.pattern.length then some (i, e) else some (j, f)

/-- R94: the selected entry and its index. -/
def selected (entries : List PlanEntry) (number : List Tone) : Option (Nat × PlanEntry) :=
  selectFrom number 0 entries

def hasCandidate (entries : List PlanEntry) (number : List Tone) : Bool := entries.any fun e => e.candidate number
def hasOpen (entries : List PlanEntry) (number : List Tone) : Bool := entries.any fun e => e.openFor number

/-- The decision the unmatched action makes (R95, R96). -/
def unmatchedVerdict : UnmatchedAction → Verdict
  | .pass => .unmatchedPass
  | .bar => .unmatchedBar

/-- R95: after each tone symbol: cases (a), (b), (c), or none (wait). -/
def matchSymbol (entries : List PlanEntry) (u : UnmatchedAction) (number : List Tone) : Option Verdict :=
  if !hasCandidate entries number && u == .bar then some .unmatchedBar
  else
    match selected entries number with
    | some (i, e) =>
      if number.length == e.maxLen && !hasOpen entries number then some (.entry i e)
      else if number.length == Config.numberRegister then some (.entry i e)
      else none
    | none => if number.length == Config.numberRegister then some (unmatchedVerdict u) else none

/-- R96: when the complete timer expires: cases (d), (e), (f), (g). -/
def matchExpiry (entries : List PlanEntry) (u : UnmatchedAction) (number : List Tone) : Verdict :=
  match selected entries number with
  | some (i, e) => if e.minLen ≤ number.length then .entry i e else .incomplete
  | none => if hasCandidate entries number then .incomplete else unmatchedVerdict u

/-- R98: the symbols an entry sends. -/
def PlanEntry.sends (e : PlanEntry) (number : List Tone) : List Tone :=
  match e.action with
  | .pass => number
  | .prepend => e.insert ++ number
  | .stripPrepend => e.insert ++ number.drop e.strip
  | .bar => []

/-- R93: the line binds the bank the active pointer names. -/
def bindBank (n : LineNo) (s : State) : State :=
  let b := s.plan.active
  (s.modBank b fun x => { x with refCount := x.refCount + 1 }).modLine n fun c =>
    { c with boundBank := some b }.mapDraft fun d => { d with bank := some b }

/-- R93: at an unbinding the bank's reference count falls by 1. -/
def unbindBank (n : LineNo) (s : State) : State :=
  match (s.line n).boundBank with
  | none => s
  | some b =>
    (s.modBank b fun x => { x with refCount := x.refCount - 1 }).modLine n fun c => { c with boundBank := none }

/-- R93: the entries of the bank a line is bound to. -/
def boundEntries (s : State) (n : LineNo) : List PlanEntry :=
  match (s.line n).boundBank with
  | some b => (s.bank b).entries
  | none => []

end Sys2Proof.Machine
end

