-- ==== Sys2Proof/Machine/OrderUnit.lean ====
section
/-! DEFINITION. The order unit's shared operations: scanning (R173), choosing a result (R175), ending an order
early (R176, R177), and the result bytes (R193). -/

namespace Sys2Proof.Machine

/-- R172: station address of order slot `i`. -/
def orderSlot (o : Orders) (i : Nat) : Word := o.area + BitVec.ofNat 32 (64 * i)

/-- An access of the order unit is asked for; it waits for the port (R171). -/
def askOrder (a : Access) (s : State) : State := s.modPort fun p => { p with waitOrder := some a }

/-- R173: the mark of the next slot of the pass is read. -/
def readOrderMark (s : State) : State :=
  let i := (s.orders.passStart + s.orders.examined) % s.orders.slots
  askOrder (readAccess s .orderMarkRead (orderSlot s.orders i) 4)
    (s.modOrders fun o => { o with state := .scanning })

/-- R193: the 24 bytes 0x28 to 0x3F of the result write. Bytes 0x3C to 0x3F, which hold no detail, are written as 0
(log 34, the model's choice). -/
def resultBytes (r : OrderResult) : List Byte :=
  byte r.status.code ++ zeros 3 ++ byte r.details.field ++ byte r.details.bank ++ toLE 2 r.details.index
    ++ toLE 4 r.details.address ++ byte r.details.kind ++ byte r.details.state ++ byte r.details.sent
    ++ byte r.details.unsent ++ byte r.details.cause ++ byte r.details.refCount ++ byte r.details.free
    ++ byte r.details.order ++ zeros 4

/-- A change of the current order. -/
def onCurrent (f : CurrentOrder → CurrentOrder) (s : State) : State :=
  s.modOrders fun o => { o with current := o.current.map f }

/-- R175: the result is chosen; the unit enters COMPLETING and writes status and details as one access. -/
def chooseResult (status : OrderStatus) (details : Details) (s : State) : State :=
  match s.orders.current with
  | none => s
  | some c =>
    let r : OrderResult := { status, details }
    askOrder (writeAccess s .resultWrite (orderSlot s.orders c.slot + 0x28) (resultBytes r))
      (s.modOrders fun o => { o with state := .completing, current := some { c with result := some r } })

/-- R105: a LOAD_PLAN that does not reach STAGED leaves its target EMPTY, its entries discarded. -/
def emptyLoad (w : OrderWork) (s : State) : State :=
  match w with
  | .loadPlan _ b _ => s.modBank b fun x => { x with state := .empty, entries := [] }
  | .none => s
  | .loadProfile _ => s
  | .loadTones _ _ => s
  | .sendTones _ _ _ _ _ => s

/-- R105: the load of the current order, if it is a LOAD_PLAN, leaves its target EMPTY. -/
def emptyCurrentLoad (s : State) : State :=
  match s.orders.current with
  | none => s
  | some c => emptyLoad c.work s

/-- R169: an access made by the order passes the port's check and is asked for, or the order ends WINDOW_FAULT,
the cause is raised, and `index` goes into the details (R105, R139). -/
def orderAccess (purpose : Purpose) (sa : Word) (len : Nat) (data : List Byte) (index : Nat) (s : State) : State :=
  if accessAllowed s.port.windows sa len (!data.isEmpty) then
    askOrder (if data.isEmpty then readAccess s purpose sa len else writeAccess s purpose sa data) s
  else
    chooseResult .windowFault { address := sa.toNat, kind := bit (!data.isEmpty), index } (raise .windowFault (emptyCurrentLoad s))

/-- R105, R131, R139, R176: the details an ABORTED result carries. -/
def abortDetails (w : OrderWork) (s : State) : Details :=
  match w with
  | .none => {}
  | .loadProfile _ => {}
  | .loadTones _ passed => { index := passed.length }
  | .loadPlan _ b _ => { bank := b.val, index := (s.bank b).entries.length }
  | .sendTones _ _ count sent _ => { sent, unsent := count - sent }

/-- The current order ends ABORTED, with the effect on its block that its own rule gives. -/
def endAborted (s : State) : State :=
  match s.orders.current with
  | none => s
  | some c => chooseResult .aborted (abortDetails c.work s) (emptyLoad c.work s)

/-- A purpose of the order unit. -/
def Purpose.isOrder : Purpose → Bool
  | .orderMarkRead => true | .takenWrite => true | .bodyRead => true | .identifyWrite => true
  | .readLineWrite => true | .profileRead => true | .toneRead => true | .planRead => true
  | .resultWrite => true | .doneWrite => true
  | .headerRead => false | .recordMarkRead => false | .recordBodyWrite => false | .recordMarkWrite => false
  | .touchedWrite => false

/-- R176: an access of the order is in flight; the TOUCHED write before one counts with it (R170, log 13). -/
def Port.orderInFlight (p : Port) : Bool :=
  match p.inFlight with
  | none => false
  | some a =>
    a.abandoned.isNone &&
      (a.purpose.isOrder || (a.purpose == .touchedWrite && match p.behind with | some b => b.purpose.isOrder | none => false))

/-- R176: the TAKEN write is still to be made: an order's slot always receives it (R174, log 12). -/
def Port.takenWaits (p : Port) : Bool :=
  match p.waitOrder with
  | some a => a.purpose == .takenWrite
  | none => false

/-- R176: an ABORT of an order that has not chosen its result and is not IN_PROGRESS: at once if no access of it is in
flight, else at that access's completion. -/
def abortAtNextStep (s : State) : State :=
  if s.port.orderInFlight || s.port.takenWaits then onCurrent (fun c => { c with abort := true }) s
  else endAborted (s.modPort fun p => { p with waitOrder := none })

/-- R131: the ORDER entries of the queue that have not begun sending leave it. -/
def dropUnbegun (q : List QueueEntry) : List QueueEntry := q.filter fun e => !e.isOrder || e.begun

/-- R131: an ABORT of a SEND_TONES in progress. -/
def abortSendTones (n : LineNo) (c : CurrentOrder) (s : State) : State :=
  let t := s.modLine n fun x => { x with queue := dropUnbegun x.queue }
  if (t.line n).queue.any QueueEntry.isOrder then
    onCurrent (fun c => match c.work with
      | .sendTones m cls count sent _ => { c with work := .sendTones m cls count sent true }
      | .none => c | .loadProfile _ => c | .loadTones _ _ => c | .loadPlan _ _ _ => c) t
  else
    let u := chooseResult .aborted (abortDetails c.work t) t
    afterEvent n (formClassAfresh n u)

/-- R176: an ABORT. -/
def abortOrder (s : State) : State :=
  match s.orders.current with
  | none => s
  | some c =>
    match s.orders.state with
    | .taking => abortAtNextStep s
    | .executing => abortAtNextStep s
    | .inProgress =>
      match c.work with
      | .sendTones n _ _ _ _ => abortSendTones n c s
      | .none => s
      | .loadProfile _ => s
      | .loadTones _ _ => s
      | .loadPlan _ _ _ => s
    | .completing => s
    | .idle => s
    | .scanning => s

/-- R177: STOPPING ends the current order with ABORTED, a SEND_TONES in progress at once (R132). An order in COMPLETING
keeps the result it has chosen, as at an ABORT (R176; log 33, the model's choice). -/
def stopOrder (s : State) : State :=
  match s.orders.current with
  | none => s
  | some _ =>
    match s.orders.state with
    | .taking => abortAtNextStep s
    | .executing => abortAtNextStep s
    | .inProgress => endAborted s
    | .completing => s
    | .idle => s
    | .scanning => s

/-- R130: a teardown ends a SEND_TONES in progress on the line, CLEARED unless an ABORT has fixed it. -/
def endSendTones (n : LineNo) (cause : CloseCause) (s : State) : State :=
  match s.orders.current, s.orders.state with
  | some { work := .sendTones m _ count sent fixed, .. }, .inProgress =>
    if m = n then
      if fixed then chooseResult .aborted { sent, unsent := count - sent } s
      else chooseResult .cleared { sent, unsent := count - sent, cause := cause.code } s
    else s
  | _, _ => s

end Sys2Proof.Machine
end

