-- ==== Sys2Proof/Machine/LineControl.lean ====
section
/-! DEFINITION. The line controller: teardown (R82, R83), decisions acted on (R99 to R101), symbols in each phase
(R62 to R65), the flash and the escape (R66 to R70), and what the switch sees (R80). -/

namespace Sys2Proof.Machine

/-! ### Teardown -/

/-- R83: the line state a teardown's cause leads to. The causes that tear nothing down leave CONVERTING (R153). -/
def CloseCause.stateAfter : CloseCause → LineState
  | .cleared => .idle
  | .highwayLoss => .idle
  | .stopped => .idle
  | .disabled => .disabled
  | .barred => .lockout
  | .incomplete => .lockout
  | .noProceed => .lockout
  | .noGenerator => .lockout
  | .complete => .converting
  | .quiet => .converting
  | .noDial => .converting

/-- R82: teardown, steps 1 to 8 in order. The grants that a released generator brings (R125) are made by the caller's
`afterEvent`. -/
def teardownSteps (n : LineNo) (cause : CloseCause) (s : State) : State :=
  let ended := endSendTones n cause (releaseOf n (leaveWait n (s.modLine n fun c => { c with queue := [] })))
  let emptied := (unbindBank n ended).modLine n fun c =>
    { c with number := [], decision := none, timers := Table.replicate 8 .stopped }
  (closeDraft n cause emptied).modLine n fun c => { c with escapePending := false, escapedDigit := false }

/-- R83, R61: the state after; in IDLE and DISABLED the bound profile is absent, in IDLE the answered mark is clear. -/
def LineCtx.enterAfter (st : LineState) (c : LineCtx) : LineCtx :=
  match st with
  | .idle => { c with state := .idle, bound := none, answered := false }
  | .disabled => { c with state := .disabled, bound := none }
  | .seized => { c with state := .seized }
  | .collecting => { c with state := .collecting }
  | .sending => { c with state := .sending }
  | .converting => { c with state := .converting }
  | .lockout => { c with state := .lockout }

/-- R82, R83: a teardown and the state it leads to. -/
def teardown (n : LineNo) (cause : CloseCause) (s : State) : State :=
  afterEvent n ((teardownSteps n cause s).modLine n (LineCtx.enterAfter cause.stateAfter))

/-- R40: how a teardown into IDLE other than by a clear or a highway loss leaves the classifier. -/
def Classifier.dropDigit (c : Classifier) : Classifier :=
  { c with
    pulseCount := 0, corrupt := false, dropped := false, firstBreak := none, seizureCount := 0, bound := none,
    change := false,
    pulse := match c.pulse with
      | .brk => .steadyOpen
      | .longOpen => .steadyOpen
      | .make => .steadyClosed
      | .steadyOpen => .steadyOpen
      | .steadyClosed => .steadyClosed }

/-- R42: how a loss of the line highway leaves the classifier of an enabled line. -/
def Classifier.lose (c : Classifier) : Classifier :=
  { c with
    pulseCount := 0, corrupt := false, dropped := false, firstBreak := none, pulse := .steadyOpen, runCount := 0,
    interval := 0, seizureCount := 0, waiting := true, bound := none, change := false }

/-- R41: the classifier is set waiting for a fresh start. -/
def Classifier.await (c : Classifier) : Classifier := { c with waiting := true, bound := none, change := false }

/-- R12, R41, R42: the classifier of a line that enters IDLE at a start of a run or a SET_LINE: waiting for a fresh start,
and, while the line highway is lost, held as a loss leaves it (log 35). -/
def Classifier.enterIdle (present : Bool) (c : Classifier) : Classifier := if present then c.await else c.lose

/-- R59: SEIZED to LOCKOUT. -/
def LineState.seizedOn : LineState → Bool
  | .disabled => false
  | .idle => false
  | .seized => true
  | .collecting => true
  | .sending => true
  | .converting => true
  | .lockout => true

/-! ### Decisions -/

/-- R99, R100: steps 1 and 2 of a decision that sends: the complete timer stops, the bank is unbound, the draft
records the decision; a class A entry raises EMERGENCY (R101). -/
def recordDecision (n : LineNo) (index : Option Nat) (action : PlanAction) (count : Nat) (emergency unmatched : Bool)
    (s : State) : State :=
  let b := (s.line n).boundBank
  let s := unbindBank n (s.modLine n fun c => c.stopTimer .complete)
  let s := inDraft n (fun d => { d with
    bank := b, entry := index, action := some action, toSend := count, emergency := d.emergency || emergency,
    unmatched := d.unmatched || unmatched }) s
  if emergency then raise .emergency s else s

/-- R99, R100: a decision that sends `symbols` at a class; with none, the draft closes COMPLETE and the line is
CONVERTING. -/
def decideSend (n : LineNo) (index : Option Nat) (action : PlanAction) (cls : ServiceClass) (symbols : List Tone)
    (emergency unmatched : Bool) (s : State) : State :=
  let s := recordDecision n index action symbols.length emergency unmatched s
  if symbols.isEmpty then
    (closeDraft n .complete (s.modLine n fun c => { c with number := [] })).modLine n fun c =>
      { c with state := .converting }
  else
    s.modLine n fun c =>
      { c with
        decision := some { cls, toSend := symbols.length, sent := 0 }, number := [],
        queue := c.queue ++ symbols.map fun t => { symbol := t, origin := .subscriber, begun := false },
        state := .sending }

/-- R100: BARRED and INCOMPLETE: the draft records, then the line is torn down into LOCKOUT. -/
def decideRefuse (n : LineNo) (index : Option Nat) (action : Option PlanAction) (cause : CloseCause) (s : State) :
    State :=
  let s := s.modLine n fun c => c.stopTimer .complete
  let b := (s.line n).boundBank
  teardown n cause (inDraft n (fun d => { d with bank := b, entry := index, action, toSend := 0 }) s)

/-- R99, R100: a decision acted on. -/
def actOn (n : LineNo) (v : Verdict) (s : State) : State :=
  match v with
  | .entry i e =>
    match e.action with
    | .bar => decideRefuse n (some i) (some .bar) .barred s
    | .pass => decideSend n (some i) .pass e.cls (e.sends (s.line n).number) (e.cls == .a) false s
    | .prepend => decideSend n (some i) .prepend e.cls (e.sends (s.line n).number) (e.cls == .a) false s
    | .stripPrepend => decideSend n (some i) .stripPrepend e.cls (e.sends (s.line n).number) (e.cls == .a) false s
  | .unmatchedPass => decideSend n none .pass (s.setting n).cls (s.line n).number false true s
  | .unmatchedBar => decideRefuse n none (some .bar) .barred s
  | .incomplete => decideRefuse n none none .incomplete s

/-! ### Symbols in each phase -/

/-- R63, R93: a symbol joins the number register and the draft. -/
def joinNumber (n : LineNo) (t : Tone) (escaped : Bool) (s : State) : State :=
  s.modLine n fun c =>
    let number := c.number ++ [t]
    { c with number }.mapDraft fun d => { d.recordTone t escaped with numberLen := number.length }

/-- R95: the matcher is called for the lengthened number and may decide at once. -/
def callMatcher (n : LineNo) (s : State) : State :=
  match matchSymbol (boundEntries s n) (s.boundProfile n).unmatchedAction (s.line n).number with
  | some v => actOn n v s
  | none => s

/-- R110: a SUBSCRIBER entry joins the queue's tail. -/
def queueSubscriber (n : LineNo) (t : Tone) (s : State) : State :=
  s.modLine n fun c => { c with queue := c.queue ++ [{ symbol := t, origin := .subscriber, begun := false }] }

/-- R75: a line enters CONVERTING; with a draft open the quiet timer starts. -/
def enterConverting (n : LineNo) (s : State) : State :=
  s.modLine n fun c =>
    let d : LineCtx := { c with state := .converting }
    if c.hasDraft then d.startQuiet (s.boundProfile n) else d

/-- R62: the first tone symbol in SEIZED. -/
def symbolSeized (n : LineNo) (t : Tone) (escaped : Bool) (s : State) : State :=
  let s := ensureDraft n s
  match (s.boundProfile n).mode with
  | .enBloc =>
    let s := bindBank n (joinNumber n t escaped (s.modLine n fun c => { c with number := [] }))
    callMatcher n <| s.modLine n fun c =>
      { (c.stopTimer .firstDigit).startTimer .complete (s.boundProfile n).completeMs with state := .collecting }
  | .direct =>
    let s := queueSubscriber n t (inDraft n (Draft.recordTone t escaped) s)
    enterConverting n (s.modLine n fun c => c.stopTimer .firstDigit)

/-- R63: a tone symbol in COLLECTING. -/
def symbolCollecting (n : LineNo) (t : Tone) (escaped : Bool) (s : State) : State :=
  let s := joinNumber n t escaped s
  callMatcher n (s.modLine n fun c => c.startTimer .complete (s.boundProfile n).completeMs)

/-- R65: a tone symbol in CONVERTING. -/
def symbolConverting (n : LineNo) (t : Tone) (escaped : Bool) (s : State) : State :=
  let s := inDraft n (Draft.recordTone t escaped) (ensureDraft n s)
  let s := if (s.line n).queue.length < Config.sendQueue then queueSubscriber n t s
    else inDraft n (fun d => { d with queueFull := true }) s
  s.modLine n fun c => c.zeroTimer .quiet

/-- R62 to R65: a tone symbol taken in the line state of the moment. -/
def takeSymbol (n : LineNo) (t : Tone) (escaped : Bool) (s : State) : State :=
  match (s.line n).state with
  | .seized => symbolSeized n t escaped s
  | .collecting => symbolCollecting n t escaped s
  | .sending => inDraft n Draft.countIgnored s
  | .converting => symbolConverting n t escaped s
  | .lockout => s
  | .idle => s
  | .disabled => s

/-! ### From a completed digit to an outcome (R53, R54) -/

/-- What a digit event comes to. -/
def digitOutcome (p : Profile) (count : Nat) (corrupt escaped : Bool) : ListEntry :=
  if corrupt then .rejectCount
  else if h : 1 ≤ count ∧ count ≤ 10 then
    match p.translation.get ⟨count - 1, by omega⟩ with
    | none => .rejectCount
    | some t =>
      if escaped then
        if d : t.val < 10 then
          match p.escape.get ⟨t.val, d⟩ with
          | some x => .tone x
          | none => .rejectEscape
        else .rejectEscape
      else .tone t
  else .rejectCount

/-- R54, R55: escape pending ends, with its timer. -/
def endEscape (n : LineNo) (s : State) : State :=
  s.modLine n fun c => { c.stopTimer .escape with escapePending := false, escapedDigit := false }

/-- R32, R56: the line controller takes a digit event. -/
def takeDigit (n : LineNo) (count : Nat) (corrupt : Bool) (s : State) : State :=
  let escaped := (s.line n).escapedDigit
  let o := digitOutcome (s.boundProfile n) count corrupt escaped
  let s := if escaped then endEscape n s else s
  afterEvent n <| match o with
    | .tone t => takeSymbol n t escaped s
    | .flash => s
    | .rejectCount => inDraft n (Draft.record .rejectCount) s
    | .rejectOpen => s
    | .rejectEscape => inDraft n (Draft.record .rejectEscape) s

/-- R35, R55, R56: the line controller takes a REJECT_OPEN. -/
def takeRejectOpen (n : LineNo) (s : State) : State :=
  let s := inDraft n (Draft.record .rejectOpen) s
  if (s.line n).escapedDigit then endEscape n s else s

/-! ### The flash -/

/-- R68, R79: the forwarded flash; one under way keeps its length. -/
def forwardFlash (n : LineNo) (s : State) : State :=
  if ((s.line n).timer .flashOut).isRunning then s
  else s.modLine n fun c => c.startTimer .flashOut (s.boundProfile n).flashOutMs

/-- R70: a re-dial. -/
def redial (n : LineNo) (s : State) : State :=
  let s := unbindBank n (inDraft n (fun d => { d.record .flash with numberLen := 0 }) s)
  s.modLine n fun c =>
    { (c.stopTimer .complete).startTimer .firstDigit (1000 * (s.boundProfile n).firstDigitWait) with
      number := [], state := .seized }

/-- R68: a flash acted on plainly, in the line state of the moment. -/
def plainFlash (n : LineNo) (s : State) : State :=
  match (s.line n).state with
  | .seized => inDraft n (Draft.record .flash) (forwardFlash n s)
  | .converting =>
    (inDraft n (Draft.record .flash) (ensureDraft n (forwardFlash n s))).modLine n fun c => c.zeroTimer .quiet
  | .collecting => redial n s
  | .sending => inDraft n Draft.countIgnored s
  | .lockout => s
  | .idle => s
  | .disabled => s

/-- R66: escape pending is set with a new window. -/
def openEscape (n : LineNo) (s : State) : State :=
  s.modLine n fun c =>
    { c.startTimer .escape (s.boundProfile n).escapeWindowMs with escapePending := true, escapedDigit := false }

/-- R66: the states in which a flash may open an escape. -/
def LineState.mayEscape : LineState → Bool
  | .seized => true
  | .collecting => true
  | .converting => true
  | .sending => false
  | .lockout => false
  | .idle => false
  | .disabled => false

/-- R66: the line controller takes a flash event. -/
def takeFlash (n : LineNo) (s : State) : State :=
  afterEvent n <|
    if (s.line n).state.mayEscape && (s.boundProfile n).escapeEnable then
      if (s.line n).escapePending then openEscape n (plainFlash n (endEscape n s)) else openEscape n s
    else plainFlash n s

/-! ### What the switch sees (R80) -/

/-- R80: the mute condition of an enabled line. -/
def muted (s : State) (n : LineNo) : Bool :=
  (s.classifier n).pulse.inProgress || ((s.line n).timer .muteTail).isRunning || (genOf s n).isSome

/-- R80: the cleaned hook flag of an enabled line: true is off-hook. -/
def cleanedHook (s : State) (n : LineNo) : Bool :=
  (s.line n).state.seizedOn && !((s.line n).timer .flashOut).isRunning

end Sys2Proof.Machine
end

