-- ==== Sys2Proof/Machine/LoopClassifier.lean ====
section
/-! DEFINITION. The loop classifier (02) and the period estimator (03): a flag frame, an accepted change, the length
bounds, and the seizure. -/

namespace Sys2Proof.Machine

/-! ### The period estimator -/

/-- R48: IDT from P under a profile. -/
def idtOf (p : Profile) (period : Nat) : Nat :=
  let x := (roundHalfEven ((period * p.idtFactor : Nat) : Int) 8).toNat
  if x < 8 * p.idtFloor then 8 * p.idtFloor else if 8 * p.idtCeiling < x then 8 * p.idtCeiling else x

/-- R46: the sample of a pair. -/
def pairSample (breakLen makeLen : Nat) : Nat := min 4095 (breakLen + makeLen)

/-- R47: P moved toward the sample, rounded half to even. -/
def movePeriod (p : Profile) (period sample : Nat) : Nat :=
  (roundHalfEven ((period : Int) * 2 ^ p.weightShift + ((sample : Int) - (period : Int))) (2 ^ p.weightShift)).toNat

/-- R47, R48: the estimator takes a pair; P and IDT change in one step. -/
def Estimator.take (p : Profile) (breakLen makeLen : Nat) (e : Estimator) : Estimator :=
  let period := movePeriod p e.p (pairSample breakLen makeLen)
  { p := period, idt := idtOf p period }

/-- R45: the load at seizure. -/
def Estimator.load (p : Profile) : Estimator :=
  { p := 8 * p.initPeriodMs, idt := idtOf p (8 * p.initPeriodMs) }

/-! ### A flag frame (R21 to R25) -/

/-- R25: the fresh start. -/
def Classifier.freshStart (closed : Bool) (c : Classifier) : Classifier :=
  { c with
    accepted := closed, pulse := if closed then .steadyClosed else .steadyOpen, interval := 0, runCount := 0,
    pulseCount := 0, seizureCount := 0, corrupt := false, dropped := false, firstBreak := none, waiting := false,
    bound := none, change := false }

/-- R27, R32, R34, R37: the length bound a classifier has reached, under windows `p`. `idle` says the line is IDLE. -/
def Classifier.boundReached (p : Profile) (idle : Bool) (c : Classifier) : Option Bound :=
  if idle then
    if c.accepted && !c.change && 8 * p.seizeMs ≤ c.seizureCount then some .seizure else none
  else
    match c.pulse with
    | .brk => if 8 * p.breakMax + 8 ≤ c.interval then some .longOpen else none
    | .longOpen => if 8 * p.clearMs ≤ c.interval then some .clear else none
    | .make => if c.idtInUse ≤ c.interval then some .digit else none
    | .steadyOpen => none
    | .steadyClosed => none

/-- R22, R24, R26: a flag frame of a classifier that is not waiting: the glitch filter, then the lengths. The change
accepted and the bound reached are marked, to be acted on before the frame is done (R21; log 3). -/
def Classifier.flagFrame (p : Profile) (idle closed : Bool) (c : Classifier) : Classifier :=
  let opposite := closed != c.accepted
  let run := if opposite then c.runCount + 1 else 0
  let change := opposite && 8 * p.glitchMs + 1 ≤ run
  let seize := if idle && c.accepted && !change then c.seizureCount + 1 else c.seizureCount
  let d : Classifier :=
    { c with
      runCount := run, change, interval := satSucc Config.intervalMax c.interval, seizureCount := seize, bound := none }
  { d with bound := d.boundReached p idle }

/-- R23: the flag frame ends a reversal that was not accepted. -/
def Classifier.discards (closed : Bool) (c : Classifier) : Bool :=
  !c.waiting && closed == c.accepted && 0 < c.runCount

/-- R2, R21: the frame's loop flags go to the classifiers of the enabled lines. -/
def classifyFrame (f : LineFrame) (s : State) : State :=
  { s with
    classifiers := Table.ofFn fun n =>
      let c := s.classifier n
      if (s.line n).state = .disabled then c
      else if c.waiting then c.freshStart (f.get n).closed
      else c.flagFrame (s.windows n) ((s.line n).state == .idle) (f.get n).closed
    lines := Table.ofFn fun n =>
      if (s.line n).state ≠ .disabled ∧ (s.classifier n).discards (f.get n).closed = true then
        (s.line n).mapDraft Draft.countGlitch
      else s.line n }

/-! ### An accepted change (R26, R28 to R31, R35, R36) -/

/-- R26: a change accepted in IDLE. -/
def Classifier.acceptIdle (c : Classifier) : Classifier :=
  { c with pulse := if c.accepted then .steadyClosed else .steadyOpen, seizureCount := 0 }

/-- R28, R31: an open accepted on a seized line. -/
def Classifier.acceptOpen (now : Word) (c : Classifier) : Classifier :=
  match c.pulse with
  | .steadyClosed => { c with pulse := .brk, firstBreak := some now, pulseCount := 0, corrupt := false }
  | .make => { c with pulse := .brk }
  | .steadyOpen => c
  | .brk => c
  | .longOpen => c

/-- R29, R30, R33: a close accepted in BREAK, ending an open of `b` frames. -/
def Classifier.acceptBreak (p : Profile) (idt b : Nat) (c : Classifier) : Classifier :=
  let counted := satSucc 63 c.pulseCount
  if isAtLeast b p.breakMin then
    { c with pulseCount := counted, lastBreak := b, lastBreakPulse := true, pulse := .make, idtInUse := idt }
  else { c with pulseCount := counted, corrupt := true, lastBreakPulse := false, pulse := .make, idtInUse := idt }

/-- R78: a close notice starts the mute tail from zero; a length of 0 starts none. -/
def closeNotice (n : LineNo) (s : State) : State :=
  if (s.boundProfile n).muteTailMs = 0 then s
  else s.modLine n fun c => c.startTimer .muteTail (s.boundProfile n).muteTailMs

/-- R22, R24: the accepted level takes the new value, the run count and the interval length return to 0. -/
def Classifier.acceptLevel (c : Classifier) : Classifier :=
  { c with accepted := !c.accepted, runCount := 0, interval := 0, change := false }

/-- R28, R31, R54: an open accepted on a seized line: a break starts a digit, escaped if escape is pending, or
continues one, with a pair for the estimator if the break before the make was a pulse break. -/
def openAccepted (n : LineNo) (len : Nat) (s : State) : State :=
  let c := s.classifier n
  let t := s.modClassifier n (Classifier.acceptOpen s.slotPath.runClock)
  match c.pulse with
  | .steadyClosed => t.modLine n fun x => { x with escapedDigit := x.escapePending }
  | .make => if c.lastBreakPulse then t.modEstimator n (Estimator.take (s.boundProfile n) c.lastBreak len) else t
  | .steadyOpen => t
  | .brk => t
  | .longOpen => t

/-- R35, R36: a close accepted in LONG_OPEN, ending an open of `b` frames: REJECT_OPEN for a dead band, or a flash, after
a REJECT_OPEN if a digit was dropped. -/
def longOpenClosed (n : LineNo) (b : Nat) (s : State) : State :=
  let p := s.windows n
  let dropped := (s.classifier n).dropped
  let t := closeNotice n (s.modClassifier n fun c => { c with pulse := .steadyClosed, dropped := false })
  if isAtLeast b p.flashMin && isAtMost b p.flashMax then takeFlash n (if dropped then takeRejectOpen n t else t)
  else takeRejectOpen n t

/-- R29, R30, R35, R36, R39: a close accepted on a seized line. -/
def closeAccepted (n : LineNo) (len : Nat) (s : State) : State :=
  match (s.classifier n).pulse with
  | .brk => closeNotice n (s.modClassifier n (Classifier.acceptBreak (s.windows n) (s.estimator n).idt len))
  | .longOpen => longOpenClosed n len s
  | .steadyOpen => s.modClassifier n fun c => { c with pulse := .steadyClosed }
  | .steadyClosed => s
  | .make => s

/-- R22: the change is accepted; the interval it ends has the length counted up to this frame. -/
def acceptChange (n : LineNo) (s : State) : State :=
  let len := (s.classifier n).interval
  let t := s.modClassifier n Classifier.acceptLevel
  if (s.line n).state.seizedOn then
    if (t.classifier n).accepted then closeAccepted n len t else openAccepted n len t
  else t.modClassifier n Classifier.acceptIdle

/-! ### The length bounds -/

/-- R34. -/
def enterLongOpen (n : LineNo) (s : State) : State :=
  if 0 < (s.classifier n).pulseCount then
    s.modClassifier n fun c =>
      { c with pulse := .longOpen, pulseCount := 0, corrupt := false, firstBreak := none, dropped := true, bound := none }
  else
    (s.modClassifier n fun c => { c with pulse := .longOpen, bound := none }).modLine n fun x =>
      { x with escapedDigit := false }

/-- R37, R81: the clear: the line is torn down with cause CLEARED into IDLE. -/
def declareClear (n : LineNo) (s : State) : State :=
  teardown n .cleared (s.modClassifier n fun c =>
    { c with pulse := .steadyOpen, dropped := false, seizureCount := 0, bound := none })

/-- R32: the digit in progress completes and the digit event is taken. -/
def completeDigit (n : LineNo) (s : State) : State :=
  let c := s.classifier n
  takeDigit n c.pulseCount c.corrupt (s.modClassifier n fun c =>
    { c with pulse := .steadyClosed, pulseCount := 0, corrupt := false, firstBreak := none, bound := none })

/-- R27, R60, R61, R45: the seizure is accepted and taken: the named profile is bound, the seizure id advances, the
estimator is loaded, and the line is SEIZED, or CONVERTING when INCOMING is set. -/
def takeSeizure (n : LineNo) (s : State) : State :=
  let p := s.namedProfile n
  let answering := s.slotPath.incoming.get n
  let t := (s.modClassifier n fun c => { c with seizureCount := 0, bound := none }).modEstimator n
    fun _ => Estimator.load p
  afterEvent n <| t.modLine n fun c =>
    let d : LineCtx := { c with bound := some p, seizureId := c.seizureId + 1, draftOpened := false }
    if answering then { d with answered := true, state := .converting }
    else { d.startTimer .firstDigit (1000 * p.firstDigitWait) with state := .seized }

end Sys2Proof.Machine
end

