-- ==== Sys2Proof/Machine/PartControl.lean ====
section
/-! DEFINITION. Part control: starting (R166 to R168, R185), stopping (R162, R177, R186), the stop on a host-bus error
(R161, R186), hold reset (R184) and power-on (R182). -/

namespace Sys2Proof.Machine

/-! ### Starting -/

/-- R166, R183: entry to STARTING: result code NONE, and the header is read at the physical address in STATION BASE,
with no window check. -/
def enterStarting (s : State) : State :=
  (s.modControl fun c => { c with part := .starting, result := .none }).modPort fun p =>
    { p with
      waitStart := some { purpose := .headerRead, addr := s.control.stationBase.toNat, length := 160, data := [],
                          window := none, abandoned := none } }

/-- R192: window entry `w` of a header. -/
def headerWindow (h : List Byte) (w : Nat) : Window :=
  let flags := byteAt h (0x20 + 8 * w + 6)
  { base := word h (0x20 + 8 * w), pages := half h (0x20 + 8 * w + 4), access := flags % 2 == 1,
    write := flags / 2 % 2 == 1, touched := false }

/-- R168: the 16 entries, with touched flags clear. -/
def headerWindows (h : List Byte) : Table 16 Window := Table.ofFn fun w => headerWindow h w.val

/-- R192: a record slot count of 0 means 1024. -/
def recordSlotCount (h : List Byte) : Nat := if half h 0x0E = 0 then 1024 else half h 0x0E

/-- R167, check 3, of one entry. -/
def Window.valid (w : Window) : Bool :=
  w.pages == 0 || (w.pages ≤ 256 && w.base % 4096 == 0 && w.base + w.pages * 4096 ≤ 2 ^ 32)

/-- R167, checks 4 and 5, of an area of `count` slots of 64 bytes. -/
def areaValid (ws : Table 16 Window) (sa : Word) (count : Nat) : Bool :=
  let w := ws.get (stationWindow sa)
  sa.toNat / 2 ^ 24 == 0 && stationOffset sa % 64 == 0 && w.pages != 0 && w.access && w.write
    && stationOffset sa + 64 * count ≤ w.pages * 4096

/-- R167, check 5: no byte of the one area lies at the physical address of a byte of the other. -/
def areasApart (ws : Table 16 Window) (sa1 : Word) (n1 : Nat) (sa2 : Word) (n2 : Nat) : Bool :=
  physical ws sa1 + 64 * n1 ≤ physical ws sa2 || physical ws sa2 + 64 * n2 ≤ physical ws sa1

/-- R192: the two area addresses. -/
def headerOrderArea (h : List Byte) : Word := BitVec.ofNat 32 (word h 0x08)
def headerRecordArea (h : List Byte) : Word := BitVec.ofNat 32 (word h 0x10)

/-- R167: the first check that fails, or none. -/
def headerFailure (h : List Byte) : Option ResultCode :=
  let ws := headerWindows h
  if word h 0 ≠ Config.headerSignature then some .badSignature
  else if half h 4 ≠ Config.layoutVersion then some .badVersion
  else if !ws.toList.all Window.valid then some .badWindow
  else if !(inRange 1 64 (half h 0x0C) && areaValid ws (headerOrderArea h) (half h 0x0C)) then some .badOrderArea
  else if !(inRange 1 1024 (recordSlotCount h) && areaValid ws (headerRecordArea h) (recordSlotCount h)
      && areasApart ws (headerOrderArea h) (half h 0x0C) (headerRecordArea h) (recordSlotCount h)) then
    some .badRecordArea
  else if !inRange 1 16 (byteAt h 0x14) then some .badSweep
  else if !inRange 0 15 (byteAt h 0x15) then some .badReserve
  else none

/-- R168: the header's tables and settings are installed for the run. -/
def installHeader (h : List Byte) (s : State) : State :=
  let s := s.modPort fun p => { p with windows := headerWindows h }
  let s := s.modOrders fun o =>
    { o with area := headerOrderArea h, slots := half h 0x0C, sweepInterval := byteAt h 0x14 }
  let s := s.modWriter fun w => { w with area := headerRecordArea h, slots := recordSlotCount h }
  s.modPool fun p => { p with reserve := byteAt h 0x15 }

/-- R59, last column; R148. -/
def LineCtx.startRun (enabled : Bool) (c : LineCtx) : LineCtx :=
  { LineCtx.reset with state := if enabled then .idle else .disabled, seizureId := c.seizureId }

/-- R41, R185: the classifier of line `n` at entry to RUNNING. A line that becomes IDLE while the line highway is lost is
held as R42 says (R12, log 35). -/
def startClassifier (s : State) (n : LineNo) : Classifier :=
  if (s.setting n).enabled then (s.classifier n).enterIdle s.slotPath.lineHw.present
  else (s.classifier n).await

/-- R185: entry to RUNNING. -/
def enterRunning (s : State) : State :=
  let s := s.modControl fun c => { c with part := .running, result := .ok }
  let s := s.modSlotPath fun p => { p with frameCount := 0, runClock := 0, msDue := false }
  let s := s.modOrders fun o =>
    { o with state := .idle, cursor := 0, passStart := 0, examined := 0, current := none, sweepTimer := 0,
             sweepDue := false }
  let s := s.modWriter fun w =>
    { w with fifo := [], cursor := 0, sequence := 0, state := .idle, examined := 0, chosen := 0, retry := false }
  let s := s.modPool fun p => { p with gens := Table.replicate _ .reset, waitList := [] }
  let s := s.modPlan fun p => { p with banks := Table.ofFn fun b => { p.banks.get b with refCount := 0 } }
  raise .startResult
    { s with
      lines := Table.ofFn fun n => (s.line n).startRun (s.setting n).enabled
      classifiers := Table.ofFn (startClassifier s) }

/-- R167: a check that fails ends the start, with every window unused. -/
def failStart (code : ResultCode) (s : State) : State :=
  raise .startResult <|
    (s.modControl fun c => { c with part := .startFailed, result := code }).modPort fun p =>
      { p with windows := Table.replicate _ .unused }

/-! ### Stopping -/

/-- R186, step 2: every line is torn down with cause STOPPED; R40: its classifier drops any digit in progress. -/
def stopLine (n : LineNo) (s : State) : State :=
  if (s.line n).state.seizedOn then (teardown n .stopped s).modClassifier n Classifier.dropDigit else s

def stopLines (s : State) : State := eachLine stopLine s

/-- R21, R41, R71, R173: from entry to STOPPING no event of a flag frame arises, no timer expires and no sweep event is
delivered: what was due of these is no more. -/
def dropDue (s : State) : State :=
  { s with classifiers := Table.ofFn fun n => { s.classifier n with bound := none, change := false } }.modOrders
    fun o => { o with sweepDue := false }

/-- R9: a millisecond event still due when the part leaves STOPPING advances the run clock and reaches nothing. -/
def SlotPath.leaveTime (p : SlotPath) : SlotPath :=
  if p.msDue then { p with runClock := p.runClock + 1, msDue := false } else p

/-- R183: the part leaves STOPPING for HALTED, or for STARTING if RUN reads 1. -/
def leaveStopping (s : State) : State :=
  let s := s.modSlotPath SlotPath.leaveTime
  if s.control.run then enterStarting s else s.modControl fun c => { c with part := .halted }

/-- R186: STOPPING goes on as far as it can: the lines are torn down once no order is current, and the stop is done when
the FIFO is empty after that and the port has nothing in flight (log 14). -/
def stopAdvance (s : State) : State :=
  if s.stopping then
    let s :=
      if !s.control.stopTornDown && s.orders.current.isNone then
        stopLines (s.modControl fun c => { c with stopTornDown := true })
      else s
    if s.control.stopTornDown && s.writer.fifo.isEmpty && s.port.quiet then leaveStopping s else s
  else s

/-- R162: at entry to STOPPING a PARKED writer begins a pass for the head at once. -/
def unpark (s : State) : State := if s.writer.state = .parked then beginPass false s else s

/-- R183, R186: RUN written 0 in RUNNING. -/
def enterStopping (s : State) : State :=
  let s := s.modControl fun c =>
    { c with part := .stopping, result := .runCleared, recordsDropped := 0, stopTornDown := false }
  unpark (stopOrder (dropDue s))

/-- R161, R163, R186: every draft in the FIFO is dropped and counted; the writer makes no further access. -/
def dropDrafts (s : State) : State :=
  let k := s.writer.fifo.length
  ((s.modControl fun c => { c with recordsDropped := min 255 (c.recordsDropped + k) }).modWriter fun w =>
    { w with fifo := [], state := .idle, retry := false }).modPort fun p => { p with waitWriter := none }

/-- R92, R105: the current order is a LOAD_PLAN whose target is LOADING, its result not yet chosen (R104). -/
def loadUnderWay (s : State) : Bool :=
  match s.orders.current with
  | some { work := .loadPlan _ b _, .. } => (s.bank b).state == .loading
  | _ => false

/-- R177: the current order ends with no result written; a bank it is LOADING becomes EMPTY (R92). -/
def dropOrder (s : State) : State :=
  (if loadUnderWay s then emptyCurrentLoad s else s).modOrders fun o => { o with state := .idle, current := none }

/-- R161, R171, R186: the stop on a host-bus error: no further access, no result written, the lines torn down, every
draft dropped and counted. -/
def stopOnError (s : State) : State :=
  let s := raise .memoryError (s.modControl fun c => { c with part := .stopping, result := .memoryError })
  let s := s.modPort fun p =>
    { p with inFlight := none, behind := none, waitStart := none, waitWriter := none, waitOrder := none }
  let s := dropOrder (dropDue s)
  dropDrafts (stopLines (s.modControl fun c => { c with stopTornDown := true }))

/-! ### Hold reset and power-on -/

/-- R164, R177, R184: an access on the host bus finishes and its result is discarded; everything waiting is
abandoned. -/
def resetPort (p : Port) : Port :=
  { Port.reset with inFlight := p.inFlight.map fun a => { a with abandoned := some .byReset } }

/-- R184: what hold reset makes of the registers. -/
def Control.inReset (c : Control) : Control :=
  { Control.powerOn with
    part := .resetHeld, holdReset := true, stationBase := c.stationBase, attentionMask := c.attentionMask,
    readData := c.readData }

/-- R16, R184: what hold reset makes of the slot path; the frame in hand and the trunk frames stay, since trunk frames go
on following line frames (R4). -/
def SlotPath.holdReset (p : SlotPath) : SlotPath :=
  { SlotPath.reset with
    frameInHand := p.frameInHand, trunkLeaving := p.trunkLeaving, trunkOut := p.trunkOut }

/-- R184: hold reset, in any part state. -/
def holdReset (s : State) : State :=
  { State.reset with
    pending := s.pending, draws := s.draws, control := s.control.inReset, slotPath := s.slotPath.holdReset,
    port := resetPort s.port }

/-- R182: power-on. The queue of commands and the count of free choices are not the part's (log 25). -/
def powerOn (s : State) : State := { State.reset with pending := s.pending, draws := s.draws }

end Sys2Proof.Machine
end

