-- ==== Sys2Proof/Machine/Events.lean ====
section
/-! DEFINITION. The part's own timed events: the millisecond event (R9), the expiries of the line timers (R71 to R79)
and of the generators' state timers (R121 to R123), and the sweep event (R173). -/

namespace Sys2Proof.Machine

/-! ### The millisecond event -/

/-- R75: the quiet timer counts only in CONVERTING with a draft open, an empty queue, no generator attached and no pulse
in progress. -/
def quietCounts (s : State) (n : LineNo) : Bool :=
  (s.line n).state == .converting && (s.line n).hasDraft && (s.line n).queue.isEmpty && (genOf s n).isNone
    && !(s.classifier n).pulse.inProgress

/-- R71: the running timers of a context count the event, the quiet timer when it does not hold. -/
def LineCtx.tick (quiet : Bool) (c : LineCtx) : LineCtx :=
  { c with
    timers := Table.ofFn fun i =>
      if i = TimerKind.quiet.index ∧ quiet = false then c.timers.get i else (c.timers.get i).tick }

/-- R115: the state timer counts in ON, GAP and HOLD; it is stopped in FREE. -/
def Generator.tick (g : Generator) : Generator := { g with timer := g.timer.tick }

/-- R173: the sweep timer; at the interval a sweep event is due and the count returns to 0. -/
def Orders.tickSweep (o : Orders) : Orders :=
  if o.sweepInterval ≤ o.sweepTimer + 1 then { o with sweepTimer := 0, sweepDue := true }
  else { o with sweepTimer := o.sweepTimer + 1 }

/-- R9: what a millisecond event reaches in RUNNING. -/
def tickTimers (s : State) : State :=
  { s with
    lines := Table.ofFn fun n => (s.line n).tick (quietCounts s n)
    pool := { s.pool with gens := Table.ofFn fun g => (s.gen g).tick }
    orders := s.orders.tickSweep }

/-- R9: the run clock advances, wrapping; in RUNNING the timers count (R71, R126, R173). -/
def takeMillisecond (s : State) : State :=
  let t := s.modSlotPath fun p => { p with runClock := p.runClock + 1, msDue := false }
  if s.running then tickTimers t else t

/-! ### Expiries of the line timers -/

/-- R73. -/
def firstDigitExpires (n : LineNo) (s : State) : State :=
  let t := closeDraft n .noDial (ensureDraft n (s.modLine n fun c => c.stopTimer .firstDigit))
  afterEvent n (enterConverting n t)

/-- R74, R96. -/
def completeExpires (n : LineNo) (s : State) : State :=
  let v := matchExpiry (boundEntries s n) (s.boundProfile n).unmatchedAction (s.line n).number
  afterEvent n (actOn n v (s.modLine n fun c => c.stopTimer .complete))

/-- R75. -/
def quietExpires (n : LineNo) (s : State) : State :=
  afterEvent n (closeDraft n .quiet (s.modLine n fun c => c.stopTimer .quiet))

/-- R76. -/
def proceedExpires (n : LineNo) (s : State) : State := teardown n .noProceed s

/-- R77. -/
def generatorWaitExpires (n : LineNo) (s : State) : State := teardown n .noGenerator s

/-- R67, R55: with no escaped digit in progress escape pending ends and the flash is acted on plainly. -/
def escapeExpires (n : LineNo) (s : State) : State :=
  if (s.line n).escapedDigit then s.modLine n fun c => c.stopTimer .escape
  else afterEvent n (plainFlash n (endEscape n s))

/-- R78. -/
def muteTailExpires (n : LineNo) (s : State) : State := s.modLine n fun c => c.stopTimer .muteTail

/-- R79. -/
def flashOutExpires (n : LineNo) (s : State) : State := s.modLine n fun c => c.stopTimer .flashOut

/-- The expiry of a line timer (R71). -/
def timerExpires (k : TimerKind) (n : LineNo) (s : State) : State :=
  match k with
  | .firstDigit => firstDigitExpires n s
  | .complete => completeExpires n s
  | .quiet => quietExpires n s
  | .proceed => proceedExpires n s
  | .generatorWait => generatorWaitExpires n s
  | .escape => escapeExpires n s
  | .muteTail => muteTailExpires n s
  | .flashOut => flashOutExpires n s

/-! ### Expiries of the generators -/

/-- R121: one more symbol of a decision is sent. -/
def Decision.countSent (d : Decision) : Decision := { d with sent := d.sent + 1 }

/-- R121: one more symbol of the SEND_TONES order of a slot is sent. -/
def OrderWork.countSent (w : OrderWork) : OrderWork :=
  match w with
  | .sendTones n cls count sent fixed => .sendTones n cls count (sent + 1) fixed
  | .none => .none
  | .loadProfile i => .loadProfile i
  | .loadTones source passed => .loadTones source passed
  | .loadPlan source b count => .loadPlan source b count

/-- R129, R131: the last entry of a SEND_TONES order has left as sent: OK, or ABORTED where an ABORT fixed it. -/
def completeSendTones (s : State) : State :=
  match s.orders.current with
  | some { work := .sendTones _ _ count sent fixed, .. } =>
    chooseResult (if fixed then .aborted else .ok) { sent, unsent := count - sent } s
  | _ => s

/-- R121: an ORDER entry of the queue of line `n` has been removed as sent. -/
def orderEntrySent (n : LineNo) (s : State) : State :=
  let t := onCurrent (fun c => { c with work := c.work.countSent }) s
  if (t.line n).queue.any QueueEntry.isOrder then t else formClassAfresh n (completeSendTones t)

/-- R121: the head entry of a line's queue is removed as sent. -/
def headSent (n : LineNo) (s : State) : State :=
  match (s.line n).queue with
  | [] => s
  | e :: rest =>
    let t := s.modLine n fun c =>
      { c with queue := rest, decision := if c.state = .sending then c.decision.map Decision.countSent else c.decision }
    let u := inDraft n Draft.countSent t
    if e.isOrder then orderEntrySent n u else u

/-- R121: the expiry of ON. -/
def onExpires (g : GenNo) (s : State) : State :=
  match (s.gen g).attached with
  | none => s
  | some n =>
    afterEvent n <| (headSent n s).modGen g fun x =>
      { x with state := .gap, timer := .running 0 (s.boundProfile n).toneOffMs }

/-- R122: the expiry of GAP. -/
def gapExpires (g : GenNo) (s : State) : State :=
  match (s.gen g).attached with
  | none => s
  | some n =>
    afterEvent n <|
      if (s.line n).state = .sending then
        if numberFinished s n then endNumber n (releaseGen g s) else enterOn g s
      else if (s.line n).queue ≠ [] then enterOn g s
      else if 0 < (s.boundProfile n).genHoldMs then
        s.modGen g fun x => { x with state := .hold, timer := .running 0 (s.boundProfile n).genHoldMs }
      else releaseGen g s

/-- R123: the expiry of HOLD. -/
def holdExpires (g : GenNo) (s : State) : State :=
  match (s.gen g).attached with
  | none => s
  | some n => afterEvent n (releaseGen g s)

/-! ### The sweep event -/

/-- R173: an IDLE order unit begins a pass at its cursor. -/
def beginScan (s : State) : State :=
  if s.orders.state = .idle then
    readOrderMark (s.modOrders fun o => { o with passStart := o.cursor, examined := 0 })
  else s

/-- R156, R159: a PARKED writer begins a pass for its head. -/
def retryParked (s : State) : State := if s.writer.state = .parked then beginPass true s else s

/-- R173: a sweep event. -/
def takeSweep (s : State) : State := retryParked (beginScan (s.modOrders fun o => { o with sweepDue := false }))

end Sys2Proof.Machine
end

