-- ==== Sys2Proof/Machine/TrunkFrame.lean ====
section
/-! DEFINITION. The tone synthesizer's samples (R142 to R146) and the building of a trunk frame (R4 to R7). -/

namespace Sys2Proof.Machine

/-! ### Samples -/

/-- R142: the exact difference of a sample of index 2 or more. -/
def Resonator.difference (r : Resonator) : Int := resonatorDifference r.coefficient r.y1 r.y2

/-- R142, R136: the sample of index `i` of a resonator. -/
def Resonator.sample (i : Nat) (r : Resonator) : Int :=
  if r.silent then 0
  else
    match i with
    | 0 => 0
    | 1 => r.start
    | _ + 2 => saturate16 r.difference

/-- R145: the difference of index 2 or more is saturated. -/
def Resonator.clips (i : Nat) (r : Resonator) : Bool :=
  !r.silent && 2 ≤ i && saturate16 r.difference != r.difference

/-- R142: the resonator keeps its two newest samples. -/
def Resonator.advance (i : Nat) (r : Resonator) : Resonator := { r with y1 := r.sample i, y2 := r.y1 }

/-- R142: the sum of the two samples, before saturation. -/
def Voice.sum (v : Voice) : Int := v.low.sample v.index + v.high.sample v.index

/-- R142: the output sample. -/
def Voice.sample (v : Voice) : Int := saturate16 v.sum

/-- R145: a resonator or the sum is saturated at this sample. -/
def Voice.clips (v : Voice) : Bool := v.low.clips v.index || v.high.clips v.index || saturate16 v.sum != v.sum

/-- R142: after the sample the index advances. -/
def Voice.advance (v : Voice) : Voice :=
  { index := v.index + 1, low := v.low.advance v.index, high := v.high.advance v.index }

/-- R145, R146: the CLIP indicator is set, and CLIPPED in the open draft of the attached line. -/
def setClip (g : GenNo) (s : State) : State :=
  let t := s.modGen g fun x => { x with clip := true }
  match (s.gen g).attached with
  | some n => inDraft n (fun d => { d with clipped := true }) t
  | none => t

/-- R142: a generator in ON produces its sample of this frame time. -/
def synthesize (g : GenNo) (s : State) : State :=
  if (s.gen g).state = .on then
    let v := s.voices.get g
    let t := s.modVoice g Voice.advance
    if v.clips then setClip g t else t
  else s

/-- R142: every generator in ON, at a frame time in RUNNING. -/
def synthesizeAll (s : State) : State :=
  if s.running then (List.finRange Config.generators).foldl (fun s g => synthesize g s) s else s

/-! ### Trunk slots -/

/-- R5: pass-through. -/
def passThrough (x : LineSlot) : TrunkSlot := { sample := x.sample, offHook := x.closed }

/-- R12: sample 0 and on-hook. -/
def silentSlot : TrunkSlot := { sample := 0, offHook := false }

/-- R6: the sample of an enabled line's slot in RUNNING. -/
def slotSample (s : State) (n : LineNo) (x : LineSlot) : Half :=
  match genOf s n with
  | some g => if (s.gen g).state = .on then BitVec.ofInt 16 (s.voices.get g).sample else 0
  | none => if muted s n then 0 else x.sample

/-- R5, R6, R7: trunk slot `n`, by the part state and the line's enable as they stand. -/
def trunkSlot (s : State) (f : LineFrame) (n : LineNo) : TrunkSlot :=
  if s.running = false ∨ (s.line n).state = .disabled then passThrough (f.get n)
  else { sample := slotSample s n (f.get n), offHook := cleanedHook s n }

/-- R4: the trunk frame of a line frame. -/
def trunkFrame (s : State) (f : LineFrame) : TrunkFrame := Table.ofFn (trunkSlot s f)

/-- R4: the trunk frame of a reference frame time. -/
def silentFrame : TrunkFrame := Table.replicate _ silentSlot

/-- R4, R8: the frame in hand is done: the samples are produced and its trunk frame is built. A frame built from a line
frame leaves one frame period later; one of a reference frame time, in RUNNING only, is sent now, after any that has
left. -/
def conclude (s : State) : State :=
  match s.slotPath.frameInHand with
  | none => s
  | some (.line f) =>
    (synthesizeAll s).modSlotPath fun p => { p with frameInHand := none, trunkLeaving := some (trunkFrame s f) }
  | some .reference =>
    (synthesizeAll s).modSlotPath fun p =>
      { p with frameInHand := none, trunkOut := if s.running then p.trunkOut ++ [silentFrame] else p.trunkOut }

/-- A frame moment begins: what has left at the last one is forgotten (log 8). -/
def beginMoment (s : State) : State := s.modSlotPath fun p => { p with trunkOut := [] }

/-- R4: one frame period after its line frame a trunk frame leaves the part. -/
def sendTrunk (s : State) : State :=
  s.modSlotPath fun p => { p with trunkLeaving := none, trunkOut := p.trunkOut ++ p.trunkLeaving.toList }

end Sys2Proof.Machine
end

