-- ==== Sys2Proof/Machine/Schedule.lean ====
section
/-! DEFINITION. Which of the part's own events are due, taking one, and what follows every step (log 3, log 4). -/

namespace Sys2Proof.Machine

/-! ### What is due -/

/-- The part's events of a flag frame, the expiries and the sweep arise in RUNNING (R71, R126, R173), after the
millisecond event of their frame (log 6). -/
def eventsOpen (s : State) : Bool := s.running && !s.slotPath.msDue

/-- A length bound of the classifier of an enabled line waits to be acted on (R21). -/
def boundDue (s : State) (n : LineNo) (b : Bound) : Bool :=
  eventsOpen s && (s.line n).state != .disabled && (s.classifier n).bound == some b

/-- A generator's state timer has expired in a state (R121 to R123). -/
def genDue (s : State) (g : GenNo) (st : GenState) : Bool :=
  eventsOpen s && (s.gen g).state == st && (s.gen g).timer.expired

/-- The event has arisen and waits to be taken (log 3). A length bound comes before the accepted change of its frame
(log 7). -/
def isDue (e : Due) (s : State) : Bool :=
  match e with
  | .millisecond => s.slotPath.msDue && (s.running || s.stopping)
  | .longOpen n => boundDue s n .longOpen
  | .clear n => boundDue s n .clear
  | .digit n => boundDue s n .digit
  | .seizure n => boundDue s n .seizure
  | .loopChange n =>
    eventsOpen s && (s.line n).state != .disabled && (s.classifier n).change && (s.classifier n).bound.isNone
  | .timer k n => eventsOpen s && ((s.line n).timer k).expired
  | .onExpiry g => genDue s g .on
  | .gapExpiry g => genDue s g .gap
  | .holdExpiry g => genDue s g .hold
  | .sweep => eventsOpen s && s.orders.sweepDue

def timerKinds : List TimerKind :=
  [.firstDigit, .complete, .quiet, .proceed, .generatorWait, .escape, .muteTail, .flashOut]

def lineEvents (n : LineNo) : List Due :=
  [.longOpen n, .clear n, .digit n, .seizure n, .loopChange n] ++ timerKinds.map fun k => .timer k n

def genEvents (g : GenNo) : List Due := [.onExpiry g, .gapExpiry g, .holdExpiry g]

/-- Every event of the part that may be due. -/
def allEvents : List Due :=
  [.millisecond] ++ (List.finRange Config.lines).flatMap lineEvents
    ++ (List.finRange Config.generators).flatMap genEvents ++ [.sweep]

def dueEvents (s : State) : List Due := allEvents.filter fun e => isDue e s

/-! ### Taking one -/

/-- What each event does. -/
def takeDue (e : Due) (s : State) : State :=
  match e with
  | .millisecond => takeMillisecond s
  | .longOpen n => enterLongOpen n s
  | .clear n => declareClear n s
  | .digit n => completeDigit n s
  | .seizure n => takeSeizure n s
  | .loopChange n => acceptChange n s
  | .timer k n => timerExpires k n s
  | .onExpiry g => onExpires g s
  | .gapExpiry g => gapExpires g s
  | .holdExpiry g => holdExpires g s
  | .sweep => takeSweep s

/-- What every step sets going: a stop goes on as far as it can (R186), and a free port serves (R171). -/
def advance (s : State) : State := portServe (stopAdvance s)

/-- One due event is taken; of several, a free choice says which (log 4). -/
def takeOne (s : State) : State :=
  match (dueEvents s)[choose s (dueEvents s).length]? with
  | some e => advance (takeDue e (if (dueEvents s).length ≤ 1 then s else s.draw))
  | none => s

/-- Due events are taken until none is left. A frame leaves at most 1 + 64·10 + 16 + 1 of them, fewer than the rounds
given. -/
def settle : Nat → State → State
  | 0, s => s
  | k + 1, s => if (dueEvents s).isEmpty then s else settle k (takeOne s)

/-- The trunk frame of the frame in hand is built once none of its events is left (R6, R142). -/
def concludeIfQuiet (s : State) : State :=
  match s.slotPath.frameInHand with
  | none => s
  | some _ => if (dueEvents s).isEmpty then conclude s else s

/-- Before the next frame time all events of the last are taken and its trunk frame is built (log 4). -/
def settleFrame (s : State) : State := concludeIfQuiet (settle 1024 s)

/-- What a frame moment begins with (R4, log 8): the last frame is settled, and the trunk frame that waited for this
moment leaves. -/
def enterMoment (s : State) : State := sendTrunk (settleFrame (beginMoment s))

/-- What follows a step's own effect. -/
def epilogue (s : State) : State := concludeIfQuiet (advance s)

/-- A command that names an event of the part: its effect if the event is due, else none (log 3). -/
def whenDue (e : Due) (k : State → State) (s : State) : State := if isDue e s then epilogue (k s) else s

/-- A command that completes an access of purpose `p`: its effect if that access is on the host bus, else none (log 3).
An abandoned access finishes and its result is discarded (R166, R184). -/
def whenDone (p : Purpose) (k : State → State) (s : State) : State :=
  match s.port.inFlight with
  | none => s
  | some a =>
    if a.purpose = p then epilogue (if a.abandoned.isSome then freeBus s else k (freeBus s)) else s

end Sys2Proof.Machine
end

