-- ==== Sys2Proof/Machine/Highways.lean ====
section
/-! DEFINITION. Meanings of the highway and time commands: frames, reference frame times, the frame watch and the
millisecond event (01). -/

namespace Sys2Proof.Machine

/-! ### Frame time -/

/-- R8: the frame count advances; where it passes from 7 to 0 a millisecond event is due (R9). -/
def SlotPath.countFrame (p : SlotPath) : SlotPath :=
  if p.frameCount = 7 then { p with frameCount := 0, msDue := true } else { p with frameCount := p.frameCount + 1 }

/-- R8: frame times are counted in RUNNING and STOPPING. -/
def frameTime (s : State) : State := if s.running || s.stopping then s.modSlotPath SlotPath.countFrame else s

/-! ### The line highway -/

/-- R2, R8: a frame of the present line highway is a frame time, the material of the trunk frame, and in RUNNING brings
the classifiers their loop flags. -/
def useFrame (f : LineFrame) (s : State) : State :=
  let t := (frameTime s).modSlotPath fun p => { p with frameInHand := some (.line f) }
  if s.running then classifyFrame f t else t

/-- R10: an arriving frame of a lost highway is counted toward restoration. -/
def Watch.countRestore (w : Watch) : Watch := { w with frameWatch := 0, restoreCount := w.restoreCount + 1 }

/-- R10: the 32nd frame of an unbroken run makes the highway present. -/
def Watch.restore (w : Watch) : Watch :=
  { w with frameWatch := 0, restoreCount := Config.restoreFrames, present := true }

/-- R10: the arriving frame is the one that restores the highway. -/
def Watch.restoring (w : Watch) : Bool := Config.restoreFrames ≤ w.restoreCount + 1

/-- R2, R10, R13: a line frame arrives; a lost highway's frame is passed through outside RUNNING (R4, R5). -/
def lineFrameArrives (f : LineFrame) (s : State) : State :=
  if s.slotPath.lineHw.present then
    useFrame f (s.modSlotPath fun p => { p with lineHw := { p.lineHw with frameWatch := 0 } })
  else if s.slotPath.lineHw.restoring then
    useFrame f (raise .lineHighway (s.modSlotPath fun p => { p with lineHw := p.lineHw.restore }))
  else
    s.modSlotPath fun p =>
      { p with
        lineHw := p.lineHw.countRestore, frameInHand := if s.running then p.frameInHand else some (.line f) }

/-- R8: a reference frame time; in RUNNING a trunk frame goes with it (R4). -/
def referenceTime (s : State) : State :=
  let t := frameTime s
  if s.running then t.modSlotPath fun p => { p with frameInHand := some .reference } else t

/-- R10: the loss of a highway. -/
def Watch.lose (_ : Watch) : Watch := { present := false, restoreCount := 0, frameWatch := Config.watchPeriods }

/-- R11, R42: what the loss does to a line in RUNNING. -/
def loseLine (n : LineNo) (s : State) : State :=
  if (s.line n).state = .disabled then s
  else
    let t := if (s.line n).state.seizedOn then teardown n .highwayLoss s else s
    t.modClassifier n Classifier.lose

def loseLines (s : State) : State := eachLine loseLine s

/-- R8: the three reference frame times before the loss is declared, then the one that falls with it (log 26). -/
def owedFrameTimes (s : State) : State := referenceTime (frameTime (frameTime (frameTime s)))

/-- R11: the line highway becomes lost. -/
def loseLineHighway (s : State) : State :=
  let t := raise .lineHighway (s.modSlotPath fun p => { p with lineHw := p.lineHw.lose })
  let u := if s.running then loseLines t else t
  if s.running || s.stopping then owedFrameTimes u else u

/-- R10: the frame watch of a lost highway reaches its limit. -/
def Watch.starve (w : Watch) : Watch := { w with restoreCount := 0, frameWatch := Config.watchPeriods }

/-- R10: the frame watch of the line highway reaches 4 frame periods. -/
def lineWatchExpires (s : State) : State :=
  if s.slotPath.lineHw.present then loseLineHighway s
  else s.modSlotPath fun p => { p with lineHw := p.lineHw.starve }

/-! ### The return highway -/

/-- R3: the lines whose effective PROCEED an update changes. -/
def proceedChanges (old new : Table Config.lines Bool) : List LineNo :=
  (List.finRange Config.lines).filter fun n => old.get n != new.get n

/-- R3: the effective flags take new values, and each change of PROCEED is delivered, in ascending slot order
(log 15). -/
def updateFlags (proceed incoming : Table Config.lines Bool) (s : State) : State :=
  (proceedChanges s.slotPath.proceed proceed).foldl (fun s n => proceedChanged n s)
    (s.modSlotPath fun p => { p with proceed, incoming })

/-- R3: the flags a return frame carries. -/
def frameFlags (f : ReturnFrame) (s : State) : State :=
  updateFlags (Table.ofFn fun n => (f.get n).proceed) (Table.ofFn fun n => (f.get n).incoming) s

/-- R3, R10, R15: a return frame arrives. -/
def returnFrameArrives (f : ReturnFrame) (s : State) : State :=
  if s.slotPath.retHw.present then
    frameFlags f (s.modSlotPath fun p => { p with retHw := { p.retHw with frameWatch := 0 } })
  else if s.slotPath.retHw.restoring then
    frameFlags f (raise .returnHighway (s.modSlotPath fun p => { p with retHw := p.retHw.restore }))
  else s.modSlotPath fun p => { p with retHw := p.retHw.countRestore }

/-- R14: the return highway becomes lost: every effective flag is clear. -/
def loseReturnHighway (s : State) : State :=
  updateFlags (Table.replicate _ false) (Table.replicate _ false)
    (raise .returnHighway (s.modSlotPath fun p => { p with retHw := p.retHw.lose }))

/-- R10: the frame watch of the return highway reaches 4 frame periods. -/
def returnWatchExpires (s : State) : State :=
  if s.slotPath.retHw.present then loseReturnHighway s
  else s.modSlotPath fun p => { p with retHw := p.retHw.starve }

/-! ### The meanings -/

/-- LINE_FRAME (R2). The trunk frame of the last line frame leaves at this moment (R4, log 8). -/
def execLineFrame (f : LineFrame) (s : State) : Host.Outcome State Fault Refusal :=
  .next (epilogue (lineFrameArrives f (enterMoment s)))

/-- REFERENCE_FRAME_TIME (R8): the last line frame's trunk frame, if it has not left, leaves before the silent one (R4).
It arises while the line highway is lost in RUNNING or STOPPING (log 3). -/
def execReferenceFrameTime (s : State) : Host.Outcome State Fault Refusal :=
  .next
    (if !s.slotPath.lineHw.present && (s.running || s.stopping) then
      epilogue (referenceTime (enterMoment s))
    else s)

/-- RETURN_FRAME (R3). -/
def execReturnFrame (f : ReturnFrame) (s : State) : Host.Outcome State Fault Refusal :=
  .next (epilogue (returnFrameArrives f s))

/-- FRAME_WATCH_EXPIRY (R10). -/
def execFrameWatchExpiry (h : Highway) (s : State) : Host.Outcome State Fault Refusal :=
  .next
    (match h with
    | .line => epilogue (lineWatchExpires (enterMoment s))
    | .ret => epilogue (returnWatchExpires s))

/-- MILLISECOND_EVENT (R9). -/
def execMillisecondEvent (s : State) : Host.Outcome State Fault Refusal := .next (whenDue .millisecond takeMillisecond s)

end Sys2Proof.Machine
end

