-- ==== Sys2Proof/Machine/LineEvents.lean ====
section
/-! DEFINITION. Meanings of the events of one line: the loop classifier's (02) and the line timers' (04), and of the
generators' expiries (06). -/

namespace Sys2Proof.Machine

/-- LOOP_CHANGE_ACCEPTED (R22). -/
def execLoopChangeAccepted (n : LineNo) (s : State) : Host.Outcome State Fault Refusal :=
  .next (whenDue (.loopChange n) (acceptChange n) s)

/-- LONG_OPEN_ENTRY (R34). -/
def execLongOpenEntry (n : LineNo) (s : State) : Host.Outcome State Fault Refusal :=
  .next (whenDue (.longOpen n) (enterLongOpen n) s)

/-- SEIZURE (R27). -/
def execSeizure (n : LineNo) (s : State) : Host.Outcome State Fault Refusal :=
  .next (whenDue (.seizure n) (takeSeizure n) s)

/-- CLEAR (R37). -/
def execClear (n : LineNo) (s : State) : Host.Outcome State Fault Refusal :=
  .next (whenDue (.clear n) (declareClear n) s)

/-- DIGIT_COMPLETE (R32). -/
def execDigitComplete (n : LineNo) (s : State) : Host.Outcome State Fault Refusal :=
  .next (whenDue (.digit n) (completeDigit n) s)

/-- FIRST_DIGIT_TIMER_EXPIRY (R73). -/
def execFirstDigitTimerExpiry (n : LineNo) (s : State) : Host.Outcome State Fault Refusal :=
  .next (whenDue (.timer .firstDigit n) (firstDigitExpires n) s)

/-- COMPLETE_TIMER_EXPIRY (R74). -/
def execCompleteTimerExpiry (n : LineNo) (s : State) : Host.Outcome State Fault Refusal :=
  .next (whenDue (.timer .complete n) (completeExpires n) s)

/-- QUIET_TIMER_EXPIRY (R75). -/
def execQuietTimerExpiry (n : LineNo) (s : State) : Host.Outcome State Fault Refusal :=
  .next (whenDue (.timer .quiet n) (quietExpires n) s)

/-- PROCEED_TIMER_EXPIRY (R76). -/
def execProceedTimerExpiry (n : LineNo) (s : State) : Host.Outcome State Fault Refusal :=
  .next (whenDue (.timer .proceed n) (proceedExpires n) s)

/-- GENERATOR_WAIT_TIMER_EXPIRY (R77). -/
def execGeneratorWaitTimerExpiry (n : LineNo) (s : State) : Host.Outcome State Fault Refusal :=
  .next (whenDue (.timer .generatorWait n) (generatorWaitExpires n) s)

/-- ESCAPE_TIMER_EXPIRY (R67). -/
def execEscapeTimerExpiry (n : LineNo) (s : State) : Host.Outcome State Fault Refusal :=
  .next (whenDue (.timer .escape n) (escapeExpires n) s)

/-- MUTE_TAIL_EXPIRY (R78). -/
def execMuteTailExpiry (n : LineNo) (s : State) : Host.Outcome State Fault Refusal :=
  .next (whenDue (.timer .muteTail n) (muteTailExpires n) s)

/-- FLASH_OUT_EXPIRY (R79). -/
def execFlashOutExpiry (n : LineNo) (s : State) : Host.Outcome State Fault Refusal :=
  .next (whenDue (.timer .flashOut n) (flashOutExpires n) s)

/-- ON_EXPIRY (R121). -/
def execOnExpiry (g : GenNo) (s : State) : Host.Outcome State Fault Refusal :=
  .next (whenDue (.onExpiry g) (onExpires g) s)

/-- GAP_EXPIRY (R122). -/
def execGapExpiry (g : GenNo) (s : State) : Host.Outcome State Fault Refusal :=
  .next (whenDue (.gapExpiry g) (gapExpires g) s)

/-- HOLD_EXPIRY (R123). -/
def execHoldExpiry (g : GenNo) (s : State) : Host.Outcome State Fault Refusal :=
  .next (whenDue (.holdExpiry g) (holdExpires g) s)

/-- SWEEP_EVENT (R173). -/
def execSweepEvent (s : State) : Host.Outcome State Fault Refusal := .next (whenDue .sweep takeSweep s)

end Sys2Proof.Machine
end

