-- ==== Sys2Proof/Machine/Scan.lean ====
section
/-! DEFINITION. Meanings of the order unit's scan and of the orders that only answer: taking an order (R174), completing
it (R175), NOP, IDENTIFY, READ_LINE (R178, R179) and an unknown order. -/

namespace Sys2Proof.Machine

/-! ### The scan -/

/-- R175: a slot index plus 1, modulo N. -/
def nextSlot (n i : Nat) : Nat := (i + 1) % n

/-- R173: the slot whose mark was read last in the pass. -/
def Orders.scanned (o : Orders) : Nat := (o.passStart + o.examined) % o.slots

/-- R173, R175: the pass goes on with the next slot while the examined count is below N, in RUNNING only (R177). -/
def goOnScanning (s : State) : State :=
  if s.orders.examined < s.orders.slots ∧ s.running = true then readOrderMark s
  else s.modOrders fun o => { o with state := .idle }

/-- R174: taking the order of slot `i`: it becomes current and TAKEN is written into its mark. -/
def takeOrder (i : Nat) (s : State) : State :=
  askOrder (writeAccess s .takenWrite (orderSlot s.orders i) (toLE 4 markTaken))
    (s.modOrders fun o =>
      { o with
        state := .taking,
        current := some { slot := i, body := none, work := .none, abort := false, result := none, progressed := false } })

/-- R173: the read of an order slot's mark completes. -/
def orderMarkRead (mark : Word) (s : State) : State :=
  let i := s.orders.scanned
  let t := s.modOrders fun o => { o with examined := o.examined + 1 }
  if mark = markPosted ∧ s.running = true then takeOrder i t else goOnScanning t

/-- The current order's ABORT waits for its access (R176). -/
def abortWaits (s : State) : Bool :=
  match s.orders.current with
  | some c => c.abort
  | none => false

/-- R176: at the completion of an access, an ABORT that waits for it ends the order; else the order goes on. -/
def unlessAborted (k : State → State) (s : State) : State := if abortWaits s then endAborted s else k s

/-- R174: the TAKEN write completes and the body is read: every field but the mark. -/
def readBody (s : State) : State :=
  match s.orders.current with
  | none => s
  | some c => askOrder (readAccess s .bodyRead (orderSlot s.orders c.slot + 4) 60) s

/-- R174: the body read completes; the unit enters EXECUTING and holds what it read. -/
def holdBody (b : OrderBody) (s : State) : State :=
  onCurrent (fun c => { c with body := some b }) (s.modOrders fun o => { o with state := .executing })

/-- R174: a body with this row's order code has been read, and the order is carried out by `k`. -/
def whenBody (c : Instr) (b : OrderBody) (k : State → State) (s : State) : State :=
  if c.wellFormed then whenDone .bodyRead (unlessAborted fun s => k (holdBody b s)) s else s

/-- R193: the parameter byte at an offset of the slot. -/
def param (b : OrderBody) (offset : Nat) : Nat := byteAt b.toList (offset - 4)
/-- R193: the 16-bit parameter at an offset of the slot. -/
def paramHalf (b : OrderBody) (offset : Nat) : Nat := half b.toList (offset - 4)
/-- R193: the station address at an offset of the slot. -/
def paramAddress (b : OrderBody) (offset : Nat) : Word := BitVec.ofNat 32 (word b.toList (offset - 4))

/-- R175, R193: a parameter out of range, naming its field. -/
def badParameter (field : Nat) (s : State) : State := chooseResult .badParameter { field } s

/-- R86, R103, R138: of checks with their fields, the field of the first that fails, if any. -/
def firstFailure (checks : List (Nat × Bool)) : Option Nat := (checks.find? fun x => !x.2).map (·.1)

/-! ### Completing -/

/-- R175: the result write completes and DONE is written into the mark. -/
def writeDone (s : State) : State :=
  match s.orders.current with
  | none => s
  | some c => askOrder (writeAccess s .doneWrite (orderSlot s.orders c.slot) (toLE 4 markDone)) s

/-- R175: the DONE write completes. -/
def orderDone (s : State) : State :=
  match s.orders.current with
  | none => s
  | some c =>
    let t := (raise .orderDone s).modOrders fun o => { o with current := none, cursor := nextSlot o.slots c.slot }
    if c.progressed then t.modOrders fun o => { o with state := .idle } else goOnScanning t

/-! ### IDENTIFY and READ_LINE -/

/-- R178, R197: the identification record. -/
def identification : List Byte :=
  toLE 2 0x0A7C ++ toLE 2 0x0D64 ++ byte 0x01 ++ byte Config.lines ++ byte Config.generators ++ byte Config.profiles
    ++ byte Config.planEntries ++ byte Config.sendQueue ++ byte Config.numberRegister ++ byte Config.symbolList
    ++ byte 64 ++ byte 64 ++ toLE 2 Config.layoutVersion ++ zeros 48

/-- R179, R197: the remaining time of a timer, its length less its count, or 0xFFFF when stopped. -/
def Timer.remaining : Timer → Nat
  | .stopped => 0xFFFF
  | .running c l => l - c

/-- R114, R197: the wait-list position, counted from 1, or 0. -/
def waitPosition (s : State) (n : LineNo) : Nat :=
  match s.pool.waitList.findIdx? fun e => e.line == n with
  | some i => i + 1
  | none => 0

/-- R179, R197: the snapshot of a line. -/
def snapshot (s : State) (n : LineNo) : List Byte :=
  let c := s.line n
  byte n.val ++ byte c.state.code ++ byte (s.classifier n).pulse.code ++ byte (bit c.escapePending)
    ++ byte (s.setting n).profile.val ++ byte (s.setting n).cls.code ++ toLE 2 (s.estimator n).p
    ++ toLE 2 (s.estimator n).idt ++ byte c.queue.length
    ++ byte (match c.queue.head? with | some e => e.symbol.val | none => 0xFF)
    ++ byte (match genOf s n with | some g => g.val | none => 0xFF)
    ++ byte (match genOf s n with | some g => (s.gen g).state.code | none => 0)
    ++ byte (waitPosition s n)
    ++ byte (match c.draft with | .none => 0 | .opened _ => 1 | .unrecorded => 2)
    ++ byte (bit (closedWaiting s n))
    ++ byte (match c.boundBank with | some b => b.val | none => 0xFF)
    ++ c.timers.toList.flatMap (fun t => toLE 2 t.remaining) ++ zeros 30

/-- R178: IDENTIFY. -/
def identify (b : OrderBody) (s : State) : State :=
  orderAccess .identifyWrite (paramAddress b 0x08) 64 identification 0 s

/-- R179: READ_LINE: the line is checked, a snapshot is taken and its write asked for. -/
def readLine (b : OrderBody) (s : State) : State :=
  if h : param b 0x08 < Config.lines then
    orderAccess .readLineWrite (paramAddress b 0x0C) 64 (snapshot s ⟨param b 0x08, h⟩) 0 s
  else badParameter 0x08 s

/-- R178, R179: the destination write completes and chooses OK; the order was ended ABORTED if the part has entered
STOPPING (R177, log 30). -/
def recordWritten (s : State) : State := if s.stopping then endAborted s else chooseResult .ok {} s

/-! ### The meanings -/

/-- ORDER_MARK_READ_DONE (R173). -/
def execOrderMarkReadDone (mark : Word) (s : State) : Host.Outcome State Fault Refusal :=
  .next (whenDone .orderMarkRead (orderMarkRead mark) s)

/-- TAKEN_WRITE_DONE (R174). -/
def execTakenWriteDone (s : State) : Host.Outcome State Fault Refusal :=
  .next (whenDone .takenWrite (unlessAborted readBody) s)

/-- UNKNOWN_ORDER (R174). -/
def execUnknownOrder (b : OrderBody) (s : State) : Host.Outcome State Fault Refusal :=
  .next (whenBody (.unknownOrder b) b (chooseResult .unknownOrder { order := b.code }) s)

/-- NOP (R178). -/
def execNop (b : OrderBody) (s : State) : Host.Outcome State Fault Refusal :=
  .next (whenBody (.nop b) b (chooseResult .ok {}) s)

/-- IDENTIFY (R178). -/
def execIdentify (b : OrderBody) (s : State) : Host.Outcome State Fault Refusal :=
  .next (whenBody (.identify b) b (identify b) s)

/-- IDENTIFY_WRITE_DONE (R178). -/
def execIdentifyWriteDone (s : State) : Host.Outcome State Fault Refusal :=
  .next (whenDone .identifyWrite recordWritten s)

/-- READ_LINE (R179). -/
def execReadLine (b : OrderBody) (s : State) : Host.Outcome State Fault Refusal :=
  .next (whenBody (.readLine b) b (readLine b) s)

/-- READ_LINE_WRITE_DONE (R179). -/
def execReadLineWriteDone (s : State) : Host.Outcome State Fault Refusal :=
  .next (whenDone .readLineWrite recordWritten s)

/-- ORDER_RESULT_WRITE_DONE (R175). -/
def execOrderResultWriteDone (s : State) : Host.Outcome State Fault Refusal :=
  .next (whenDone .resultWrite writeDone s)

/-- ORDER_DONE_WRITE_DONE (R175). -/
def execOrderDoneWriteDone (s : State) : Host.Outcome State Fault Refusal :=
  .next (whenDone .doneWrite orderDone s)

end Sys2Proof.Machine
end

