-- ==== Sys2Proof/Machine/MemoryPort.lean ====
section
/-! DEFINITION. Meanings of the TOUCHED write, the header read and the host-bus error (R166 to R171, R186). -/

namespace Sys2Proof.Machine

/-! ### The TOUCHED write -/

/-- R170: the window's touched flag is set. -/
def touchWindow (w : WindowNo) (p : Port) : Port :=
  { p with windows := p.windows.set w { p.windows.get w with touched := true } }

/-- The data write behind a TOUCHED write is dropped by an ABORT taken at its completion: the write of an IDENTIFY or
READ_LINE destination (R176, log 13). -/
def dropsBehind (a : Access) (s : State) : Bool :=
  (a.purpose == .identifyWrite || a.purpose == .readLineWrite) && abortWaits s

/-- R170: the data write follows the TOUCHED write at once. -/
def followTouched (s : State) : State :=
  match s.port.behind with
  | none => s
  | some a =>
    if dropsBehind a s then endAborted (s.modPort fun p => { p with behind := none })
    else s.modPort fun p => { p with inFlight := some a, behind := none }

/-- R170: the touched flag of the window a write went through is set. -/
def setTouched (w : Option WindowNo) (s : State) : State :=
  match w with
  | some w => s.modPort (touchWindow w)
  | none => s

/-- R170: the TOUCHED write of window `w` completes. -/
def touchedWritten (w : Option WindowNo) (s : State) : State := followTouched (setTouched w s)

/-- The window the access on the bus goes through. -/
def windowInFlight (s : State) : Option WindowNo :=
  match s.port.inFlight with
  | some a => a.window
  | none => none

/-! ### The header read -/

/-- R167, R168: the header has been read: the first check that fails ends the start, else the header is installed and the
part enters RUNNING. -/
def headerRead (h : HeaderBytes) (s : State) : State :=
  match headerFailure h.toList with
  | some code => failStart code s
  | none => enterRunning (installHeader h.toList s)

/-! ### The host-bus error -/

/-- R166, R183: an error on the header read ends the start with code MEMORY_ERROR; the window table stays (log 22). -/
def startOnError (s : State) : State :=
  raise .startResult (raise .memoryError (s.modControl fun c => { c with part := .startFailed, result := .memoryError }))

/-- R171, R183, R186: a host-bus error on the access that was on the bus. -/
def busError (s : State) : State :=
  match s.control.part with
  | .starting => startOnError s
  | .running => stopOnError (s.modControl fun c => { c with run := false, recordsDropped := 0 })
  | .stopping => stopOnError s
  | .resetHeld => s
  | .halted => s
  | .startFailed => s

/-- R166, R184: a host-bus error on an access whose result is discarded: after RUN written 0 the cause is raised, after a
hold reset nothing is. R166 has the part HALTED then; where RUN has been written 1 again the cause is raised too, and the
new start goes on with its own header read (log 11: the model's choices). -/
def abandonedError (why : Abandon) (s : State) : State :=
  match why with
  | .byRunCleared => raise .memoryError s
  | .byReset => s

/-- R171: a host-bus error. -/
def hostBusError (s : State) : State :=
  match s.port.inFlight with
  | none => s
  | some a =>
    match a.abandoned with
    | some why => abandonedError why (freeBus s)
    | none => busError (freeBus s)

/-! ### The meanings -/

/-- TOUCHED_WRITE_DONE (R170). -/
def execTouchedWriteDone (s : State) : Host.Outcome State Fault Refusal :=
  .next (whenDone .touchedWrite (touchedWritten (windowInFlight s)) s)

/-- HEADER_READ_DONE (R167). -/
def execHeaderReadDone (h : HeaderBytes) (s : State) : Host.Outcome State Fault Refusal :=
  .next (whenDone .headerRead (headerRead h) s)

/-- HOST_BUS_ERROR (R171). -/
def execHostBusError (s : State) : Host.Outcome State Fault Refusal := .next (epilogue (hostBusError s))

end Sys2Proof.Machine
end

