-- ==== Sys2Proof/Machine/PlanOrders.lean ====
section
/-! DEFINITION. Meanings of the orders on the plan table: LOAD_PLAN (R102 to R105) and SWITCH_PLAN (R106). -/

namespace Sys2Proof.Machine

/-- R102, R106: the bank that the active pointer does not name. -/
def otherBank (s : State) : BankNo := if s.plan.active = 0 then 1 else 0

/-! ### LOAD_PLAN -/

/-- R103: the read of plan entry `i`. -/
def readPlanEntry (source : Word) (i : Nat) (s : State) : State :=
  orderAccess .planRead (source + BitVec.ofNat 32 (32 * i)) 32 [] i s

/-- R102: LOAD_PLAN. -/
def loadPlan (b : OrderBody) (s : State) : State :=
  let target := otherBank s
  let count := paramHalf b 0x08
  if inRange 1 Config.planEntries count then
    if 0 < (s.bank target).refCount then
      chooseResult .planInUse { bank := target.val, refCount := (s.bank target).refCount } s
    else
      readPlanEntry (paramAddress b 0x0C) 0 <|
        (onCurrent (fun c => { c with work := .loadPlan (paramAddress b 0x0C) target count }) s).modBank target fun x =>
          { x with state := .loading, entries := [] }
  else chooseResult .badParameter { field := 0x08, bank := target.val } s

/-- R103: the pattern symbols of an entry, up to its length. -/
def entryPattern (r : List Byte) : List (Option PatternSymbol) :=
  (List.range (byteAt r 0)).map fun i => patternOfCode (byteAt r (1 + i))

/-- R103: the insert symbols of an entry, up to its length. -/
def entryInsert (r : List Byte) : List (Option Tone) :=
  (List.range (byteAt r 13)).map fun i => toneOfCode (byteAt r (14 + i))

/-- R103: the checks of a plan entry after those already written, in the order stated, each with its field. -/
def planChecks (r : List Byte) (written : List PlanEntry) : List (Nat × Bool) :=
  let action := actionOfCode (byteAt r 11)
  [(0, inRange 1 8 (byteAt r 0)), (1, (entryPattern r).all Option.isSome), (9, byteAt r 0 ≤ byteAt r 9),
   (10, inRange (byteAt r 9) 24 (byteAt r 10)), (11, action.isSome),
   (12, inRange 0 8 (byteAt r 12) && byteAt r 12 ≤ byteAt r 9 && (action == some .stripPrepend || byteAt r 12 == 0)),
   (13, inRange 0 8 (byteAt r 13) && (!(action == some .pass || action == some .bar) || byteAt r 13 == 0)),
   (14, (entryInsert r).all Option.isSome), (22, (classOfCode (byteAt r 22)).isSome),
   (1, !(written.any fun e => e.pattern == (entryPattern r).filterMap id))]

/-- R196: the plan entry a record that passed holds. -/
def planEntryOf (r : List Byte) : PlanEntry :=
  { pattern := (entryPattern r).filterMap id, minLen := byteAt r 9, maxLen := byteAt r 10,
    action := (actionOfCode (byteAt r 11)).getD .pass, strip := byteAt r 12, insert := (entryInsert r).filterMap id,
    cls := (classOfCode (byteAt r 22)).getD .b }

/-- R104: the last entry has been written: the target is STAGED and the order completes OK in a single step. -/
def stagePlan (target : BankNo) (count : Nat) (s : State) : State :=
  chooseResult .ok { bank := target.val, index := count } (s.modBank target fun x => { x with state := .staged })

/-- R103, R104: an entry of LOAD_PLAN has been read; `i` is its index. -/
def takePlanEntry (source : Word) (target : BankNo) (count : Nat) (r : List Byte) (s : State) : State :=
  let i := (s.bank target).entries.length
  match firstFailure (planChecks r (s.bank target).entries) with
  | some field => chooseResult .badParameter { field, bank := target.val, index := i } (emptyCurrentLoad s)
  | none =>
    let t := s.modBank target fun x => { x with entries := x.entries ++ [planEntryOf r] }
    if i + 1 < count then readPlanEntry source (i + 1) t else stagePlan target count t

/-- R103: a plan entry has been read. -/
def planRead (bytes : PlanBytes) (s : State) : State :=
  match s.orders.current with
  | some { work := .loadPlan source target count, .. } => takePlanEntry source target count bytes.toList s
  | _ => s

/-! ### SWITCH_PLAN -/

/-- R106: how the bank that was active is left. -/
def Bank.retire (b : Bank) : Bank := if b.state = .active then { b with state := .inactiveLoaded } else b

/-- R106: SWITCH_PLAN. -/
def switchPlan (s : State) : State :=
  let b := otherBank s
  if (s.bank b).state = .staged then
    let former := s.plan.active
    let t := ((s.modBank former Bank.retire).modBank b fun x => { x with state := .active }).modPlan fun p =>
      { p with active := b }
    chooseResult .ok { bank := b.val, refCount := (s.bank former).refCount } t
  else chooseResult .notStaged { bank := b.val, state := (s.bank b).state.code } s

/-! ### The meanings -/

/-- LOAD_PLAN (R102). -/
def execLoadPlan (b : OrderBody) (s : State) : Host.Outcome State Fault Refusal :=
  .next (whenBody (.loadPlan b) b (loadPlan b) s)

/-- PLAN_ENTRY_READ_DONE (R103). -/
def execPlanEntryReadDone (bytes : PlanBytes) (s : State) : Host.Outcome State Fault Refusal :=
  .next (whenDone .planRead (unlessAborted (planRead bytes)) s)

/-- SWITCH_PLAN (R106). -/
def execSwitchPlan (b : OrderBody) (s : State) : Host.Outcome State Fault Refusal :=
  .next (whenBody (.switchPlan b) b switchPlan s)

end Sys2Proof.Machine
end

