-- ==== Sys2Proof/Machine/Records.lean ====
section
/-! DEFINITION. Meanings of the record writer's completions (R157 to R162). -/

namespace Sys2Proof.Machine

/-- R162, R163: the head draft is dropped and counted. -/
def dropHead (s : State) : State :=
  (s.modControl fun c => { c with recordsDropped := satSucc 255 c.recordsDropped }).modWriter fun w =>
    { w with fifo := w.fifo.tail }

/-- R159, R162: the pass has examined every slot and failed: in STOPPING the head is dropped and the next head gets its
pass; in RUNNING the writer parks, raising RECORD_PARKED unless the pass was a parked writer's retry. -/
def passFailed (s : State) : State :=
  if s.stopping then beginPass false (dropHead s)
  else
    let t := s.modWriter fun w => { w with state := .parked, retry := false }
    if s.writer.retry then t else raise .recordParked t

/-- R158: the body of the chosen slot is written: every field of the head draft, with the current sequence number. -/
def writeBody (i : Nat) (s : State) : State :=
  match s.writer.fifo with
  | [] => s
  | d :: _ =>
    (s.modWriter fun w => { w with chosen := i, state := .writingBody, retry := false }).modPort fun p =>
      { p with
        waitWriter :=
          some (writeAccess s .recordBodyWrite (recordSlot s.writer i + 4) (recordBody s.writer.sequence d)) }

/-- R157: the read of a record slot's mark completes. -/
def recordMarkRead (mark : Word) (s : State) : State :=
  let i := s.writer.searchSlot
  let t := s.modWriter fun w => { w with examined := w.examined + 1 }
  if mark = markFree then writeBody i t
  else if t.writer.examined < t.writer.slots then readRecordMark t
  else passFailed t

/-- R158: the body write completes; FILLED is written into the mark. -/
def writeFilled (s : State) : State :=
  (s.modWriter fun w => { w with state := .writingMark }).modPort fun p =>
    { p with
      waitWriter := some (writeAccess s .recordMarkWrite (recordSlot s.writer s.writer.chosen) (toLE 4 markFilled)) }

/-- R158: the mark write completes: the five steps. -/
def recordFilled (s : State) : State :=
  beginPass false <| raise .recordWritten <| s.modWriter fun w =>
    { w with fifo := w.fifo.tail, sequence := w.sequence + 1, cursor := (w.chosen + 1) % w.slots }

/-! ### The meanings -/

/-- RECORD_MARK_READ_DONE (R157). -/
def execRecordMarkReadDone (mark : Word) (s : State) : Host.Outcome State Fault Refusal :=
  .next (whenDone .recordMarkRead (recordMarkRead mark) s)

/-- RECORD_BODY_WRITE_DONE (R158). -/
def execRecordBodyWriteDone (s : State) : Host.Outcome State Fault Refusal :=
  .next (whenDone .recordBodyWrite writeFilled s)

/-- RECORD_MARK_WRITE_DONE (R158). -/
def execRecordMarkWriteDone (s : State) : Host.Outcome State Fault Refusal :=
  .next (whenDone .recordMarkWrite recordFilled s)

end Sys2Proof.Machine
end

