-- ==== Sys2Proof/Machine/Registers.lean ====
section
/-! DEFINITION. Meanings of the register commands: power-on, hold reset and its release, RUN, ABORT_ORDER, ATTN_ENABLE,
STATION BASE, ATTENTION and the register bus (10, 11). -/

namespace Sys2Proof.Machine

/-! ### RUN and HOLD_RESET -/

/-- R181, R183: RUN written 1. -/
def runWritten1 (s : State) : State :=
  if s.control.holdReset || s.control.run then s
  else
    let t := s.modControl fun c => { c with run := true }
    if s.control.part = .halted then enterStarting t else t

/-- R166: the header read of a start that RUN written 0 abandons finishes and is discarded; one still waiting is not
made. -/
def abandonHeaderRead (p : Port) : Port :=
  { p with
    waitStart := none,
    inFlight := p.inFlight.map fun a =>
      if a.purpose = .headerRead ∧ a.abandoned = none then { a with abandoned := some .byRunCleared } else a }

/-- R183: RUN written 0 in each part state. -/
def runCleared (s : State) : State :=
  match s.control.part with
  | .starting => (s.modControl fun c => { c with part := .halted }).modPort abandonHeaderRead
  | .startFailed => s.modControl fun c => { c with part := .halted }
  | .running => enterStopping s
  | .halted => s
  | .stopping => s
  | .resetHeld => s

/-- R181, R183: RUN written 0. -/
def runWritten0 (s : State) : State :=
  if s.control.holdReset || !s.control.run then s else runCleared (s.modControl fun c => { c with run := false })

/-- R181: the write takes RUN as given; one that gives it the value it held is no RUN event. -/
def writeRun (run : Bool) (s : State) : State := if run then runWritten1 s else runWritten0 s

/-- R181: a write of ATTN_ENABLE. -/
def writeAttnEnable (v : Bool) (s : State) : State :=
  if s.control.holdReset then s else s.modControl fun c => { c with attnEnable := v }

/-- R181, R183: HOLD_RESET written 0 in RESET_HELD, with the write's RUN and ATTN_ENABLE. -/
def holdResetRelease (run attn : Bool) (s : State) : State :=
  if s.control.holdReset then
    writeRun run (s.modControl fun c => { c with part := .halted, holdReset := false, attnEnable := attn })
  else s

/-! ### The other registers -/

/-- R182: STATION BASE, taken in RESET_HELD and HALTED, low 12 bits discarded. -/
def writeStationBase (v : Word) (s : State) : State :=
  if s.control.part = .resetHeld ∨ s.control.part = .halted then
    s.modControl fun c => { c with stationBase := v &&& 0xFFFFF000 }
  else s

/-- R187, R190: ATTENTION MASK, bits 1 to 9. -/
def writeAttentionMask (v : Word) (s : State) : State :=
  s.modControl fun c => { c with attentionMask := v &&& 0x3FE }

/-- R187: a read of ATTENTION answers the code of the highest-priority pending flag and clears that flag. -/
def readAttention (s : State) : State :=
  s.modControl fun c =>
    match firstPending c with
    | some i => { c with readData := BitVec.ofNat 32 (i.val + 1), attention := c.attention.set i false }
    | none => { c with readData := 0 }

/-- R181: an ABORT and a RUN change of the same write; either may be taken first (log 20). -/
def abortAndRun (run : Bool) (s : State) : State :=
  if Config.abortFirst s.draws then writeRun run (abortOrder s.draw) else abortOrder (writeRun run s.draw)

/-- R181: a write of CONTROL: bit 0 RUN, bit 1 HOLD_RESET, bit 2 ABORT_ORDER, bit 3 ATTN_ENABLE (R190). -/
def writeControl (v : Word) (s : State) : State :=
  if s.control.holdReset then
    if v.getLsbD 1 then s else holdResetRelease (v.getLsbD 0) (v.getLsbD 3) s
  else if v.getLsbD 1 then holdReset s
  else
    let t := writeAttnEnable (v.getLsbD 3) s
    if v.getLsbD 0 = s.control.run then if v.getLsbD 2 then abortOrder t else t
    else if v.getLsbD 2 then abortAndRun (v.getLsbD 0) t
    else writeRun (v.getLsbD 0) t

/-- R190: a write of a register; of STATE or ATTENTION it is discarded. -/
def writeRegister (r : Register) (v : Word) (s : State) : State :=
  match r with
  | .control => writeControl v s
  | .state => s
  | .stationBase => writeStationBase v s
  | .attention => s
  | .attentionMask => writeAttentionMask v s

/-! ### The meanings -/

/-- POWER_ON (R182). -/
def execPowerOn (s : State) : Host.Outcome State Fault Refusal := .next (powerOn s)

/-- HOLD_RESET (R184), in RESET_HELD too (log 31). -/
def execHoldReset (s : State) : Host.Outcome State Fault Refusal := .next (epilogue (holdReset s))

/-- HOLD_RESET_RELEASE (R181); outside RESET_HELD no such write arises, and nothing changes (log 3). -/
def execHoldResetRelease (run attn : Bool) (s : State) : Host.Outcome State Fault Refusal :=
  .next (epilogue (holdResetRelease run attn s))

/-- RUN_WRITTEN_1 (R183). -/
def execRunWritten1 (s : State) : Host.Outcome State Fault Refusal := .next (epilogue (runWritten1 s))

/-- RUN_WRITTEN_0 (R183). -/
def execRunWritten0 (s : State) : Host.Outcome State Fault Refusal := .next (epilogue (runWritten0 s))

/-- ABORT_ORDER (R176). -/
def execAbortOrder (s : State) : Host.Outcome State Fault Refusal := .next (epilogue (abortOrder s))

/-- ATTN_ENABLE (R181). -/
def execAttnEnable (v : Bool) (s : State) : Host.Outcome State Fault Refusal := .next (writeAttnEnable v s)

/-- STATION_BASE_WRITE (R182). -/
def execStationBaseWrite (v : Word) (s : State) : Host.Outcome State Fault Refusal := .next (writeStationBase v s)

/-- ATTENTION_READ (R187). -/
def execAttentionRead (s : State) : Host.Outcome State Fault Refusal := .next (readAttention s)

/-- REGISTER_WRITE (R190, log 21). -/
def execRegisterWrite (r : Register) (v : Word) (s : State) : Host.Outcome State Fault Refusal :=
  .next (epilogue (writeRegister r v s))

end Sys2Proof.Machine
end

