-- ==== Sys2Proof/Machine/SendTones.lean ====
section
/-! DEFINITION. Meaning of SEND_TONES (R127, R128). -/

namespace Sys2Proof.Machine

/-- R127: the codes of the first `count` symbols of the order. -/
def sendSymbols (b : OrderBody) (count : Nat) : List (Option Tone) :=
  (List.range count).map fun i => toneOfCode (param b (0x10 + i))

/-- R128: the entries an accepted order appends. -/
def orderEntries (slot : Nat) (symbols : List Tone) : List QueueEntry :=
  symbols.map fun t => { symbol := t, origin := .order slot, begun := false }

/-- R128: a SEIZED line enters CONVERTING and its first-digit timer stops; no draft is opened. -/
def leaveSeized (n : LineNo) (s : State) : State :=
  if (s.line n).state = .seized then enterConverting n (s.modLine n fun c => c.stopTimer .firstDigit) else s

/-- R128: the accepted order. A waiting class C line that it makes class A or B is granted at this event if a generator is
FREE (R116: such a claim "waits in the list only while no generator is FREE"; log 32, the model's choice). -/
def acceptSendTones (n : LineNo) (cls : ServiceClass) (slot : Nat) (symbols : List Tone) (s : State) : State :=
  let t := s.modLine n fun c => { c with queue := c.queue ++ orderEntries slot symbols }
  let t := (leaveSeized n t).modLine n fun c => c.zeroTimer .quiet
  let t := (onCurrent (fun c => { c with work := .sendTones n cls symbols.length 0 false, progressed := true }) t).modOrders
    fun o => { o with state := .inProgress }
  afterEvent n (formClassAfresh n t)

/-- R127: the line is checked, and the order refused or accepted. -/
def sendTonesOn (n : LineNo) (cls : ServiceClass) (symbols : List Tone) (s : State) : State :=
  let c := s.line n
  let free := Config.sendQueue - c.queue.length
  match c.state with
  | .disabled => chooseResult .lineNotReady { state := c.state.code } s
  | .idle => chooseResult .lineNotReady { state := c.state.code } s
  | .lockout => chooseResult .lineNotReady { state := c.state.code } s
  | .collecting => chooseResult .lineBusy { state := c.state.code } s
  | .sending => chooseResult .lineBusy { state := c.state.code } s
  | .seized =>
    if free < symbols.length then chooseResult .queueFull { free } s
    else acceptSendTones n cls ((s.orders.current.map CurrentOrder.slot).getD 0) symbols s
  | .converting =>
    if free < symbols.length then chooseResult .queueFull { free } s
    else acceptSendTones n cls ((s.orders.current.map CurrentOrder.slot).getD 0) symbols s

/-- R127: SEND_TONES: line, class, count and symbols are checked in that order. -/
def sendTones (b : OrderBody) (s : State) : State :=
  if h : param b 0x08 < Config.lines then
    match classOfCode (param b 0x09) with
    | none => badParameter 0x09 s
    | some cls =>
      if inRange 1 24 (param b 0x0A) then
        if (sendSymbols b (param b 0x0A)).all Option.isSome then
          sendTonesOn ⟨param b 0x08, h⟩ cls ((sendSymbols b (param b 0x0A)).filterMap id) s
        else badParameter 0x10 s
      else badParameter 0x0A s
  else badParameter 0x08 s

/-- SEND_TONES (R127). -/
def execSendTones (b : OrderBody) (s : State) : Host.Outcome State Fault Refusal :=
  .next (whenBody (.sendTones b) b (sendTones b) s)

end Sys2Proof.Machine
end

