-- ==== Sys2Proof/Machine/SettingsOrders.lean ====
section
/-! DEFINITION. Meanings of the orders on the settings store: SET_LINE (R87), LOAD_PROFILE (R86) and LOAD_TONES (R138,
R139). -/

namespace Sys2Proof.Machine

/-! ### SET_LINE -/

/-- R87: the line acts on the enable; one that enters IDLE does so as R83 and R12 say. -/
def applyEnable (n : LineNo) (enable : Bool) (s : State) : State :=
  match (s.line n).state, enable with
  | .disabled, true =>
    (s.modLine n (LineCtx.enterAfter .idle)).modClassifier n (Classifier.enterIdle s.slotPath.lineHw.present)
  | .disabled, false => s
  | _, true => s
  | _, false => (teardown n .disabled s).modClassifier n fun c => { c with bound := none, change := false }

/-- R87: the setting is written, and the line acts on it. -/
def applySetting (n : LineNo) (x : LineSetting) (s : State) : State :=
  applyEnable n x.enabled (s.modSettings fun st => { st with lines := st.lines.set n x })

/-- R87: SET_LINE: line, enable, profile and class are checked in that order. -/
def setLine (b : OrderBody) (s : State) : State :=
  if h : param b 0x08 < Config.lines then
    if 1 < param b 0x09 then badParameter 0x09 s
    else if hp : param b 0x0A < Config.profiles then
      match classOfCode (param b 0x0B) with
      | none => badParameter 0x0B s
      | some cls =>
        chooseResult .ok {}
          (applySetting ⟨param b 0x08, h⟩ { enabled := param b 0x09 == 1, profile := ⟨param b 0x0A, hp⟩, cls } s)
    else badParameter 0x0A s
  else badParameter 0x08 s

/-! ### LOAD_PROFILE -/

/-- Ten table entries at an offset of a record are tone symbols or NONE (R52, R54). -/
def tableValid (r : List Byte) (offset : Nat) : Bool :=
  (List.range 10).all fun i => (tableEntryOfCode (byteAt r (offset + i))).isSome

/-- R86, R195: the checks of a profile record, in record order, each with the byte offset of its field. -/
def profileChecks (r : List Byte) : List (Nat × Bool) :=
  [(0, inRange 0 15 (byteAt r 0)), (1, inRange 10 1000 (half r 1)), (3, inRange 5 150 (byteAt r 3)),
   (4, inRange (byteAt r 3) 250 (byteAt r 4)), (5, inRange (byteAt r 4 + 1) 2000 (half r 5)),
   (7, inRange (half r 5) 2000 (half r 7)), (9, inRange (half r 7 + 1) 5000 (half r 9)),
   (11, inRange 50 250 (byteAt r 11)), (12, inRange 1 4 (byteAt r 12)), (13, inRange 12 40 (byteAt r 13)),
   (14, inRange 50 1000 (half r 14)), (16, inRange (half r 14) 1000 (half r 16)), (18, tableValid r 18),
   (28, tableValid r 28), (38, inRange 0 1 (byteAt r 38)), (39, inRange 0 1 (byteAt r 39)),
   (40, inRange 0 1 (byteAt r 40)), (41, inRange 500 5000 (half r 41)), (43, inRange 1 60 (byteAt r 43)),
   (44, inRange 1000 20000 (half r 44)), (46, inRange 1000 60000 (half r 46)), (48, inRange 0 1 (byteAt r 48)),
   (49, inRange 100 30000 (half r 49)), (51, inRange 100 30000 (half r 51)), (53, inRange 40 250 (byteAt r 53)),
   (54, inRange 40 250 (byteAt r 54)), (55, inRange 0 2000 (half r 55)), (57, inRange 50 1000 (half r 57)),
   (59, inRange 0 200 (byteAt r 59))]

/-- Ten table entries at an offset of a record. -/
def tableOf (r : List Byte) (offset : Nat) : Table 10 (Option Tone) :=
  Table.ofFn fun i => (tableEntryOfCode (byteAt r (offset + i.val))).getD none

/-- R195: the profile a record holds. -/
def profileOf (r : List Byte) : Profile :=
  { glitchMs := byteAt r 0, seizeMs := half r 1, breakMin := byteAt r 3, breakMax := byteAt r 4, flashMin := half r 5,
    flashMax := half r 7, clearMs := half r 9, initPeriodMs := byteAt r 11, weightShift := byteAt r 12,
    idtFactor := byteAt r 13, idtFloor := half r 14, idtCeiling := half r 16, translation := tableOf r 18,
    escape := tableOf r 28, mode := if byteAt r 38 = 1 then .enBloc else .direct,
    unmatchedAction := if byteAt r 39 = 1 then .bar else .pass, escapeEnable := byteAt r 40 == 1,
    escapeWindowMs := half r 41, firstDigitWait := byteAt r 43, completeMs := half r 44, quietMs := half r 46,
    waitProceed := byteAt r 48 == 1, proceedWaitMs := half r 49, genWaitMs := half r 51, toneOnMs := byteAt r 53,
    toneOffMs := byteAt r 54, genHoldMs := half r 55, flashOutMs := half r 57, muteTailMs := byteAt r 59 }

/-- R86: LOAD_PROFILE: the index is checked, then the record is read. -/
def loadProfile (b : OrderBody) (s : State) : State :=
  if h : param b 0x08 < Config.profiles then
    orderAccess .profileRead (paramAddress b 0x0C) 64 [] 0
      (onCurrent (fun c => { c with work := .loadProfile ⟨param b 0x08, h⟩ }) s)
  else badParameter 0x08 s

/-- R86: the record is checked and installed whole, or the order names the first field that fails. -/
def installProfile (i : ProfileNo) (r : List Byte) (s : State) : State :=
  match firstFailure (profileChecks r) with
  | some field => badParameter field s
  | none =>
    chooseResult .ok {} (s.modSettings fun st => { st with profiles := st.profiles.set i (profileOf r) })

/-- R86: the profile record has been read. -/
def profileRead (bytes : ProfileBytes) (s : State) : State :=
  match s.orders.current with
  | some { work := .loadProfile i, .. } => installProfile i bytes.toList s
  | _ => s

/-! ### LOAD_TONES -/

/-- R138: the read of tone entry `i`. -/
def readToneEntry (source : Word) (i : Nat) (s : State) : State :=
  orderAccess .toneRead (source + BitVec.ofNat 32 (8 * i)) 8 [] i s

/-- R138: LOAD_TONES. -/
def loadTones (b : OrderBody) (s : State) : State :=
  readToneEntry (paramAddress b 0x0C) 0
    (onCurrent (fun c => { c with work := .loadTones (paramAddress b 0x0C) [] }) s)

/-- R138: a frequency is 0 or from 100 to 3900. -/
def frequencyValid (f : Nat) : Bool := f == 0 || inRange 100 3900 f

/-- R138: the checks of a tone entry, in field order. -/
def toneChecks (r : List Byte) : List (Nat × Bool) :=
  [(0, frequencyValid (half r 0)), (2, frequencyValid (half r 2)), (4, inRange 0 32767 (half r 4)),
   (6, inRange 0 32767 (half r 6))]

/-- R196: the fields of a tone entry. -/
def toneFields (r : List Byte) : ToneFields :=
  { lowHz := half r 0, highHz := half r 2, lowAmp := half r 4, highAmp := half r 6 }

/-- R139: the table of sixteen entries with their derived values. -/
def toneTable (passed : List ToneFields) : Table 16 ToneEntry :=
  Table.ofFn fun i =>
    let f := passed.getD i.val { lowHz := 0, highHz := 0, lowAmp := 0, highAmp := 0 }
    toneEntry f.lowHz f.highHz f.lowAmp f.highAmp

/-- R138, R139: an entry that passed joins those held; the sixteenth installs the table. -/
def tonePassed (source : Word) (passed : List ToneFields) (s : State) : State :=
  if passed.length < 16 then
    readToneEntry source passed.length (onCurrent (fun c => { c with work := .loadTones source passed }) s)
  else chooseResult .ok {} (s.modSettings fun st => { st with tones := toneTable passed })

/-- R138: a tone entry has been read. -/
def toneRead (bytes : ToneBytes) (s : State) : State :=
  match s.orders.current with
  | some { work := .loadTones source passed, .. } =>
    match firstFailure (toneChecks bytes.toList) with
    | some field => chooseResult .badParameter { field, index := passed.length } s
    | none => tonePassed source (passed ++ [toneFields bytes.toList]) s
  | _ => s

/-! ### The meanings -/

/-- SET_LINE (R87). -/
def execSetLine (b : OrderBody) (s : State) : Host.Outcome State Fault Refusal :=
  .next (whenBody (.setLine b) b (setLine b) s)

/-- LOAD_PROFILE (R86). -/
def execLoadProfile (b : OrderBody) (s : State) : Host.Outcome State Fault Refusal :=
  .next (whenBody (.loadProfile b) b (loadProfile b) s)

/-- PROFILE_READ_DONE (R86). -/
def execProfileReadDone (bytes : ProfileBytes) (s : State) : Host.Outcome State Fault Refusal :=
  .next (whenDone .profileRead (unlessAborted (profileRead bytes)) s)

/-- LOAD_TONES (R138). -/
def execLoadTones (b : OrderBody) (s : State) : Host.Outcome State Fault Refusal :=
  .next (whenBody (.loadTones b) b (loadTones b) s)

/-- TONE_ENTRY_READ_DONE (R138). -/
def execToneEntryReadDone (bytes : ToneBytes) (s : State) : Host.Outcome State Fault Refusal :=
  .next (whenDone .toneRead (unlessAborted (toneRead bytes)) s)

end Sys2Proof.Machine
end

