-- ==== Sys2Proof/Machine/Dispatch.lean ====
section
/-! DEFINITION. One arm per command: which meaning it has. -/

namespace Sys2Proof.Machine

def exec (i : Instr) (s : State) : Host.Outcome State Fault Refusal :=
  match i with
  | .powerOn => Sys2Proof.Machine.execPowerOn s
  | .holdReset => Sys2Proof.Machine.execHoldReset s
  | .holdResetRelease run attnEnable => Sys2Proof.Machine.execHoldResetRelease run attnEnable s
  | .runWritten1 => Sys2Proof.Machine.execRunWritten1 s
  | .runWritten0 => Sys2Proof.Machine.execRunWritten0 s
  | .abortOrder => Sys2Proof.Machine.execAbortOrder s
  | .attnEnable value => Sys2Proof.Machine.execAttnEnable value s
  | .stationBaseWrite value => Sys2Proof.Machine.execStationBaseWrite value s
  | .attentionRead => Sys2Proof.Machine.execAttentionRead s
  | .registerWrite register value => Sys2Proof.Machine.execRegisterWrite register value s
  | .lineFrame frame => Sys2Proof.Machine.execLineFrame frame s
  | .referenceFrameTime => Sys2Proof.Machine.execReferenceFrameTime s
  | .returnFrame frame => Sys2Proof.Machine.execReturnFrame frame s
  | .frameWatchExpiry highway => Sys2Proof.Machine.execFrameWatchExpiry highway s
  | .millisecondEvent => Sys2Proof.Machine.execMillisecondEvent s
  | .loopChangeAccepted n => Sys2Proof.Machine.execLoopChangeAccepted n s
  | .longOpenEntry n => Sys2Proof.Machine.execLongOpenEntry n s
  | .seizure n => Sys2Proof.Machine.execSeizure n s
  | .clear n => Sys2Proof.Machine.execClear n s
  | .digitComplete n => Sys2Proof.Machine.execDigitComplete n s
  | .firstDigitTimerExpiry n => Sys2Proof.Machine.execFirstDigitTimerExpiry n s
  | .completeTimerExpiry n => Sys2Proof.Machine.execCompleteTimerExpiry n s
  | .quietTimerExpiry n => Sys2Proof.Machine.execQuietTimerExpiry n s
  | .proceedTimerExpiry n => Sys2Proof.Machine.execProceedTimerExpiry n s
  | .generatorWaitTimerExpiry n => Sys2Proof.Machine.execGeneratorWaitTimerExpiry n s
  | .escapeTimerExpiry n => Sys2Proof.Machine.execEscapeTimerExpiry n s
  | .muteTailExpiry n => Sys2Proof.Machine.execMuteTailExpiry n s
  | .flashOutExpiry n => Sys2Proof.Machine.execFlashOutExpiry n s
  | .onExpiry g => Sys2Proof.Machine.execOnExpiry g s
  | .gapExpiry g => Sys2Proof.Machine.execGapExpiry g s
  | .holdExpiry g => Sys2Proof.Machine.execHoldExpiry g s
  | .sweepEvent => Sys2Proof.Machine.execSweepEvent s
  | .orderMarkReadDone mark => Sys2Proof.Machine.execOrderMarkReadDone mark s
  | .takenWriteDone => Sys2Proof.Machine.execTakenWriteDone s
  | .unknownOrder body => Sys2Proof.Machine.execUnknownOrder body s
  | .nop body => Sys2Proof.Machine.execNop body s
  | .identify body => Sys2Proof.Machine.execIdentify body s
  | .identifyWriteDone => Sys2Proof.Machine.execIdentifyWriteDone s
  | .readLine body => Sys2Proof.Machine.execReadLine body s
  | .readLineWriteDone => Sys2Proof.Machine.execReadLineWriteDone s
  | .setLine body => Sys2Proof.Machine.execSetLine body s
  | .loadProfile body => Sys2Proof.Machine.execLoadProfile body s
  | .profileReadDone bytes => Sys2Proof.Machine.execProfileReadDone bytes s
  | .loadTones body => Sys2Proof.Machine.execLoadTones body s
  | .toneEntryReadDone bytes => Sys2Proof.Machine.execToneEntryReadDone bytes s
  | .loadPlan body => Sys2Proof.Machine.execLoadPlan body s
  | .planEntryReadDone bytes => Sys2Proof.Machine.execPlanEntryReadDone bytes s
  | .switchPlan body => Sys2Proof.Machine.execSwitchPlan body s
  | .sendTones body => Sys2Proof.Machine.execSendTones body s
  | .orderResultWriteDone => Sys2Proof.Machine.execOrderResultWriteDone s
  | .orderDoneWriteDone => Sys2Proof.Machine.execOrderDoneWriteDone s
  | .touchedWriteDone => Sys2Proof.Machine.execTouchedWriteDone s
  | .recordMarkReadDone mark => Sys2Proof.Machine.execRecordMarkReadDone mark s
  | .recordBodyWriteDone => Sys2Proof.Machine.execRecordBodyWriteDone s
  | .recordMarkWriteDone => Sys2Proof.Machine.execRecordMarkWriteDone s
  | .headerReadDone bytes => Sys2Proof.Machine.execHeaderReadDone bytes s
  | .hostBusError => Sys2Proof.Machine.execHostBusError s

end Sys2Proof.Machine
end

