-- ==== Sys2Proof/Machine/Step.lean ====
section
/-! DEFINITION. One step of the part: the command at the front of the queue, or, with none waiting, one of the part's own
events that is due. -/

namespace Sys2Proof.Machine

/-- With no command waiting the part takes one event that is due, builds the trunk frame of the frame in hand when none
is left, and otherwise idles (log 5). -/
def idle (s : State) : State := concludeIfQuiet (takeOne s)

/-- One step. -/
def step (s : State) : Host.Outcome State Fault Refusal :=
  match s.pending with
  | [] => .next (idle s)
  | c :: rest => exec c { s with pending := rest }

/-- The command that a word spells, put at the front of the queue. -/
def State.withFetchWord (s : State) (nbits w : Nat) : State :=
  match decodeTableWord nbits w with
  | some c => { s with pending := c :: s.pending }
  | none => s

end Sys2Proof.Machine
end

