-- ==== Sys2Proof/Safety.lean ====
section
/-! DEFINITION. What a safe run of the part is: the invariants its state keeps, and the terms in which the statements say
what a command needs and what it answers. -/

namespace Sys2Proof.Machine

/-! ### Invariants -/

/-- R181 to R183, R187, R163: the registers hold legal values: HOLD_RESET reads 1 in RESET_HELD alone, RUN agrees with the
part state outside STOPPING, the base is a multiple of 4096, unused mask bits read 0, and records dropped fits its field. -/
def Control.Legal (c : Control) : Prop :=
  (c.holdReset = true ↔ c.part = .resetHeld) ∧
  (c.part = .resetHeld ∨ c.part = .halted → c.run = false) ∧
  (c.part = .starting ∨ c.part = .running ∨ c.part = .startFailed → c.run = true) ∧
  c.stationBase.toNat % 4096 = 0 ∧ c.attentionMask &&& 0xFFFFFC01 = 0 ∧ c.recordsDropped ≤ 255

/-- R3, R8, R10: the frame count and the restore counts stay in range, and while the return highway is lost every effective
flag reads clear. -/
def SlotPath.Legal (p : SlotPath) : Prop :=
  p.frameCount < 8 ∧ p.lineHw.restoreCount ≤ 32 ∧ p.retHw.restoreCount ≤ 32 ∧
  (p.retHw.present = false → ∀ n, p.proceed.get n = false ∧ p.incoming.get n = false)

/-- R19, R44, R85: every numeric field of a profile is within its range. -/
def Profile.Legal (p : Profile) : Prop :=
  p.glitchMs ≤ 15 ∧ (10 ≤ p.seizeMs ∧ p.seizeMs ≤ 1000) ∧ (5 ≤ p.breakMin ∧ p.breakMin ≤ 150) ∧
  (p.breakMin ≤ p.breakMax ∧ p.breakMax ≤ 250) ∧ (p.breakMax < p.flashMin ∧ p.flashMin ≤ 2000) ∧
  (p.flashMin ≤ p.flashMax ∧ p.flashMax ≤ 2000) ∧ (p.flashMax < p.clearMs ∧ p.clearMs ≤ 5000) ∧
  (50 ≤ p.initPeriodMs ∧ p.initPeriodMs ≤ 250) ∧ (1 ≤ p.weightShift ∧ p.weightShift ≤ 4) ∧
  (12 ≤ p.idtFactor ∧ p.idtFactor ≤ 40) ∧ (50 ≤ p.idtFloor ∧ p.idtFloor ≤ 1000) ∧
  (p.idtFloor ≤ p.idtCeiling ∧ p.idtCeiling ≤ 1000) ∧ (500 ≤ p.escapeWindowMs ∧ p.escapeWindowMs ≤ 5000) ∧
  (1 ≤ p.firstDigitWait ∧ p.firstDigitWait ≤ 60) ∧ (1000 ≤ p.completeMs ∧ p.completeMs ≤ 20000) ∧
  (1000 ≤ p.quietMs ∧ p.quietMs ≤ 60000) ∧ (100 ≤ p.proceedWaitMs ∧ p.proceedWaitMs ≤ 30000) ∧
  (100 ≤ p.genWaitMs ∧ p.genWaitMs ≤ 30000) ∧ (40 ≤ p.toneOnMs ∧ p.toneOnMs ≤ 250) ∧
  (40 ≤ p.toneOffMs ∧ p.toneOffMs ≤ 250) ∧ p.genHoldMs ≤ 2000 ∧ (50 ≤ p.flashOutMs ∧ p.flashOutMs ≤ 1000) ∧
  p.muteTailMs ≤ 200

/-- R44, R84, R137: every stored profile is legal, every tone entry carries its own derived values, and every estimator's
P is from 0 to 4095. -/
def State.StoreLegal (s : State) : Prop :=
  (∀ i, (s.settings.profiles.get i).Legal) ∧
  (∀ i, (s.settings.tones.get i).low = deriveTone (s.settings.tones.get i).lowHz (s.settings.tones.get i).lowAmp ∧
        (s.settings.tones.get i).high = deriveTone (s.settings.tones.get i).highHz (s.settings.tones.get i).highAmp) ∧
  (∀ n, (s.estimator n).p ≤ 4095)

/-- R156: the FIFO holds at most one draft of a line, and a line with a draft open has none there. -/
def State.FifoLegal (s : State) : Prop :=
  (s.writer.fifo.map fun d => d.draft.line).Nodup ∧
  ∀ n d, (s.line n).draft = .opened d → d.line = n ∧ closedWaiting s n = false

/-- The order unit and the port have nothing to do (R171). -/
def State.Dormant (s : State) : Prop :=
  s.orders.current = none ∧ s.port.behind = none ∧ s.port.waitWriter = none ∧ s.port.waitOrder = none

/-- R171, R173, R177: in RESET_HELD, HALTED and START_FAILED the port makes no access, and one still on the bus is
abandoned; in STARTING it makes the header read alone, which is made in no other state; and once a stop has torn the lines
down no order is current. -/
def State.PortLegal (s : State) : Prop :=
  ((s.control.part = .resetHeld ∨ s.control.part = .halted ∨ s.control.part = .startFailed) →
    s.Dormant ∧ s.port.waitStart = none ∧ ∀ a, s.port.inFlight = some a → a.abandoned ≠ none) ∧
  (s.control.part = .starting →
    s.Dormant ∧ ∀ a, s.port.inFlight = some a → a.abandoned = none → a.purpose = .headerRead ∧ s.port.waitStart = none) ∧
  ((s.control.part = .running ∨ s.control.part = .stopping) →
    s.port.waitStart = none ∧
    (∀ a, s.port.inFlight = some a → a.abandoned = none → a.purpose ≠ .headerRead) ∧
    ∀ a, (s.port.behind = some a ∨ s.port.waitWriter = some a ∨ s.port.waitOrder = some a) → a.purpose ≠ .headerRead) ∧
  (s.control.part = .stopping → s.control.stopTornDown = true → s.orders.current = none)

/-- R112, R114, R115: in RUNNING no line holds two generators, one is FREE exactly when it is attached to none and serves a
class exactly when it is attached, and the wait list stands in grant order, names a line at most once, and names only lines
that hold no generator and have symbols queued. -/
def State.PoolLegal (s : State) : Prop :=
  s.running = true →
  (∀ g h n, (s.gen g).attached = some n → (s.gen h).attached = some n → g = h) ∧
  (∀ g, ((s.gen g).state = .free ↔ (s.gen g).attached = none) ∧
    ((s.gen g).attached = none ↔ (s.gen g).served = none)) ∧
  (s.pool.waitList.map WaitEntry.line).Nodup ∧ (s.pool.waitList.map WaitEntry.join).Nodup ∧
  s.pool.waitList.Pairwise (fun a b => a.before b = true) ∧
  ∀ e ∈ s.pool.waitList, e.join < s.pool.joins ∧ (∀ g, (s.gen g).attached ≠ some e.line) ∧ (s.line e.line).queue ≠ []

/-- A safe state: all of the invariants. -/
def State.Safe (s : State) : Prop :=
  s.control.Legal ∧ s.slotPath.Legal ∧ s.StoreLegal ∧ s.FifoLegal ∧ s.PortLegal ∧ s.PoolLegal

/-! ### What a command needs -/

/-- An access of purpose `p` is on the host bus, and its result is not to be discarded. -/
def State.onBus (s : State) (p : Purpose) : Bool :=
  match s.port.inFlight with
  | some a => a.purpose == p && a.abandoned.isNone
  | none => false

/-- Order `c` is current and no ABORT waits for its access. -/
def State.working (s : State) (c : CurrentOrder) : Prop := s.orders.current = some c ∧ c.abort = false

/-- In RUNNING, the body of order `c` is being read and no ABORT waits for it: the order can be carried out (R174). -/
def State.executing (s : State) (c : CurrentOrder) : Prop :=
  s.running = true ∧ s.onBus .bodyRead = true ∧ s.working c

/-- No class A claim waits, so no generator is preempted (R119). -/
def State.noEmergency (s : State) : Bool := s.pool.waitList.all fun e => e.cls != .a

/-- Generator `g` is the one generator attached to line `n` (R115). -/
def State.serves (s : State) (g : GenNo) (n : LineNo) : Prop :=
  (s.gen g).attached = some n ∧ ∀ h, (s.gen h).attached = some n → h = g

/-- R119: a generator in ON or GAP that serves class C. -/
def State.preemptable (s : State) (g : GenNo) : Prop :=
  ((s.gen g).state = .on ∨ (s.gen g).state = .gap) ∧ (s.gen g).served = some .c

/-! ### What a command answers -/

/-- R187: the cause's flag is set if its enable is 1, and every other flag is as it was. -/
def Raised (k : Cause) (c d : Control) : Prop :=
  d.attention = if c.attentionMask.getLsbD k.code then c.attention.set k.index true else c.attention

/-- Nothing but the order unit and the memory port changes. -/
def OrderUnitOnly (s u : State) : Prop :=
  u.pending = s.pending ∧ u.draws = s.draws ∧ u.control = s.control ∧ u.slotPath = s.slotPath ∧
  u.classifiers = s.classifiers ∧ u.estimators = s.estimators ∧ u.lines = s.lines ∧ u.settings = s.settings ∧
  u.plan = s.plan ∧ u.pool = s.pool ∧ u.voices = s.voices ∧ u.writer = s.writer

/-- R175: the current order has chosen this result: the unit is COMPLETING and the result write is asked for. Details not
named are 0 (log 34, the model's choice). -/
def Answered (s u : State) (status : OrderStatus) (details : Details) : Prop :=
  u.orders.state = .completing ∧ u.orders.cursor = s.orders.cursor ∧
  ∃ c d, s.orders.current = some c ∧ u.orders.current = some d ∧ d.slot = c.slot ∧
    d.result = some { status, details } ∧
    u.port.waitOrder =
      some (writeAccess s .resultWrite (orderSlot s.orders c.slot + 0x28) (resultBytes { status, details }))

/-- What an entry of a send queue is, whether or not it has begun sending. -/
def QueueEntry.what (e : QueueEntry) : Tone × Origin := (e.symbol, e.origin)

/-- R99 to R101: the draft `d` of line `n` after a decision by entry `i` that sends. -/
def decidedDraft (s : State) (n : LineNo) (i : Nat) (e : PlanEntry) (d : Draft) : Draft :=
  { d with
    bank := (s.line n).boundBank, entry := some i, action := some e.action, toSend := (e.sends (s.line n).number).length,
    emergency := d.emergency || e.cls == .a }

/-- R118, R123: generator `g` has been granted to line `n` at a class: it is in ON for the head of the line's queue, which
has begun, with its CLIP indicator clear; every other generator is as it was. -/
def Granted (s u : State) (g : GenNo) (n : LineNo) (cls : ServiceClass) : Prop :=
  (u.gen g).state = .on ∧ (u.gen g).attached = some n ∧ (u.gen g).served = some cls ∧ (u.gen g).clip = false ∧
  (u.gen g).timer = .running 0 (s.boundProfile n).toneOnMs ∧ (∀ h, h ≠ g → u.gen h = s.gen h) ∧
  ∃ q rest, (s.line n).queue = q :: rest ∧ (u.line n).queue = { q with begun := true } :: rest

/-- Every line but `n` keeps its classifier, its estimator and its context. -/
def OtherLinesKept (n : LineNo) (s u : State) : Prop :=
  ∀ m, m ≠ n → u.classifier m = s.classifier m ∧ u.estimator m = s.estimator m ∧ u.line m = s.line m

/-- Every classifier and estimator but those of line `n` is kept. -/
def OtherLoopsKept (n : LineNo) (s u : State) : Prop :=
  ∀ m, m ≠ n → u.classifier m = s.classifier m ∧ u.estimator m = s.estimator m

/-- The blocks that no event of a line reaches. -/
def HostSideKept (s u : State) : Prop :=
  u.pending = s.pending ∧ u.draws = s.draws ∧ u.control = s.control ∧ u.slotPath = s.slotPath ∧
  u.settings = s.settings

/-- Everything but the registers, the port and the slot path is kept. -/
def BlocksKept (s t : State) : Prop :=
  t.pending = s.pending ∧ t.classifiers = s.classifiers ∧ t.estimators = s.estimators ∧ t.lines = s.lines ∧
  t.settings = s.settings ∧ t.plan = s.plan ∧ t.pool = s.pool ∧ t.voices = s.voices ∧ t.writer = s.writer ∧
  t.orders = s.orders

/-- The line's closed draft has joined the FIFO with a cause, the close time and P of this moment (R153). -/
def ClosedInto (s u : State) (n : LineNo) (d : Draft) (cause : CloseCause) : Prop :=
  ({ draft := d, closeTime := s.slotPath.runClock, p := (s.estimator n).p, cause } : ClosedDraft) ∈ u.writer.fifo

end Sys2Proof.Machine
end

