-- ==== Sys2Proof/Certificates/Slice0/Obligations.lean ====
section
/-! DEFINITION. The statements for the provers. `exec c s = .next (epilogue u)` says that the command completes, that its
own effect is `u`, and that what every step sets going follows (the port serves, a stop goes on, the trunk frame in hand is
built); `Obligations.EpilogueInRunning` says what that can change. -/

open Sys2Proof Sys2Proof.Machine

/-! ### The step -/

/-- The block's step: the command at the front of the queue is run on the state with the queue's rest; an empty queue with
nothing due idles (log 5). -/
def Obligations.StepRunsTheFrontCommand : Prop :=
  (∀ (c : Instr) (s : State) (rest : List Instr),
    s.pending = c :: rest → step s = exec c { s with pending := rest }) ∧
  (∀ s : State, s.pending = [] → dueEvents s = [] → s.slotPath.frameInHand = none → step s = .next s)

/-- No command ends in a fault or a refusal, and none touches the queue of commands. -/
def Obligations.EveryCommandCompletes : Prop :=
  ∀ (c : Instr) (s : State), ∃ t, exec c s = .next t ∧ t.pending = s.pending

/-- In RUNNING, what follows a command's own effect changes only the memory port's accesses, and, when the frame in hand is
concluded, the trunk frames, the voices, CLIP indicators and CLIPPED flags (R4, R142, R145, R146, R171). -/
def Obligations.EpilogueInRunning : Prop :=
  ∀ u : State, u.running = true →
    (epilogue u).pending = u.pending ∧ (epilogue u).draws = u.draws ∧ (epilogue u).control = u.control ∧
    (epilogue u).classifiers = u.classifiers ∧ (epilogue u).estimators = u.estimators ∧
    (epilogue u).settings = u.settings ∧ (epilogue u).plan = u.plan ∧ (epilogue u).writer = u.writer ∧
    (epilogue u).orders = u.orders ∧ (epilogue u).pool.waitList = u.pool.waitList ∧
    (∀ g, ((epilogue u).gen g).state = (u.gen g).state ∧ ((epilogue u).gen g).attached = (u.gen g).attached ∧
      ((epilogue u).gen g).served = (u.gen g).served ∧ ((epilogue u).gen g).timer = (u.gen g).timer) ∧
    (∀ n, ((epilogue u).line n).mapDraft (fun d => { d with clipped := true })
      = (u.line n).mapDraft fun d => { d with clipped := true }) ∧
    (epilogue u).pool.joins = u.pool.joins ∧ (epilogue u).pool.reserve = u.pool.reserve ∧
    (epilogue u).slotPath.lineHw = u.slotPath.lineHw ∧ (epilogue u).slotPath.retHw = u.slotPath.retHw ∧
    (epilogue u).slotPath.msDue = u.slotPath.msDue ∧ (epilogue u).slotPath.frameCount = u.slotPath.frameCount ∧
    (epilogue u).slotPath.runClock = u.slotPath.runClock ∧
    (epilogue u).slotPath.proceed = u.slotPath.proceed ∧ (epilogue u).slotPath.incoming = u.slotPath.incoming ∧
    (epilogue u).port = servePort u.control.stationBase u.port ∧
    (u.slotPath.frameInHand = none → epilogue u = portServe u)

/-! ### Invariants -/

/-- The state after reset (R182) is safe: it is the first state of the six invariants below. -/
def Obligations.ResetIsSafe : Prop := State.reset.Safe

/-- R181 to R183, R187, R163: the registers stay legal over every step. `PortLegal` rules out states in which a header read
completes outside STARTING; it is kept too (`Obligations.StepKeepsPortLegal`). -/
def Obligations.StepKeepsRegistersLegal : Prop :=
  ∀ s t : State, s.control.Legal → s.PortLegal → step s = .next t → t.control.Legal

/-- R3, R8, R10, R14: the frame count and the restore counts stay in range, and the flags of a lost return highway stay
clear, over every step. -/
def Obligations.StepKeepsSlotPathLegal : Prop :=
  ∀ s t : State, s.slotPath.Legal → step s = .next t → t.slotPath.Legal

/-- R44, R86, R137: every step keeps the stored profiles in their ranges, every tone entry with the derived values of
its own frequencies and amplitudes, and every estimator's P from 0 to 4095. -/
def Obligations.StepKeepsStoreLegal : Prop :=
  ∀ s t : State, s.StoreLegal → step s = .next t → t.StoreLegal

/-- R156: over every step the FIFO holds at most one draft of a line, none of a line whose draft is open. R114, R115:
over every step, while the part is RUNNING, a generator is attached to one line at most and a line to one generator,
one is FREE exactly when it is attached to none, and the wait list stands in grant order (join numbers: log 18), names
a line at most once, and names no line that holds a generator or has nothing queued. -/
def Obligations.StepKeepsFifoLegal : Prop :=
  (∀ s t : State, s.FifoLegal → step s = .next t → t.FifoLegal) ∧
  (∀ s t : State, s.PoolLegal → step s = .next t → t.PoolLegal)

/-- R171: over every step the port makes no access in RESET_HELD, HALTED and START_FAILED, and the header read alone in
STARTING. -/
def Obligations.StepKeepsPortLegal : Prop :=
  ∀ s t : State, s.control.Legal → s.PortLegal → step s = .next t → t.PortLegal

/-! ### Promises about the whole machine -/

/-- R182: outside RESET_HELD and HALTED no command but power-on changes STATION BASE. R187: no command but power-on and a
write of ATTENTION MASK changes the mask. -/
def Obligations.BaseAndMaskChangeOnlyAsStated : Prop :=
  (∀ (c : Instr) (s t : State), exec c s = .next t → s.control.part ≠ .resetHeld → s.control.part ≠ .halted →
    c ≠ .powerOn → t.control.stationBase = s.control.stationBase) ∧
  (∀ (c : Instr) (s t : State), exec c s = .next t → c ≠ .powerOn → (∀ v, c ≠ .registerWrite .attentionMask v) →
    t.control.attentionMask = s.control.attentionMask)

/-- R181, R183: RESET_HELD is left only by a CONTROL write with HOLD_RESET 0 or by power-on. `PortLegal` (no unabandoned
access is on the bus in RESET_HELD) is the invariant of `Obligations.StepKeepsPortLegal`. -/
def Obligations.OnlyReleaseLeavesResetHeld : Prop :=
  ∀ (c : Instr) (s t : State), s.PortLegal → s.control.part = .resetHeld → s.control.holdReset = true →
    exec c s = .next t → t.control.part ≠ .resetHeld →
    c = .powerOn ∨ (∃ run attn, c = .holdResetRelease run attn) ∨
      ∃ v : Word, c = .registerWrite .control v ∧ v.getLsbD 1 = false

/-! ### Arithmetic of the classifier and the plan -/

/-- R48: IDT is P times idt_factor over 8, rounded half to even, raised to 8 x idt_floor or lowered to 8 x idt_ceiling; it
is computed at the load of a seizure and at every sample, with the profile bound at the seizure. -/
def Obligations.InterDigitThreshold : Prop :=
  (∀ (p : Profile) (period : Nat), ∃ x : Nat,
      (16 * x ≤ 2 * (period * p.idtFactor) + 8 ∧ 2 * (period * p.idtFactor) ≤ 16 * x + 8) ∧
      ((16 * x = 2 * (period * p.idtFactor) + 8 ∨ 2 * (period * p.idtFactor) = 16 * x + 8) → x % 2 = 0) ∧
      idtOf p period = if x < 8 * p.idtFloor then 8 * p.idtFloor
        else if 8 * p.idtCeiling < x then 8 * p.idtCeiling else x) ∧
  (∀ p : Profile, (Estimator.load p).p = 8 * p.initPeriodMs ∧ (Estimator.load p).idt = idtOf p (Estimator.load p).p) ∧
  (∀ (p : Profile) (b m : Nat) (e : Estimator), (e.take p b m).idt = idtOf p (e.take p b m).p) ∧
  (∀ (n : LineNo) (s : State), isDue (.seizure n) s = true →
    ∃ u, exec (.seizure n) s = .next (epilogue u) ∧ u.estimator n = Estimator.load (s.namedProfile n) ∧
      (u.line n).bound = some (s.namedProfile n)) ∧
  (∀ (n : LineNo) (s : State), isDue (.loopChange n) s = true → (s.line n).state.seizedOn = true →
    (s.classifier n).accepted = true → (s.classifier n).pulse = .make → (s.classifier n).lastBreakPulse = true →
    ∃ u, exec (.loopChangeAccepted n) s = .next (epilogue u) ∧
      u.estimator n = (s.estimator n).take (s.boundProfile n) (s.classifier n).lastBreak (s.classifier n).interval) ∧
  idtOf Profile.default 1129 = 1694

/-- R47: a sample S moves P to P + (S - P) / 2^k rounded half to even, and the result lies between P and S. -/
def Obligations.PeriodMovesTowardSample : Prop :=
  ∀ (p : Profile) (period sample : Nat), 1 ≤ p.weightShift →
    let k := 2 ^ p.weightShift
    let exact : Int := (period : Int) * k + (sample - period)
    let q : Int := movePeriod p period sample
    (2 * (q * k) ≤ 2 * exact + k ∧ 2 * exact ≤ 2 * (q * k) + k) ∧
    ((2 * (q * k) = 2 * exact + k ∨ 2 * exact = 2 * (q * k) + k) → q % 2 = 0) ∧
    min period sample ≤ movePeriod p period sample ∧ movePeriod p period sample ≤ max period sample

/-- R94: what a candidate is, that an entry that is not one is none for a longer number, and which entry is selected.
R95: the decision after each tone symbol: BARRED, unmatched, with no candidate and unmatched_action BAR; the selected
entry at its max_len with no open candidate, and at 24 symbols; the unmatched action at 24 symbols with none selected;
else the matcher waits. -/
def Obligations.SelectedEntry : Prop :=
  (∀ (e : PlanEntry) (number : List Tone),
    e.candidate number = true ↔ number.length ≤ e.maxLen ∧
      ∀ (i : Nat) (x : PatternSymbol) (t : Tone), e.pattern[i]? = some x → number[i]? = some t → x.matchesTone t = true) ∧
  (∀ (e : PlanEntry) (number more : List Tone), e.candidate (number ++ more) = true → e.candidate number = true) ∧
  (∀ (entries : List PlanEntry) (number : List Tone) (i : Nat) (e : PlanEntry),
    selected entries number = some (i, e) ↔
      entries[i]? = some e ∧ (e.candidate number = true ∧ e.pattern.length ≤ number.length) ∧
      ∀ (j : Nat) (f : PlanEntry), entries[j]? = some f → f.candidate number = true → f.pattern.length ≤ number.length →
        f.pattern.length < e.pattern.length ∨ (f.pattern.length = e.pattern.length ∧ i ≤ j)) ∧
  (∀ (entries : List PlanEntry) (u : UnmatchedAction) (number : List Tone),
    ((∀ e ∈ entries, e.candidate number = false) → u = .bar → matchSymbol entries u number = some .unmatchedBar) ∧
    (∀ i e, selected entries number = some (i, e) → number.length = e.maxLen →
      (∀ f ∈ entries, f.candidate number = true → f.pattern.length ≤ number.length) →
      matchSymbol entries u number = some (.entry i e)) ∧
    (∀ i e, selected entries number = some (i, e) → number.length = 24 →
      matchSymbol entries u number = some (.entry i e)) ∧
    (selected entries number = none → number.length = 24 →
      matchSymbol entries u number = some (match u with | .pass => .unmatchedPass | .bar => .unmatchedBar)) ∧
    ((u = .pass ∨ ∃ e ∈ entries, e.candidate number = true) → number.length ≠ 24 →
      (∀ i e, selected entries number = some (i, e) → number.length ≠ e.maxLen ∨
        ∃ f ∈ entries, f.candidate number = true ∧ number.length < f.pattern.length) →
      matchSymbol entries u number = none))

/-- R96: the decision when the complete timer of a COLLECTING line expires, by cases (d) to (g) in order, and the line acts
on it. -/
def Obligations.DecisionAtCompleteExpiry : Prop :=
  (∀ (entries : List PlanEntry) (u : UnmatchedAction) (number : List Tone),
    (∀ i e, selected entries number = some (i, e) → e.minLen ≤ number.length →
      matchExpiry entries u number = .entry i e) ∧
    ((∃ e ∈ entries, e.candidate number = true) →
      (∀ i e, selected entries number = some (i, e) → number.length < e.minLen) →
      matchExpiry entries u number = .incomplete) ∧
    ((∀ e ∈ entries, e.candidate number = false) → u = .pass → matchExpiry entries u number = .unmatchedPass) ∧
    ((∀ e ∈ entries, e.candidate number = false) → u = .bar → matchExpiry entries u number = .unmatchedBar)) ∧
  (∀ (n : LineNo) (s : State), isDue (.timer .complete n) s = true → (s.line n).state = .collecting →
    ∃ u, exec (.completeTimerExpiry n) s = .next (epilogue (afterEvent n u)) ∧
      u = actOn n (matchExpiry (boundEntries s n) (s.boundProfile n).unmatchedAction (s.line n).number)
        (s.modLine n fun c => c.stopTimer .complete))

/-- R99, R100, R101, R74: what a decision comes to. At COMPLETE_TIMER_EXPIRY an unmatched PASS of one symbol or more
leaves the line SENDING with those symbols queued and the bank unbound; INCOMPLETE leaves it in LOCKOUT with nothing
queued. Whenever it is acted on, an entry that sends one symbol or more leaves the line SENDING with its symbols
queued at its class; one that sends none closes the draft COMPLETE and leaves the line CONVERTING with no draft; both
record bank, entry, action and count, unbind the bank, and for class A set the EMERGENCY flag and raise EMERGENCY.
BARRED and INCOMPLETE record bank, entry and action, close the draft with that cause, and leave the line in LOCKOUT
with no EMERGENCY. -/
def Obligations.CompleteExpiryActsOnTheDecision : Prop :=
  ∀ (n : LineNo) (s : State), isDue (.timer .complete n) s = true → (s.line n).state = .collecting →
    (matchExpiry (boundEntries s n) (s.boundProfile n).unmatchedAction (s.line n).number = .unmatchedPass →
      (s.line n).number ≠ [] → (s.line n).queue = [] →
      ∃ u, exec (.completeTimerExpiry n) s = .next (epilogue u) ∧ HostSideKept s u ∧ OtherLoopsKept n s u ∧
        (u.line n).state = .sending ∧
        (u.line n).queue.map QueueEntry.what = (s.line n).number.map (fun t => (t, Origin.subscriber)) ∧
        (u.line n).decision = some { cls := (s.setting n).cls, toSend := (s.line n).number.length, sent := 0 } ∧
        (u.line n).number = [] ∧ (u.line n).boundBank = none) ∧
    (matchExpiry (boundEntries s n) (s.boundProfile n).unmatchedAction (s.line n).number = .incomplete →
      ∃ u, exec (.completeTimerExpiry n) s = .next (epilogue u) ∧ HostSideKept s u ∧ OtherLoopsKept n s u ∧
        (u.line n).state = .lockout ∧ (u.line n).queue = [] ∧ (u.line n).number = [] ∧ (u.line n).boundBank = none ∧
        (u.line n).draft = .none) ∧
  (∀ (n : LineNo) (i : Nat) (e : PlanEntry) (s : State), e.action ≠ .bar →
    (e.sends (s.line n).number ≠ [] →
      (actOn n (.entry i e) s).classifiers = s.classifiers ∧ (actOn n (.entry i e) s).pool = s.pool ∧
      ((actOn n (.entry i e) s).line n).state = .sending ∧
      ((actOn n (.entry i e) s).line n).queue.map QueueEntry.what
        = (s.line n).queue.map QueueEntry.what ++ (e.sends (s.line n).number).map (fun t => (t, Origin.subscriber)) ∧
      ((actOn n (.entry i e) s).line n).decision
        = some { cls := e.cls, toSend := (e.sends (s.line n).number).length, sent := 0 } ∧
      ∀ d, (s.line n).draft = .opened d →
        ((actOn n (.entry i e) s).line n).draft = .opened (decidedDraft s n i e d)) ∧
    (e.sends (s.line n).number = [] →
      (actOn n (.entry i e) s).classifiers = s.classifiers ∧ (actOn n (.entry i e) s).pool = s.pool ∧
      ((actOn n (.entry i e) s).line n).state = .converting ∧
      ((actOn n (.entry i e) s).line n).queue = (s.line n).queue ∧
      ((actOn n (.entry i e) s).line n).decision = (s.line n).decision ∧
      ((actOn n (.entry i e) s).line n).draft = .none ∧
      ∀ d, (s.line n).draft = .opened d → ClosedInto s (actOn n (.entry i e) s) n (decidedDraft s n i e d) .complete) ∧
    ((actOn n (.entry i e) s).line n).number = [] ∧ ((actOn n (.entry i e) s).line n).boundBank = none ∧
    ((actOn n (.entry i e) s).line n).timer .complete = .stopped ∧
    (∀ b, (s.line n).boundBank = some b →
      ((actOn n (.entry i e) s).bank b).refCount = (s.bank b).refCount - 1) ∧
    (e.cls = .a → Raised .emergency s.control (actOn n (.entry i e) s).control) ∧
    (e.cls ≠ .a → (actOn n (.entry i e) s).control = s.control)) ∧
  (∀ (n : LineNo) (v : Verdict) (s : State) (entry : Option Nat) (action : Option PlanAction) (cause : CloseCause),
    ((∃ i e, v = .entry i e ∧ e.action = .bar ∧ entry = some i ∧ action = some .bar ∧ cause = .barred) ∨
      (v = .unmatchedBar ∧ entry = none ∧ action = some .bar ∧ cause = .barred) ∨
      (v = .incomplete ∧ entry = none ∧ action = none ∧ cause = .incomplete)) →
    HostSideKept s (actOn n v s) ∧ ((actOn n v s).line n).state = .lockout ∧ ((actOn n v s).line n).queue = [] ∧
    ((actOn n v s).line n).number = [] ∧ ((actOn n v s).line n).boundBank = none ∧
    ((actOn n v s).line n).draft = .none ∧ (∀ k, ((actOn n v s).line n).timer k = .stopped) ∧
    (∀ b, (s.line n).boundBank = some b → ((actOn n v s).bank b).refCount = (s.bank b).refCount - 1) ∧
    ∀ d, (s.line n).draft = .opened d →
      ClosedInto s (actOn n v s) n { d with bank := (s.line n).boundBank, entry, action, toSend := 0 } cause)

/-- R98: what a decision sends: the insert string, then the number with its first strip symbols removed; at most 32
symbols for an entry that LOAD_PLAN passes (R90) and a number it decides. -/
def Obligations.DecisionSends : Prop :=
  ∀ (e : PlanEntry) (number : List Tone),
    (e.action = .pass → e.sends number = number) ∧
    (e.action = .prepend → e.sends number = e.insert ++ number) ∧
    (e.action = .stripPrepend → e.sends number = e.insert ++ number.drop e.strip) ∧
    (e.action = .stripPrepend → e.strip ≤ e.minLen → e.minLen ≤ number.length →
      (e.sends number).length = e.insert.length + number.length - e.strip) ∧
    (e.insert.length ≤ 8 → number.length ≤ 24 → (e.sends number).length ≤ 32)

/-- R137, R142: the derived values of the two resonators that R137 prints, 697 Hz at 6000 and 1209 Hz at 7500, and of
2000 Hz, a quarter of the sample rate; c falls strictly as the frequency rises; and the derived values of every
frequency and amplitude a table may hold lie in the ranges R137 gives. The cosine and the sine are computed as log 17
says (the model's inference). -/
def Obligations.DerivedValuesInRange : Prop :=
  (toneCoefficient 697 = 27980 ∧ toneStart 697 6000 = 3123 ∧ toneCoefficient 1209 = 19073 ∧
    toneStart 1209 7500 = 6099 ∧ toneCoefficient 2000 = 0 ∧ toneStart 2000 32767 = 32767) ∧
  (∀ f : Nat, 100 ≤ f → f < 3900 → toneCoefficient (f + 1) < toneCoefficient f) ∧
  ∀ f a : Nat, 100 ≤ f → f ≤ 3900 → a ≤ 32767 →
    (-32667 ≤ toneCoefficient f ∧ toneCoefficient f ≤ 32667) ∧ (0 ≤ toneStart f a ∧ toneStart f a ≤ a)

/-! ### Registers -/

/-- R181, R182, R187, R18, R44, R59, R84, R91, R115, R156, R168: power-on. The line contexts and classifiers are also
at the values that log 2, the model's choice, gives their marks lastBreakPulse, bound, change and escapedDigit. -/
def Obligations.PowerOnState : Prop :=
  ∀ s : State, ∃ t, exec .powerOn s = .next t ∧ t.pending = s.pending ∧
    t.control.part = .halted ∧ readRegister t .control = 0 ∧ readRegister t .state = 1 ∧
    readRegister t .stationBase = 0 ∧ readRegister t .attention = 0 ∧ readRegister t .attentionMask = 0 ∧
    (∀ n, t.line n = LineCtx.reset ∧ t.classifier n = Classifier.reset ∧ t.estimator n = { p := 0, idt := 0 } ∧
      t.slotPath.proceed.get n = false ∧ t.slotPath.incoming.get n = false) ∧
    (∀ i, t.settings.profiles.get i = Profile.default) ∧ t.settings.tones = defaultTones ∧
    (∀ n, t.setting n = { enabled := false, profile := 0, cls := .b }) ∧
    (∀ b, t.bank b = { state := .empty, entries := [], refCount := 0 }) ∧ t.plan.active = 0 ∧
    (∀ g, t.gen g = Generator.reset) ∧ t.pool.waitList = [] ∧ t.writer.fifo = [] ∧ t.writer.sequence = 0 ∧
    t.orders.current = none ∧ t.orders.state = .idle ∧ (∀ w, (t.port.windows.get w).pages = 0) ∧
    t.slotPath.runClock = 0 ∧ t.slotPath.frameCount = 0

/-- R184, R16: hold reset, in any part state: STATION BASE and ATTENTION MASK keep their values, everything else takes
its reset value, and an access on the bus stays there with its result discarded. The model's choices in it: the values
of log 2 (the reserve, the areas and slot counts, the sweep interval, the search and scan counts and the marks), the
mark of the abandoned access (log 11), and that in RESET_HELD the command repeats all of this (log 31). -/
def Obligations.HoldResetState : Prop :=
  ∀ s : State, ∃ t, exec .holdReset s = .next t ∧ t.pending = s.pending ∧
    t.control.part = .resetHeld ∧ readRegister t .control = 2 ∧ readRegister t .state = 0 ∧
    t.control.stationBase = s.control.stationBase ∧ t.control.attentionMask = s.control.attentionMask ∧
    readRegister t .attention = 0 ∧ attentionLine t = false ∧
    (∀ n, t.line n = LineCtx.reset ∧ t.classifier n = Classifier.reset ∧ t.estimator n = { p := 0, idt := 0 } ∧
      t.slotPath.proceed.get n = false ∧ t.slotPath.incoming.get n = false) ∧
    t.settings = Settings.reset ∧ t.plan = Plan.reset ∧ t.pool = Pool.reset ∧ t.writer = Writer.reset ∧
    t.orders = Orders.reset ∧ (∀ w, t.port.windows.get w = Window.unused) ∧ t.port.behind = none ∧
    t.port.waitStart = none ∧ t.port.waitWriter = none ∧ t.port.waitOrder = none ∧
    t.port.inFlight = s.port.inFlight.map (fun a => { a with abandoned := some .byReset }) ∧
    t.slotPath.lineHw = Watch.reset ∧ t.slotPath.retHw = Watch.reset ∧ t.slotPath.runClock = 0 ∧
    t.slotPath.frameCount = 0

/-- R181, R183, R166: HOLD_RESET written 0 in RESET_HELD (where RUN reads 0, R184) leads to HALTED, and with RUN 1 on to
STARTING and the header read. -/
def Obligations.HoldResetRelease : Prop :=
  ∀ (run attn : Bool) (s : State), s.control.holdReset = true → s.control.part = .resetHeld → s.control.run = false →
    ∃ t, exec (.holdResetRelease run attn) s = .next t ∧ BlocksKept s t ∧ t.control.holdReset = false ∧
      t.control.attnEnable = attn ∧ t.control.run = run ∧ t.control.attention = s.control.attention ∧
      t.control.attentionMask = s.control.attentionMask ∧ t.control.stationBase = s.control.stationBase ∧
      (run = false → t.control.part = .halted ∧ t.control.result = s.control.result) ∧
      (run = true → t.control.part = .starting ∧ t.control.result = .none ∧
        (s.port.inFlight = none → ∃ a, t.port.inFlight = some a ∧ a.purpose = .headerRead ∧ a.length = 160 ∧
          a.addr = s.control.stationBase.toNat))

/-- R181, R183: RUN written 1: from HALTED into STARTING with result NONE and the header read; where RUN already reads
1, and in RESET_HELD (log 24, the model's choice), it has no effect, and outside STOPPING no register changes; in
STOPPING with RUN 0 it makes RUN read 1, and the part is STOPPING, or STARTING if no work of the stop is left (log 14,
the model's choice). -/
def Obligations.RunWritten1 : Prop :=
  (∀ s : State, s.control.part = .halted → s.control.holdReset = false → s.control.run = false →
    ∃ t, exec .runWritten1 s = .next t ∧ BlocksKept s t ∧
      t.control = { s.control with part := .starting, result := .none, run := true } ∧
      (s.port.inFlight = none → ∃ a, t.port.inFlight = some a ∧ a.purpose = .headerRead ∧ a.length = 160 ∧
        a.addr = s.control.stationBase.toNat)) ∧
  (∀ s : State, s.control.part ≠ .stopping → s.control.run = true →
    ∃ t, exec .runWritten1 s = .next t ∧ t.control = s.control) ∧
  (∀ s : State, s.control.part = .stopping → s.control.holdReset = false → s.control.run = false →
    ∃ t, exec .runWritten1 s = .next t ∧ t.control.run = true ∧
      (t.control.part = .stopping ∨ t.control.part = .starting)) ∧
  (∀ s : State, (s.control.holdReset = true ∨ s.control.run = true) → exec .runWritten1 s = .next (epilogue s))

/-- R183, R186, R177, R163: RUN written 0 abandons a start, leaves START_FAILED with its code kept, and takes RUNNING
into STOPPING with stop cause RUN_CLEARED and records dropped 0. The current order is ended ABORTED, at once or, with
an access of it in flight, marked to end at that access's completion; one in COMPLETING keeps its result (log 33, the
model's choice), and a TAKEN write still waiting is made first (log 12, the model's choice). With no order current
every line is torn down; a stop with nothing left to do is over in the same step (log 14, the model's choice). In
HALTED and with RUN 0 it changes no register. Details a result does not fill are 0 (log 34, the model's choice). -/
def Obligations.RunWritten0 : Prop :=
  (∀ s : State, s.control.part = .starting → s.control.holdReset = false → s.control.run = true →
    ∃ t, exec .runWritten0 s = .next t ∧ BlocksKept s t ∧
      t.control = { s.control with part := .halted, run := false } ∧ t.port.waitStart = none) ∧
  (∀ s : State, s.control.part = .startFailed → s.control.holdReset = false → s.control.run = true →
    ∃ t, exec .runWritten0 s = .next t ∧ BlocksKept s t ∧
      t.control = { s.control with part := .halted, run := false }) ∧
  (∀ s : State, s.control.part = .running → s.control.holdReset = false → s.control.run = true →
    ∃ u, exec .runWritten0 s = .next (epilogue u) ∧ u.pending = s.pending ∧ u.settings = s.settings ∧
      u.lines = s.lines ∧ u.plan.active = s.plan.active ∧ u.control.part = .stopping ∧ u.control.run = false ∧
      u.control.result = .runCleared ∧ u.control.recordsDropped = 0 ∧
      u.control.attention = s.control.attention ∧ u.control.attentionMask = s.control.attentionMask ∧
      u.control.stationBase = s.control.stationBase ∧
      (s.orders.current = none → u.orders.current = none) ∧
      (∀ c, s.orders.current = some c → (s.orders.state = .taking ∨ s.orders.state = .executing) →
        s.port.orderInFlight = false → s.port.takenWaits = false →
        Answered s u .aborted (abortDetails c.work s) ∧
        ∀ source b count, c.work = .loadPlan source b count →
          (u.bank b).state = .empty ∧ (u.bank b).entries = []) ∧
      (∀ c, s.orders.current = some c → (s.orders.state = .taking ∨ s.orders.state = .executing) →
        (s.port.orderInFlight = true ∨ s.port.takenWaits = true) →
        u.orders.state = s.orders.state ∧ u.orders.current = some { c with abort := true } ∧
        u.port.waitOrder = s.port.waitOrder) ∧
      (∀ c n cls count sent fixed, s.orders.current = some c → s.orders.state = .inProgress →
        c.work = .sendTones n cls count sent fixed →
        Answered s u .aborted { sent, unsent := count - sent }) ∧
      (∀ c, s.orders.current = some c → s.orders.state = .completing →
        u.orders.state = .completing ∧ u.orders.current = some c ∧ u.port.waitOrder = s.port.waitOrder)) ∧
  (∀ s : State, s.control.part = .running → s.control.holdReset = false → s.control.run = true →
    ∃ t, exec .runWritten0 s = .next t ∧ t.pending = s.pending ∧ t.settings = s.settings ∧
      (t.control.part = .stopping ∨ t.control.part = .halted) ∧ t.control.run = false ∧
      t.control.result = .runCleared ∧ t.control.recordsDropped = 0 ∧
      t.control.attention = s.control.attention ∧
      (t.orders.current = none → ∀ n, (t.line n).state.seizedOn = false)) ∧
  (∀ s : State, s.control.run = false → s.control.part = .halted →
    ∃ t, exec .runWritten0 s = .next t ∧ t.control = s.control)

/-- R176, R131: an ABORT: no effect without an order or in COMPLETING; kept for the completion of an access of the
order in flight, counting a TOUCHED write before one (log 13), and of a TAKEN write that still waits for the port (log
12); at once otherwise, any other access of the order that waits not being made (log 12); of a SEND_TONES, whether or
not an ABORT has already been taken, its ORDER entries that have not begun leave the queue, and the order ends at once
if none has begun, else at the end of the one that has. Logs 12 and 13 are the model's choices. Details a result does
not fill are 0 (log 34, the model's choice). -/
def Obligations.AbortOrder : Prop :=
  (∀ s : State, (s.orders.current = none ∨ s.orders.state = .completing) →
    exec .abortOrder s = .next (epilogue s)) ∧
  (∀ (s : State) (c : CurrentOrder), s.orders.current = some c →
    (s.orders.state = .taking ∨ s.orders.state = .executing) →
    (s.port.orderInFlight = true ∨ s.port.takenWaits = true) →
    ∃ u, exec .abortOrder s = .next (epilogue u) ∧ OrderUnitOnly s u ∧ u.port = s.port ∧
      u.orders = { s.orders with current := some { c with abort := true } }) ∧
  (∀ (s : State) (c : CurrentOrder), s.orders.current = some c →
    (s.orders.state = .taking ∨ s.orders.state = .executing) → s.port.orderInFlight = false →
    s.port.takenWaits = false →
    ∃ u, exec .abortOrder s = .next (epilogue u) ∧ Answered s u .aborted (abortDetails c.work s) ∧
      u.control = s.control ∧ u.lines = s.lines ∧ u.settings = s.settings ∧
      (∀ source b count, c.work = .loadPlan source b count →
        (u.bank b).state = .empty ∧ (u.bank b).entries = [])) ∧
  (∀ (s : State) (c : CurrentOrder) (n : LineNo) (cls : ServiceClass) (count sent : Nat)
      (fixed : Bool),
    s.orders.current = some c → s.orders.state = .inProgress → c.work = .sendTones n cls count sent fixed →
    (s.line n).queue.filter (fun e => e.isOrder && e.begun) = [] →
    ∃ u, exec .abortOrder s = .next (epilogue u) ∧ HostSideKept s u ∧
      Answered s u .aborted { sent, unsent := count - sent } ∧
      (u.line n).queue.map QueueEntry.what
        = ((s.line n).queue.filter fun e => !e.isOrder).map QueueEntry.what) ∧
  (∀ (s : State) (c : CurrentOrder) (n : LineNo) (cls : ServiceClass) (count sent : Nat)
      (fixed : Bool),
    s.orders.current = some c → s.orders.state = .inProgress → c.work = .sendTones n cls count sent fixed →
    (s.line n).queue.filter (fun e => e.isOrder && e.begun) ≠ [] →
    ∃ u, exec .abortOrder s = .next (epilogue u) ∧ HostSideKept s u ∧ OtherLinesKept n s u ∧ u.port = s.port ∧
      u.orders = { s.orders with current := some { c with work := .sendTones n cls count sent true } } ∧
      u.line n = { s.line n with queue := (s.line n).queue.filter fun e => !e.isOrder || e.begun })

/-- R181, R187: outside RESET_HELD a write of ATTN_ENABLE gates the attention line and changes nothing else. -/
def Obligations.AttnEnableGatesTheLine : Prop :=
  ∀ (v : Bool) (s : State), s.control.holdReset = false →
    ∃ t, exec (.attnEnable v) s = .next t ∧ t = { s with control := { s.control with attnEnable := v } } ∧
      attentionLine t = (v && s.control.attention.toList.any id)

/-- R182: a write of STATION BASE is taken in RESET_HELD and HALTED with its low 12 bits discarded, and is discarded in
every other state. -/
def Obligations.StationBaseWrite : Prop :=
  ∀ (v : Word) (s : State), ∃ t, exec (.stationBaseWrite v) s = .next t ∧
    { t with control := { t.control with stationBase := s.control.stationBase } } = s ∧
    ((s.control.part = .resetHeld ∨ s.control.part = .halted) →
      (readRegister t .stationBase).toNat = v.toNat / 4096 * 4096) ∧
    (s.control.part ≠ .resetHeld → s.control.part ≠ .halted → t = s)

/-- R187, R188: raising a cause sets its flag if its enable is 1 at that moment, else nothing is recorded, and no other
flag moves; a read of ATTENTION returns the code of the highest-priority pending flag and clears that flag alone; with none
pending it returns 0. -/
def Obligations.AttentionFlags : Prop :=
  (∀ (k : Cause) (s : State), Raised k s.control (raise k s).control ∧
    { raise k s with control := { (raise k s).control with attention := s.control.attention } } = s) ∧
  ∀ s : State, ∃ t, exec .attentionRead s = .next t ∧
    { t with control := { t.control with attention := s.control.attention, readData := s.control.readData } } = s ∧
    ((∀ i, s.control.attention.get i = false) → t.control.readData = 0 ∧ t.control.attention = s.control.attention) ∧
    (∀ i, s.control.attention.get i = true → (∀ j, j < i → s.control.attention.get j = false) →
      t.control.readData.toNat = i.val + 1 ∧ t.control.attention.get i = false ∧
      ∀ j, j ≠ i → t.control.attention.get j = s.control.attention.get j)

/-- R181, R182, R187, R190: the registers' offsets, and a write on the register bus: ATTENTION MASK keeps bits 1 to 9;
a write of STATE or ATTENTION is discarded; a write of STATION BASE or CONTROL does what its own command does (log 21,
the model's choice). A CONTROL write with HOLD_RESET 1 in RESET_HELD changes nothing (log 31, the model's choice). A
write that carries an ABORT and a RUN change, which may be taken in either order (log 20), is either command after the
other. -/
def Obligations.RegisterWrite : Prop :=
  (registerAt 0x00 = some .control ∧ registerAt 0x04 = some .state ∧ registerAt 0x08 = some .stationBase ∧
    registerAt 0x0C = some .attention ∧ registerAt 0x10 = some .attentionMask ∧
    ∀ offset, offset ∉ [0x00, 0x04, 0x08, 0x0C, 0x10] → registerAt offset = none) ∧
  ∀ (v : Word) (s : State),
    (∃ u, exec (.registerWrite .attentionMask v) s = .next (epilogue u) ∧
      u.control.attentionMask.toNat = v.toNat % 1024 / 2 * 2 ∧
      { u with control := { u.control with attentionMask := s.control.attentionMask } } = s) ∧
    exec (.registerWrite .state v) s = .next (epilogue s) ∧
    exec (.registerWrite .attention v) s = .next (epilogue s) ∧
    (∃ u, exec (.stationBaseWrite v) s = .next u ∧ exec (.registerWrite .stationBase v) s = .next (epilogue u)) ∧
    (s.control.holdReset = true → v.getLsbD 1 = true → exec (.registerWrite .control v) s = .next (epilogue s)) ∧
    (s.control.holdReset = true → v.getLsbD 1 = false →
      exec (.registerWrite .control v) s = exec (.holdResetRelease (v.getLsbD 0) (v.getLsbD 3)) s) ∧
    (s.control.holdReset = false → v.getLsbD 1 = true → exec (.registerWrite .control v) s = exec .holdReset s) ∧
    (s.control.holdReset = false → v.getLsbD 1 = false → v.getLsbD 2 = false → v.getLsbD 0 = s.control.run →
      ∃ u, exec (.attnEnable (v.getLsbD 3)) s = .next u ∧ exec (.registerWrite .control v) s = .next (epilogue u)) ∧
    (s.control.holdReset = false → v.getLsbD 1 = false → v.getLsbD 2 = true → v.getLsbD 0 = s.control.run →
      ∃ u, exec (.attnEnable (v.getLsbD 3)) s = .next u ∧ exec (.registerWrite .control v) s = exec .abortOrder u) ∧
    (s.control.holdReset = false → v.getLsbD 1 = false → v.getLsbD 2 = false → v.getLsbD 0 = true →
      s.control.run = false →
      ∃ u, exec (.attnEnable (v.getLsbD 3)) s = .next u ∧ exec (.registerWrite .control v) s = exec .runWritten1 u) ∧
    (s.control.holdReset = false → v.getLsbD 1 = false → v.getLsbD 2 = false → v.getLsbD 0 = false →
      s.control.run = true →
      ∃ u, exec (.attnEnable (v.getLsbD 3)) s = .next u ∧ exec (.registerWrite .control v) s = exec .runWritten0 u) ∧
    (s.control.holdReset = false → v.getLsbD 1 = false → v.getLsbD 2 = true → v.getLsbD 0 ≠ s.control.run →
      ∃ u, exec (.attnEnable (v.getLsbD 3)) s = .next u ∧
        (exec (.registerWrite .control v) s = .next (epilogue (abortOrder (writeRun (v.getLsbD 0) u.draw))) ∨
          exec (.registerWrite .control v) s = .next (epilogue (writeRun (v.getLsbD 0) (abortOrder u.draw)))))

/-! ### Highways and time -/

/-- R2, R4, R5, R7: in RESET_HELD, HALTED, STARTING and START_FAILED every line frame becomes a trunk frame passed
through slot by slot, whether the line highway is present or lost, and no frame is counted; and in every part state
but RUNNING, and in RUNNING for a DISABLED line, a slot is built as a pass-through. A trunk frame leaves at the next
frame time (log 8, the model's choice). -/
def Obligations.LineFramePassThrough : Prop :=
  (∀ (f : LineFrame) (s : State), s.control.part ≠ .running → s.control.part ≠ .stopping →
    ∃ t, exec (.lineFrame f) s = .next t ∧ BlocksKept s t ∧
      t.slotPath.frameCount = s.slotPath.frameCount ∧ t.slotPath.runClock = s.slotPath.runClock ∧
      (s.slotPath.frameInHand = none → t.slotPath.trunkOut = s.slotPath.trunkLeaving.toList) ∧
      ∃ tr, t.slotPath.trunkLeaving = some tr ∧
        ∀ n, tr.get n = { sample := (f.get n).sample, offHook := (f.get n).closed }) ∧
  (∀ (f : LineFrame) (s : State) (n : LineNo), s.slotPath.frameInHand = some (.line f) →
    (s.running = false ∨ (s.line n).state = .disabled) →
    ∃ tr, (conclude s).slotPath.trunkLeaving = some tr ∧
      tr.get n = { sample := (f.get n).sample, offHook := (f.get n).closed })

/-- R6, R80: in RUNNING the slot of an enabled line carries its generator's sample in ON, 0 in GAP, HOLD or while muted, and
the line sample otherwise, with the cleaned hook flag. -/
def Obligations.TrunkSlotOfAnEnabledLine : Prop :=
  ∀ (f : LineFrame) (s : State) (n : LineNo), s.slotPath.frameInHand = some (.line f) → s.running = true →
    (s.line n).state ≠ .disabled →
    ∃ tr, (conclude s).slotPath.trunkLeaving = some tr ∧
      (tr.get n).offHook = ((s.line n).state.seizedOn && !((s.line n).timer .flashOut).isRunning) ∧
      (∀ g, genOf s n = some g → (s.gen g).state = .on →
        (tr.get n).sample = BitVec.ofInt 16 (s.voices.get g).sample) ∧
      (∀ g, genOf s n = some g → (s.gen g).state ≠ .on → (tr.get n).sample = 0) ∧
      (genOf s n = none → ((s.classifier n).pulse.inProgress = true ∨ ((s.line n).timer .muteTail).isRunning = true) →
        (tr.get n).sample = 0) ∧
      (genOf s n = none → (s.classifier n).pulse.inProgress = false → ((s.line n).timer .muteTail).isRunning = false →
        (tr.get n).sample = (f.get n).sample)

/-- R2, R8, R21 to R25: a line frame in RUNNING with the line highway present and the last frame's events all taken: a
frame time, whose loop flags go through each enabled line's glitch filter and lengths. R10, R13: with the line highway
lost, a frame is counted toward restoration and used for nothing else, and the 32nd of a run makes the highway
present, raises LINE_HIGHWAY, is a frame time, and gives each enabled line's classifier, waiting since the loss, its
fresh start. When a trunk frame leaves is log 8, the model's choice. -/
def Obligations.LineFrameInRunning : Prop :=
  (∀ (f : LineFrame) (s : State), s.running = true → s.slotPath.lineHw.present = true → dueEvents s = [] →
    s.slotPath.frameInHand = none → s.slotPath.msDue = false → s.slotPath.frameCount < 8 →
    ∃ t, exec (.lineFrame f) s = .next t ∧ t.pending = s.pending ∧ t.control = s.control ∧ t.settings = s.settings ∧
      t.plan = s.plan ∧ t.estimators = s.estimators ∧ t.writer = s.writer ∧ t.orders = s.orders ∧
      t.slotPath.frameCount = (s.slotPath.frameCount + 1) % 8 ∧ t.slotPath.runClock = s.slotPath.runClock ∧
      t.slotPath.msDue = (s.slotPath.frameCount == 7) ∧ t.slotPath.lineHw.present = true ∧
      t.slotPath.lineHw.frameWatch = 0 ∧
      ∀ n, (t.line n).state = (s.line n).state ∧ (t.line n).queue = (s.line n).queue ∧
        (t.line n).timers = (s.line n).timers ∧
        ((s.line n).state = .disabled → t.classifier n = s.classifier n) ∧
        ((s.line n).state ≠ .disabled → (s.classifier n).waiting = true →
          (t.classifier n).accepted = (f.get n).closed ∧ (t.classifier n).waiting = false ∧
          (t.classifier n).pulse = (if (f.get n).closed then .steadyClosed else .steadyOpen) ∧
          (t.classifier n).interval = 0 ∧ (t.classifier n).runCount = 0 ∧ (t.classifier n).seizureCount = 0) ∧
        ((s.line n).state ≠ .disabled → (s.classifier n).waiting = false →
          (t.classifier n).pulse = (s.classifier n).pulse ∧ (t.classifier n).accepted = (s.classifier n).accepted ∧
          (t.classifier n).interval = min 40000 ((s.classifier n).interval + 1) ∧
          (t.classifier n).runCount
            = (if (f.get n).closed = (s.classifier n).accepted then 0 else (s.classifier n).runCount + 1) ∧
          ((t.classifier n).change = true ↔
            (f.get n).closed ≠ (s.classifier n).accepted ∧
              8 * (s.windows n).glitchMs + 1 ≤ (s.classifier n).runCount + 1)) ∧
        (∀ d, (s.line n).state ≠ .disabled → (s.classifier n).waiting = false →
          (f.get n).closed = (s.classifier n).accepted → 0 < (s.classifier n).runCount →
          (s.line n).draft = .opened d →
          ∃ d', (t.line n).draft = .opened d' ∧ d'.glitch = min 255 (d.glitch + 1) ∧ d'.symbols = d.symbols)) ∧
  (∀ (f : LineFrame) (s : State), s.running = true → s.slotPath.lineHw.present = false →
    s.slotPath.lineHw.restoreCount < 31 → dueEvents s = [] → s.slotPath.frameInHand = none →
    ∃ t, exec (.lineFrame f) s = .next t ∧ t.pending = s.pending ∧ t.control = s.control ∧
      t.classifiers = s.classifiers ∧ t.estimators = s.estimators ∧ t.lines = s.lines ∧ t.settings = s.settings ∧
      t.plan = s.plan ∧ t.pool = s.pool ∧ t.voices = s.voices ∧ t.writer = s.writer ∧ t.orders = s.orders ∧
      t.slotPath.lineHw = { present := false, restoreCount := s.slotPath.lineHw.restoreCount + 1, frameWatch := 0 } ∧
      t.slotPath.frameCount = s.slotPath.frameCount ∧ t.slotPath.runClock = s.slotPath.runClock ∧
      t.slotPath.msDue = s.slotPath.msDue ∧ t.slotPath.trunkLeaving = none ∧
      t.slotPath.trunkOut = s.slotPath.trunkLeaving.toList) ∧
  (∀ (f : LineFrame) (s : State), s.running = true → s.slotPath.lineHw.present = false →
    s.slotPath.lineHw.restoreCount = 31 → dueEvents s = [] → s.slotPath.frameInHand = none →
    s.slotPath.msDue = false → s.slotPath.frameCount < 8 →
    ∃ t, exec (.lineFrame f) s = .next t ∧ t.pending = s.pending ∧ Raised .lineHighway s.control t.control ∧
      t.control.part = s.control.part ∧ t.settings = s.settings ∧ t.plan = s.plan ∧ t.estimators = s.estimators ∧
      t.writer = s.writer ∧ t.orders = s.orders ∧
      t.slotPath.lineHw = { present := true, restoreCount := 32, frameWatch := 0 } ∧
      t.slotPath.frameCount = (s.slotPath.frameCount + 1) % 8 ∧ t.slotPath.runClock = s.slotPath.runClock ∧
      t.slotPath.msDue = (s.slotPath.frameCount == 7) ∧
      ∀ n, (t.line n).state = (s.line n).state ∧
        ((s.line n).state = .disabled → t.classifier n = s.classifier n) ∧
        ((s.line n).state ≠ .disabled → (s.classifier n).waiting = true →
          (t.classifier n).accepted = (f.get n).closed ∧ (t.classifier n).waiting = false ∧
          (t.classifier n).pulse = (if (f.get n).closed then .steadyClosed else .steadyOpen) ∧
          (t.classifier n).interval = 0 ∧ (t.classifier n).runCount = 0 ∧ (t.classifier n).seizureCount = 0))

/-- R4, R8, R12, R21: a reference frame time with the line highway lost: a frame time in RUNNING and STOPPING; in
RUNNING the classifiers stay as they are and a silent, on-hook trunk frame is sent, after the last line frame's if
that has not left. With the highway present the command has no effect (log 3), and a line frame's trunk frame leaves
at the next frame moment (log 8): the model's choices. -/
def Obligations.ReferenceFrameTime : Prop :=
  ∀ s : State,
    (s.running = true → s.slotPath.lineHw.present = false → dueEvents s = [] → s.slotPath.frameInHand = none →
      s.slotPath.msDue = false → s.slotPath.frameCount < 8 →
      ∃ t, exec .referenceFrameTime s = .next t ∧ t.control = s.control ∧ t.classifiers = s.classifiers ∧
        t.estimators = s.estimators ∧ t.settings = s.settings ∧ t.plan = s.plan ∧ t.writer = s.writer ∧
        t.orders = s.orders ∧ t.slotPath.frameCount = (s.slotPath.frameCount + 1) % 8 ∧
        t.slotPath.msDue = (s.slotPath.frameCount == 7) ∧
        (s.slotPath.frameCount ≠ 7 → ∃ tr, t.slotPath.trunkOut = s.slotPath.trunkLeaving.toList ++ [tr] ∧
          ∀ n, tr.get n = { sample := 0, offHook := false })) ∧
    (s.stopping = true → s.slotPath.lineHw.present = false → dueEvents s = [] → s.slotPath.frameInHand = none →
      s.slotPath.frameCount < 8 →
      ∃ t, exec .referenceFrameTime s = .next t ∧
        t.slotPath.frameCount = (s.slotPath.frameCount + 1) % 8 ∧ t.slotPath.trunkOut = s.slotPath.trunkLeaving.toList) ∧
    ((s.slotPath.lineHw.present = true ∨ (s.running = false ∧ s.stopping = false)) →
      exec .referenceFrameTime s = .next s)

/-- R3, R10, R15: a return frame replaces the effective flags of every slot while the return highway is present; the 32nd
frame of a run restores it, raises RETURN_HIGHWAY and is used; any other is counted and leaves the flags clear. -/
def Obligations.ReturnFrameArrives : Prop :=
  ∀ (f : ReturnFrame) (s : State),
    (s.slotPath.retHw.present = true →
      ∃ t, exec (.returnFrame f) s = .next t ∧ t.slotPath.retHw.present = true ∧ t.slotPath.retHw.frameWatch = 0 ∧
        t.settings = s.settings ∧
        ∀ n, t.slotPath.proceed.get n = (f.get n).proceed ∧ t.slotPath.incoming.get n = (f.get n).incoming) ∧
    (s.slotPath.retHw.present = false → s.slotPath.retHw.restoreCount = 31 →
      ∃ u, exec (.returnFrame f) s = .next (epilogue u) ∧ u.slotPath.retHw.present = true ∧
        u.slotPath.retHw.restoreCount = 32 ∧ Raised .returnHighway s.control u.control ∧
        ∀ n, u.slotPath.proceed.get n = (f.get n).proceed ∧ u.slotPath.incoming.get n = (f.get n).incoming) ∧
    (s.slotPath.retHw.present = false → s.slotPath.retHw.restoreCount < 31 →
      ∃ u, exec (.returnFrame f) s = .next (epilogue u) ∧ u.control = s.control ∧ u.lines = s.lines ∧
        u.pool = s.pool ∧ u.slotPath.retHw.present = false ∧
        u.slotPath.retHw.restoreCount = s.slotPath.retHw.restoreCount + 1 ∧
        u.slotPath.proceed = s.slotPath.proceed ∧ u.slotPath.incoming = s.slotPath.incoming)

/-- R124, R3: a PROCEED clearing on a line that waits for PROCEED cuts a tone in ON: the generator is released, the
queue is kept with its head, and the draft counts the loss; a line that does not wait keeps its generator and its
queue. R112, R114, R117 to R120: when a line requests a generator; the order of claims: by class, a preempted one
first in its class, then as they joined (join numbers: log 18); class C is eligible only above the reserve; which
generator is preempted; what a grant does, and that grants go on while a generator is FREE and a claim eligible. With
an empty wait list a request is granted at once; or it waits, class B and C with their timer running; or, for class A
with none FREE, it takes the generator of a line in HOLD with nothing queued, or of a line in ON at class C, which
waits again, marked preempted, with its queue kept. -/
def Obligations.ProceedClearingCutsTheTone : Prop :=
  (∀ (n : LineNo) (g : GenNo) (s : State), s.running = true → s.slotPath.proceed.get n = false → s.serves g n →
    (s.gen g).state = .on → s.noEmergency = true → isWaiting s n = false →
    ((s.boundProfile n).waitProceed = true →
      genOf (proceedChanged n s) n = none ∧
      ((proceedChanged n s).line n).queue = (s.line n).queue ∧
      ∀ d, (s.line n).draft = .opened d → ∃ d', ((proceedChanged n s).line n).draft = .opened d' ∧
        d'.proceedLoss = min 255 (d.proceedLoss + 1) ∧ d'.sent = d.sent) ∧
    ((s.boundProfile n).waitProceed = false →
      genOf (proceedChanged n s) n = some g ∧ ((proceedChanged n s).line n).queue = (s.line n).queue)) ∧
  (∀ (n : LineNo) (s : State), requests s n = true ↔
    ((s.line n).state = .seized ∨ (s.line n).state = .sending ∨ (s.line n).state = .converting) ∧
    (s.line n).queue ≠ [] ∧ (s.slotPath.proceed.get n = true ∨ (s.boundProfile n).waitProceed = false) ∧
    (∀ g, (s.gen g).attached ≠ some n) ∧ ∀ e ∈ s.pool.waitList, e.line ≠ n) ∧
  (∀ a b : WaitEntry, a.before b = true ↔
    (a.cls = .a ∧ b.cls ≠ .a) ∨ (a.cls = .b ∧ b.cls = .c) ∨
    (a.cls = b.cls ∧ ((a.preempted = true ∧ b.preempted = false) ∨ (a.preempted = b.preempted ∧ a.join < b.join)))) ∧
  (∀ (s : State) (e : WaitEntry), eligible s e = true ↔ (e.cls = .c → s.pool.reserve < freeCount s)) ∧
  (∀ (s : State) (g : GenNo), victim s = some g ↔
    ((s.gen g).state = .hold ∧ ∀ h, h < g → (s.gen h).state ≠ .hold) ∨
    ((∀ h, (s.gen h).state ≠ .hold) ∧ s.preemptable g ∧ ∀ h, h < g → ¬ s.preemptable h)) ∧
  (∀ (g : GenNo) (e : WaitEntry) (s : State), (s.line e.line).queue ≠ [] →
    Granted s (grant g e s) g e.line e.cls ∧
    (∀ x, x ∈ (grant g e s).pool.waitList ↔ x ∈ s.pool.waitList ∧ x.line ≠ e.line) ∧
    ((grant g e s).line e.line).timer .generatorWait = .stopped ∧
    ∀ m, m ≠ e.line → (grant g e s).line m = s.line m) ∧
  (∀ (k : Nat) (s : State),
    (∀ g e, firstFree s = some g → s.pool.waitList.find? (eligible s) = some e →
      arbitrate (k + 1) s = arbitrate k (grant g e s)) ∧
    ((firstFree s = none ∨ ∀ e ∈ s.pool.waitList, eligible s e = false) → arbitrate k s = s)) ∧
  (∀ (n : LineNo) (s : State), s.running = true → requests s n = true → s.pool.waitList = [] →
    (∀ g, firstFree s = some g → (requestClass s n = .c → s.pool.reserve < freeCount s) →
      Granted s (afterEvent n s) g n (requestClass s n) ∧ (afterEvent n s).pool.waitList = []) ∧
    (((firstFree s = none ∧ requestClass s n ≠ .a) ∨ (requestClass s n = .c ∧ freeCount s ≤ s.pool.reserve) ∨
        (firstFree s = none ∧ victim s = none)) →
      (∀ h, (afterEvent n s).gen h = s.gen h) ∧ ((afterEvent n s).line n).queue = (s.line n).queue ∧
      (afterEvent n s).pool.waitList
        = [{ line := n, cls := requestClass s n, entryTime := s.slotPath.runClock, preempted := false,
             join := s.pool.joins }] ∧
      (requestClass s n ≠ .a →
        ((afterEvent n s).line n).timer .generatorWait = .running 0 (s.boundProfile n).genWaitMs)) ∧
    (∀ g m, requestClass s n = .a → firstFree s = none → victim s = some g → s.serves g m →
      ((s.gen g).state = .hold → (s.line m).queue = [] →
        Granted s (afterEvent n s) g n .a ∧ (afterEvent n s).pool.waitList = []) ∧
      ((s.gen g).state = .on → (s.line m).state.mayRequest = true → permitted s m = true → (s.line m).queue ≠ [] →
        Granted s (afterEvent n s) g n .a ∧ ((afterEvent n s).line m).queue = (s.line m).queue ∧
        ((afterEvent n s).line m).timer .generatorWait = .running 0 (s.boundProfile m).genWaitMs ∧
        (afterEvent n s).pool.waitList
          = [{ line := m, cls := .c, entryTime := s.slotPath.runClock, preempted := true,
               join := s.pool.joins + 1 }])))

/-- R10, R11, R14, R42: the frame watch of a present highway reaching its limit loses it: RETURN_HIGHWAY with every
effective flag clear, or LINE_HIGHWAY with, in RUNNING, every line IDLE or DISABLED and every enabled classifier
waiting for a fresh start; of a lost one it returns the restore count to 0. R4: at a loss of the line highway in
RUNNING the last line frame's trunk frame leaves, and after it one silent, on-hook frame once the events of the
reference frame times are all taken (log 8, the model's choice of the moment). -/
def Obligations.FrameWatchExpiry : Prop :=
  ∀ s : State,
    (s.slotPath.retHw.present = true →
      ∃ u, exec (.frameWatchExpiry .ret) s = .next (epilogue u) ∧ u.slotPath.retHw.present = false ∧
        u.slotPath.retHw.restoreCount = 0 ∧ Raised .returnHighway s.control u.control ∧
        u.slotPath.lineHw = s.slotPath.lineHw ∧ u.slotPath.runClock = s.slotPath.runClock ∧
        ∀ n, u.slotPath.proceed.get n = false ∧ u.slotPath.incoming.get n = false) ∧
    (s.slotPath.retHw.present = false →
      ∃ u, exec (.frameWatchExpiry .ret) s = .next (epilogue u) ∧ u.slotPath.retHw.present = false ∧
        u.slotPath.retHw.restoreCount = 0 ∧ u.control = s.control ∧ u.lines = s.lines ∧
        u.slotPath.proceed = s.slotPath.proceed) ∧
    (s.slotPath.lineHw.present = true →
      ∃ t, exec (.frameWatchExpiry .line) s = .next t ∧ t.slotPath.lineHw.present = false ∧
        t.slotPath.lineHw.restoreCount = 0 ∧ t.settings = s.settings ∧
        (s.control.attentionMask.getLsbD 3 = true → t.control.attention.get 2 = true) ∧
        (s.running = true → ∀ n,
          ((t.line n).state = .idle ∨ (t.line n).state = .disabled) ∧
          ((t.line n).state ≠ .disabled → (t.classifier n).waiting = true ∧ (t.classifier n).pulse = .steadyOpen ∧
            (t.classifier n).runCount = 0 ∧ (t.classifier n).seizureCount = 0)) ∧
        (s.running = true → dueEvents s = [] → s.slotPath.frameInHand = none →
          t.slotPath.trunkLeaving = none ∧
          (t.slotPath.frameInHand ≠ none → t.slotPath.trunkOut = s.slotPath.trunkLeaving.toList) ∧
          (t.slotPath.frameInHand = none → ∃ tr, t.slotPath.trunkOut = s.slotPath.trunkLeaving.toList ++ [tr] ∧
            ∀ n, tr.get n = { sample := 0, offHook := false }))) ∧
    (s.slotPath.lineHw.present = false →
      ∃ t, exec (.frameWatchExpiry .line) s = .next t ∧ t.slotPath.lineHw.present = false ∧
        t.slotPath.lineHw.restoreCount = 0)

/-- R9, R71, R75, R115, R173: a millisecond event that is due advances the run clock, and in RUNNING every running
line timer counts it, the quiet timer only while it does not hold, with the generators' state timers and the sweep
timer. A running timer counts one more up to its length, at which its expiry is due; a stopped one stays stopped. With
no millisecond event due the command has no effect (log 3, the model's choice). -/
def Obligations.MillisecondEvent : Prop :=
  (∀ s : State,
    (s.slotPath.msDue = true → s.running = true →
      ∃ u, exec .millisecondEvent s = .next (epilogue u) ∧ u.control = s.control ∧ u.classifiers = s.classifiers ∧
        u.estimators = s.estimators ∧ u.settings = s.settings ∧ u.plan = s.plan ∧ u.writer = s.writer ∧
        u.slotPath.runClock = s.slotPath.runClock + 1 ∧ u.slotPath.msDue = false ∧
        (∀ n k, k ≠ .quiet → (u.line n).timer k = ((s.line n).timer k).tick) ∧
        (∀ n, (u.line n).timer .quiet
          = if (s.line n).state = .converting ∧ (s.line n).hasDraft = true ∧ (s.line n).queue = [] ∧ genOf s n = none ∧
              (s.classifier n).pulse.inProgress = false
            then ((s.line n).timer .quiet).tick else (s.line n).timer .quiet) ∧
        (∀ n, (u.line n).state = (s.line n).state ∧ (u.line n).queue = (s.line n).queue ∧
          (u.line n).draft = (s.line n).draft) ∧
        (∀ g, (u.gen g).timer = (s.gen g).timer.tick ∧ (u.gen g).state = (s.gen g).state) ∧
        (s.orders.sweepTimer + 1 < s.orders.sweepInterval →
          u.orders.sweepTimer = s.orders.sweepTimer + 1 ∧ u.orders.sweepDue = s.orders.sweepDue) ∧
        (s.orders.sweepInterval ≤ s.orders.sweepTimer + 1 →
          u.orders.sweepTimer = 0 ∧ u.orders.sweepDue = true)) ∧
    (s.slotPath.msDue = true → s.stopping = true →
      ∃ u, exec .millisecondEvent s = .next (epilogue u) ∧
        u = { s with slotPath := { s.slotPath with runClock := s.slotPath.runClock + 1, msDue := false } }) ∧
    (s.slotPath.msDue = false → exec .millisecondEvent s = .next s)) ∧
  (∀ count length : Nat,
    (count < length → (Timer.running count length).tick = .running (count + 1) length) ∧
    (length ≤ count → (Timer.running count length).tick = .running count length) ∧
    ((Timer.running count length).expired = true ↔ length ≤ count)) ∧
  Timer.stopped.tick = .stopped ∧ Timer.stopped.expired = false

/-! ### Loop signals -/

/-- R22, R24, R28, R31, R54: an open accepted on a seized line. From STEADY_CLOSED it begins a digit, dated by the run clock
and escaped if escape is pending; from MAKE it continues one, and the estimator takes the pair if the break before the make
was a pulse break. -/
def Obligations.OpenAccepted : Prop :=
  ∀ (n : LineNo) (s : State), isDue (.loopChange n) s = true → (s.line n).state.seizedOn = true →
    (s.classifier n).accepted = true →
    ∃ u, exec (.loopChangeAccepted n) s = .next (epilogue u) ∧ HostSideKept s u ∧ OtherLinesKept n s u ∧
      u.plan = s.plan ∧ u.pool = s.pool ∧ u.writer = s.writer ∧ u.orders = s.orders ∧ u.port = s.port ∧
      (u.classifier n).accepted = false ∧ (u.classifier n).interval = 0 ∧ (u.classifier n).runCount = 0 ∧
      (u.classifier n).change = false ∧
      ((s.classifier n).pulse = .steadyClosed →
        (u.classifier n).pulse = .brk ∧ (u.classifier n).firstBreak = some s.slotPath.runClock ∧
        (u.classifier n).pulseCount = 0 ∧ (u.classifier n).corrupt = false ∧ u.estimator n = s.estimator n ∧
        (u.line n).escapedDigit = (s.line n).escapePending ∧
        { u.line n with escapedDigit := (s.line n).escapedDigit } = s.line n) ∧
      ((s.classifier n).pulse = .make →
        (u.classifier n).pulse = .brk ∧ (u.classifier n).firstBreak = (s.classifier n).firstBreak ∧
        (u.classifier n).pulseCount = (s.classifier n).pulseCount ∧
        (u.classifier n).corrupt = (s.classifier n).corrupt ∧ u.line n = s.line n ∧
        ((s.classifier n).lastBreakPulse = true →
          u.estimator n =
            (s.estimator n).take (s.boundProfile n) (s.classifier n).lastBreak (s.classifier n).interval) ∧
        ((s.classifier n).lastBreakPulse = false → u.estimator n = s.estimator n))

/-- R26, R29, R30, R33, R35, R36, R39, R66, R78: a close accepted. In BREAK it ends a pulse break, or a short break that
marks the digit corrupt; in LONG_OPEN a dead-band open with REJECT_OPEN, or a flash that opens an escape or is acted on
plainly; in IDLE either level returns the seizure count to 0. -/
def Obligations.CloseAccepted : Prop :=
  ∀ (n : LineNo) (s : State), isDue (.loopChange n) s = true →
    ((s.line n).state.seizedOn = true → (s.classifier n).accepted = false → (s.classifier n).pulse = .brk →
      ∃ u, exec (.loopChangeAccepted n) s = .next (epilogue u) ∧ HostSideKept s u ∧ OtherLinesKept n s u ∧
        u.plan = s.plan ∧ u.pool = s.pool ∧ u.writer = s.writer ∧ u.orders = s.orders ∧ u.port = s.port ∧
        u.estimator n = s.estimator n ∧ (u.classifier n).accepted = true ∧ (u.classifier n).interval = 0 ∧
        (u.classifier n).pulse = .make ∧ (u.classifier n).pulseCount = min 63 ((s.classifier n).pulseCount + 1) ∧
        (u.classifier n).idtInUse = (s.estimator n).idt ∧
        (u.classifier n).firstBreak = (s.classifier n).firstBreak ∧
        (8 * (s.boundProfile n).breakMin ≤ (s.classifier n).interval →
          (u.classifier n).lastBreak = (s.classifier n).interval ∧ (u.classifier n).lastBreakPulse = true ∧
          (u.classifier n).corrupt = (s.classifier n).corrupt) ∧
        ((s.classifier n).interval < 8 * (s.boundProfile n).breakMin →
          (u.classifier n).lastBreak = (s.classifier n).lastBreak ∧ (u.classifier n).lastBreakPulse = false ∧
          (u.classifier n).corrupt = true) ∧
        u.line n = if (s.boundProfile n).muteTailMs = 0 then s.line n
          else (s.line n).startTimer .muteTail (s.boundProfile n).muteTailMs) ∧
    ((s.line n).state.seizedOn = true → (s.classifier n).accepted = false → (s.classifier n).pulse = .longOpen →
      ∃ u, exec (.loopChangeAccepted n) s = .next (epilogue u) ∧ HostSideKept s u ∧ OtherLoopsKept n s u ∧
        u.orders = s.orders ∧ u.estimator n = s.estimator n ∧ (u.classifier n).accepted = true ∧
        (u.classifier n).interval = 0 ∧ (u.classifier n).pulse = .steadyClosed ∧ (u.classifier n).dropped = false ∧
        (((s.classifier n).interval < 8 * (s.boundProfile n).flashMin ∨
            8 * (s.boundProfile n).flashMax + 7 < (s.classifier n).interval) →
          OtherLinesKept n s u ∧ (u.line n).state = (s.line n).state ∧ (u.line n).queue = (s.line n).queue ∧
          (∀ d, (s.line n).draft = .opened d → (u.line n).draft = .opened (d.record .rejectOpen)) ∧
          ((s.line n).escapedDigit = true → (u.line n).escapePending = false)) ∧
        (8 * (s.boundProfile n).flashMin ≤ (s.classifier n).interval →
          (s.classifier n).interval ≤ 8 * (s.boundProfile n).flashMax + 7 → (s.classifier n).dropped = false →
          ((s.line n).state = .seized ∨ (s.line n).state = .collecting ∨ (s.line n).state = .converting) →
          ((s.boundProfile n).escapeEnable = true → (s.line n).escapePending = false →
            (u.line n).escapePending = true ∧ (u.line n).state = (s.line n).state ∧
            (u.line n).draft = (s.line n).draft ∧
            (u.line n).timer .escape = .running 0 (s.boundProfile n).escapeWindowMs) ∧
          ((s.boundProfile n).escapeEnable = false → (s.line n).state = .seized →
            (u.line n).state = .seized ∧ ((u.line n).timer .flashOut).isRunning = true ∧
            (∀ d, (s.line n).draft = .opened d → (u.line n).draft = .opened (d.record .flash))) ∧
          ((s.boundProfile n).escapeEnable = false → (s.line n).state = .collecting →
            (u.line n).state = .seized ∧ (u.line n).number = [] ∧ (u.line n).boundBank = none ∧
            (u.line n).timer .complete = .stopped ∧
            (u.line n).timer .firstDigit = .running 0 (1000 * (s.boundProfile n).firstDigitWait)))) ∧
    ((s.line n).state = .idle →
      ∃ u, exec (.loopChangeAccepted n) s = .next (epilogue u) ∧ HostSideKept s u ∧ OtherLinesKept n s u ∧
        u.line n = s.line n ∧ u.estimator n = s.estimator n ∧ u.pool = s.pool ∧ u.writer = s.writer ∧
        u.orders = s.orders ∧ (u.classifier n).accepted = !(s.classifier n).accepted ∧
        (u.classifier n).pulse = (if (s.classifier n).accepted then .steadyOpen else .steadyClosed) ∧
        (u.classifier n).seizureCount = 0 ∧ (u.classifier n).interval = 0)

/-- R34: BREAK becomes LONG_OPEN at the flag frame at which the open reaches 8 x break_max + 8 frames; a digit in progress
is dropped, with no digit event and no pair for it; the slot stays muted and the open goes on being measured. -/
def Obligations.LongOpenEntry : Prop :=
  (∀ (p : Profile) (c : Classifier), c.pulse = .brk →
    ((c.flagFrame p false false).bound = some .longOpen ↔
      8 * p.breakMax + 8 ≤ (c.flagFrame p false false).interval) ∧
    (c.flagFrame p false false).interval = min 40000 (c.interval + 1)) ∧
  (∀ (n : LineNo) (s : State), isDue (.longOpen n) s = true →
    ∃ u, exec (.longOpenEntry n) s = .next (epilogue u) ∧ HostSideKept s u ∧ OtherLinesKept n s u ∧
      u.plan = s.plan ∧ u.pool = s.pool ∧ u.writer = s.writer ∧ u.orders = s.orders ∧ u.port = s.port ∧
      (u.classifier n).pulse = .longOpen ∧ (u.classifier n).interval = (s.classifier n).interval ∧
      (u.classifier n).accepted = (s.classifier n).accepted ∧ u.estimator n = s.estimator n ∧
      (0 < (s.classifier n).pulseCount →
        (u.classifier n).corrupt = false ∧ (u.classifier n).firstBreak = none ∧ (u.classifier n).dropped = true) ∧
      ((s.classifier n).pulseCount = 0 → (u.classifier n).dropped = (s.classifier n).dropped) ∧
      (u.classifier n).pulseCount = 0 ∧ muted u n = true ∧
      { u.line n with escapedDigit := (s.line n).escapedDigit } = s.line n) ∧
  (∀ (p : Profile) (c : Classifier) (closed : Bool), c.pulse = .longOpen →
    (c.flagFrame p false closed).bound ≠ some .digit ∧
    (c.flagFrame p false closed).interval = min 40000 (c.interval + 1))

/-- R27, R45, R60, R61: a seizure: it is accepted at the flag frame at which the seizure count of an IDLE line reaches
8 x seize_ms; the named profile is bound, the seizure id advances, the estimator is loaded, and the line is SEIZED
with its first-digit timer running, or CONVERTING and answered when INCOMING is set. -/
def Obligations.Seizure : Prop :=
  (∀ (n : LineNo) (s : State), isDue (.seizure n) s = true →
    ∃ u, exec (.seizure n) s = .next (epilogue u) ∧ HostSideKept s u ∧ OtherLoopsKept n s u ∧ u.plan = s.plan ∧
      u.orders = s.orders ∧ (u.classifier n).seizureCount = 0 ∧ (u.classifier n).pulse = (s.classifier n).pulse ∧
      (u.classifier n).interval = (s.classifier n).interval ∧ u.estimator n = Estimator.load (s.namedProfile n) ∧
      (u.line n).bound = some (s.namedProfile n) ∧ (u.line n).seizureId = (s.line n).seizureId + 1 ∧
      (u.line n).draftOpened = false ∧
      (u.line n).queue.map QueueEntry.what = (s.line n).queue.map QueueEntry.what ∧
      (s.slotPath.incoming.get n = false → (u.line n).state = .seized ∧
        (u.line n).timer .firstDigit = .running 0 (1000 * (s.namedProfile n).firstDigitWait) ∧
        (u.line n).answered = (s.line n).answered) ∧
      (s.slotPath.incoming.get n = true → (u.line n).state = .converting ∧ (u.line n).answered = true)) ∧
  (∀ (p : Profile) (c : Classifier) (closed : Bool), c.accepted = true →
    (c.flagFrame p true closed).change = false →
    (c.flagFrame p true closed).seizureCount = c.seizureCount + 1 ∧
    ((c.flagFrame p true closed).bound = some .seizure ↔ 8 * p.seizeMs ≤ c.seizureCount + 1))

/-- R37, R81, R82, R83, R61, R130: a clear: it is declared at the flag frame at which an open in LONG_OPEN reaches 8 x
clear_ms frames; it tears the line down into IDLE: queue, number, decision, bank, timers, draft and escape are ended,
the draft closes CLEARED into the FIFO, the generator and the wait-list entry are given up, and a SEND_TONES in
progress on the line ends CLEARED. The generators attached to a line are at most one (R115). Details a result does not
fill are 0 (log 34, the model's choice). -/
def Obligations.Clear : Prop :=
  (∀ (n : LineNo) (s : State), isDue (.clear n) s = true →
    (∀ g h, (s.gen g).attached = some n → (s.gen h).attached = some n → g = h) →
    ∃ u, exec (.clear n) s = .next (epilogue u) ∧ HostSideKept s u ∧ OtherLoopsKept n s u ∧
      u.estimator n = s.estimator n ∧ (u.classifier n).pulse = .steadyOpen ∧ (u.classifier n).dropped = false ∧
      (u.classifier n).seizureCount = 0 ∧ (u.classifier n).interval = (s.classifier n).interval ∧
      (u.line n).state = .idle ∧ (u.line n).bound = none ∧ (u.line n).answered = false ∧ (u.line n).queue = [] ∧
      (u.line n).number = [] ∧ (u.line n).boundBank = none ∧ (u.line n).decision = none ∧
      (u.line n).draft = .none ∧ (u.line n).escapePending = false ∧ (u.line n).escapedDigit = false ∧
      (∀ k, (u.line n).timer k = .stopped) ∧ (u.line n).seizureId = (s.line n).seizureId ∧
      genOf u n = none ∧ isWaiting u n = false ∧ cleanedHook u n = false ∧
      (∀ b, (s.line n).boundBank = some b → (u.bank b).refCount = (s.bank b).refCount - 1) ∧
      (∀ d, (s.line n).draft = .opened d → ClosedInto s u n d .cleared) ∧
      (∀ c cls count sent, s.orders.current = some c → s.orders.state = .inProgress →
        c.work = .sendTones n cls count sent false →
        Answered s u .cleared { sent, unsent := count - sent, cause := 4 })) ∧
  (∀ (p : Profile) (c : Classifier), c.pulse = .longOpen →
    ((c.flagFrame p false false).bound = some .clear ↔ 8 * p.clearMs ≤ (c.flagFrame p false false).interval) ∧
    (c.flagFrame p false false).interval = min 40000 (c.interval + 1))

/-- R32, R53 to R56, R62, R63, R65, R95: a completed digit: it completes at the flag frame at which the close in MAKE
reaches the IDT in use; the classifier is left at rest, the count is translated, and the outcome is taken in the line
state: converted at once by a DIRECT line, collected by an EN_BLOC line and decided as soon as the matcher says so,
queued in CONVERTING, and a REJECT recorded alone. An escaped digit ends the escape; its digit is mapped by the escape
table, to a symbol taken as any other and marked ESCAPE_USED, or to REJECT_ESCAPE. -/
def Obligations.DigitComplete : Prop :=
  (∀ (n : LineNo) (s : State), isDue (.digit n) s = true → (s.line n).escapedDigit = false →
    ∃ u, exec (.digitComplete n) s = .next (epilogue u) ∧ u.pending = s.pending ∧ u.slotPath = s.slotPath ∧
      u.settings = s.settings ∧ u.estimators = s.estimators ∧ OtherLoopsKept n s u ∧
      (u.classifier n).pulse = .steadyClosed ∧ (u.classifier n).pulseCount = 0 ∧ (u.classifier n).corrupt = false ∧
      (u.classifier n).firstBreak = none ∧ (u.classifier n).interval = (s.classifier n).interval ∧
      (((s.classifier n).corrupt = true ∨ 10 < (s.classifier n).pulseCount) → (s.line n).state ≠ .sending →
        (u.line n).state = (s.line n).state ∧ (u.line n).number = (s.line n).number ∧
        (u.line n).queue.map QueueEntry.what = (s.line n).queue.map QueueEntry.what ∧
        (u.line n).timer .complete = (s.line n).timer .complete ∧
        (u.line n).timer .quiet = (s.line n).timer .quiet ∧
        ∀ d, (s.line n).draft = .opened d → (u.line n).draft = .opened (d.record .rejectCount)) ∧
      ∀ (i : Fin 10) (t : Tone), (s.classifier n).corrupt = false → (s.classifier n).pulseCount = i.val + 1 →
        (s.boundProfile n).translation.get i = some t →
        ((s.line n).state = .seized → (s.boundProfile n).mode = .direct →
          (u.line n).state = .converting ∧ (u.line n).hasDraft = true ∧ (u.line n).timer .firstDigit = .stopped ∧
          (u.line n).queue.map QueueEntry.what
            = (s.line n).queue.map QueueEntry.what ++ [(t, Origin.subscriber)] ∧
          ∀ d, (s.line n).draft = .opened d → (u.line n).draft = .opened (d.recordTone t false)) ∧
        ((s.line n).state = .converting → (s.line n).queue.length < 32 →
          (u.line n).state = .converting ∧ (u.line n).hasDraft = true ∧
          (u.line n).queue.map QueueEntry.what
            = (s.line n).queue.map QueueEntry.what ++ [(t, Origin.subscriber)] ∧
          ∀ d, (s.line n).draft = .opened d → (u.line n).draft = .opened (d.recordTone t false) ∧
            (u.line n).timer .quiet = ((s.line n).timer .quiet).zero) ∧
        ((s.line n).state = .converting → 32 ≤ (s.line n).queue.length →
          (u.line n).state = .converting ∧
          (u.line n).queue.map QueueEntry.what = (s.line n).queue.map QueueEntry.what ∧
          ∀ d, (s.line n).draft = .opened d →
            (u.line n).draft = .opened { d.recordTone t false with queueFull := true } ∧
            (u.line n).timer .quiet = ((s.line n).timer .quiet).zero) ∧
        ((s.line n).state = .seized → (s.boundProfile n).mode = .enBloc →
          matchSymbol (s.bank s.plan.active).entries (s.boundProfile n).unmatchedAction [t] = none →
          (u.line n).state = .collecting ∧ (u.line n).number = [t] ∧ (u.line n).boundBank = some s.plan.active ∧
          (u.bank s.plan.active).refCount = (s.bank s.plan.active).refCount + 1 ∧
          (u.line n).timer .firstDigit = .stopped ∧
          (u.line n).timer .complete = .running 0 (s.boundProfile n).completeMs ∧
          (u.line n).queue.map QueueEntry.what = (s.line n).queue.map QueueEntry.what) ∧
        ((s.line n).state = .collecting →
          matchSymbol (boundEntries s n) (s.boundProfile n).unmatchedAction ((s.line n).number ++ [t]) = none →
          (u.line n).state = .collecting ∧ (u.line n).number = (s.line n).number ++ [t] ∧
          (u.line n).boundBank = (s.line n).boundBank ∧
          (u.line n).timer .complete = .running 0 (s.boundProfile n).completeMs ∧
          (u.line n).queue.map QueueEntry.what = (s.line n).queue.map QueueEntry.what) ∧
        (∀ v, (s.line n).state = .seized → (s.boundProfile n).mode = .enBloc →
          matchSymbol (s.bank s.plan.active).entries (s.boundProfile n).unmatchedAction [t] = some v →
          ∃ w, u = afterEvent n (actOn n v w) ∧ HostSideKept s w ∧ (w.line n).state = .collecting ∧
            (w.line n).number = [t] ∧ (w.line n).boundBank = some s.plan.active ∧
            (w.bank s.plan.active).refCount = (s.bank s.plan.active).refCount + 1 ∧
            ∀ d, (s.line n).draft = .opened d → (w.line n).draft
              = .opened { d.recordTone t false with numberLen := 1, bank := some s.plan.active }) ∧
        (∀ v, (s.line n).state = .collecting →
          matchSymbol (boundEntries s n) (s.boundProfile n).unmatchedAction ((s.line n).number ++ [t]) = some v →
          ∃ w, u = afterEvent n (actOn n v w) ∧ HostSideKept s w ∧ w.plan = s.plan ∧
            (w.line n).state = .collecting ∧ (w.line n).number = (s.line n).number ++ [t] ∧
            (w.line n).boundBank = (s.line n).boundBank ∧
            ∀ d, (s.line n).draft = .opened d → (w.line n).draft
              = .opened { d.recordTone t false with numberLen := (s.line n).number.length + 1 })) ∧
  (∀ (n : LineNo) (s : State), isDue (.digit n) s = true → (s.line n).escapedDigit = true →
    ∃ u, exec (.digitComplete n) s = .next (epilogue u) ∧ u.pending = s.pending ∧ u.slotPath = s.slotPath ∧
      u.settings = s.settings ∧ u.estimators = s.estimators ∧ OtherLoopsKept n s u ∧
      (u.classifier n).pulse = .steadyClosed ∧ (u.classifier n).pulseCount = 0 ∧ (u.classifier n).corrupt = false ∧
      (u.line n).escapePending = false ∧ (u.line n).escapedDigit = false ∧ (u.line n).timer .escape = .stopped ∧
      (((s.classifier n).corrupt = true ∨ 10 < (s.classifier n).pulseCount) → (s.line n).state ≠ .sending →
        (u.line n).state = (s.line n).state ∧
        (u.line n).queue.map QueueEntry.what = (s.line n).queue.map QueueEntry.what ∧
        ∀ d, (s.line n).draft = .opened d → (u.line n).draft = .opened (d.record .rejectCount)) ∧
      ∀ (i : Fin 10) (t : Tone), (s.classifier n).corrupt = false → (s.classifier n).pulseCount = i.val + 1 →
        (s.boundProfile n).translation.get i = some t →
        ((10 ≤ t.val ∨ ∃ j : Fin 10, j.val = t.val ∧ (s.boundProfile n).escape.get j = none) →
          (s.line n).state ≠ .sending →
          (u.line n).state = (s.line n).state ∧
          (u.line n).queue.map QueueEntry.what = (s.line n).queue.map QueueEntry.what ∧
          ∀ d, (s.line n).draft = .opened d → (u.line n).draft = .opened (d.record .rejectEscape)) ∧
        ∀ (j : Fin 10) (x : Tone), j.val = t.val → (s.boundProfile n).escape.get j = some x →
          ((s.line n).state = .seized → (s.boundProfile n).mode = .direct →
            (u.line n).state = .converting ∧ (u.line n).timer .firstDigit = .stopped ∧
            (u.line n).queue.map QueueEntry.what
              = (s.line n).queue.map QueueEntry.what ++ [(x, Origin.subscriber)] ∧
            ∀ d, (s.line n).draft = .opened d → (u.line n).draft = .opened (d.recordTone x true)) ∧
          ((s.line n).state = .converting → (s.line n).queue.length < 32 →
            (u.line n).state = .converting ∧
            (u.line n).queue.map QueueEntry.what
              = (s.line n).queue.map QueueEntry.what ++ [(x, Origin.subscriber)] ∧
            ∀ d, (s.line n).draft = .opened d → (u.line n).draft = .opened (d.recordTone x true) ∧
              (d.recordTone x true).escapeUsed = true) ∧
          ((s.line n).state = .collecting →
            matchSymbol (boundEntries s n) (s.boundProfile n).unmatchedAction ((s.line n).number ++ [x]) = none →
            (u.line n).state = .collecting ∧ (u.line n).number = (s.line n).number ++ [x] ∧
            (u.line n).timer .complete = .running 0 (s.boundProfile n).completeMs)) ∧
  (∀ (p : Profile) (c : Classifier) (closed : Bool), c.pulse = .make → (c.flagFrame p false closed).change = false →
    ((c.flagFrame p false closed).bound = some .digit ↔ c.idtInUse ≤ (c.flagFrame p false closed).interval) ∧
    (c.flagFrame p false closed).interval = min 40000 (c.interval + 1))

/-- R64: in SENDING a tone symbol is discarded and the open draft's ignored count rises, saturating at 255, with nothing
recorded or queued and the decided number unchanged; in LOCKOUT it is discarded and no count changes, and no draft is open
after a teardown into LOCKOUT. -/
def Obligations.SymbolIgnored : Prop :=
  (∀ (n : LineNo) (t : Tone) (escaped : Bool) (s : State), (s.line n).state = .sending →
    HostSideKept s (takeSymbol n t escaped s) ∧ OtherLinesKept n s (takeSymbol n t escaped s) ∧
    (takeSymbol n t escaped s).classifier n = s.classifier n ∧
    (takeSymbol n t escaped s).pool = s.pool ∧ (takeSymbol n t escaped s).plan = s.plan ∧
    (takeSymbol n t escaped s).orders = s.orders ∧ (takeSymbol n t escaped s).writer = s.writer ∧
    { (takeSymbol n t escaped s).line n with draft := (s.line n).draft } = s.line n ∧
    (∀ d, (s.line n).draft = .opened d →
      ((takeSymbol n t escaped s).line n).draft = .opened { d with ignored := min 255 (d.ignored + 1) })) ∧
  (∀ (n : LineNo) (t : Tone) (escaped : Bool) (s : State), (s.line n).state = .lockout →
    takeSymbol n t escaped s = s) ∧
  (∀ (n : LineNo) (s : State) (i : Fin 10) (t : Tone), isDue (.digit n) s = true →
    (s.line n).escapedDigit = false → (s.classifier n).corrupt = false → (s.classifier n).pulseCount = i.val + 1 →
    (s.boundProfile n).translation.get i = some t →
    ∃ u, exec (.digitComplete n) s = .next (epilogue u) ∧
      u = afterEvent n (takeSymbol n t false (s.modClassifier n fun c =>
        { c with pulse := .steadyClosed, pulseCount := 0, corrupt := false, firstBreak := none, bound := none }))) ∧
  (∀ (n : LineNo) (cause : CloseCause) (s : State), cause.stateAfter = .lockout →
    ((teardown n cause s).line n).state = .lockout ∧ ((teardown n cause s).line n).draft = .none)

/-! ### Timers of a line -/

/-- R73, R75: the first-digit expiry closes the line's draft, opened for it if none is open, with cause NO_DIAL and leaves
the line CONVERTING; the quiet expiry closes the draft with cause QUIET and the line stays CONVERTING. R76, R77, R82, R83:
the proceed and generator-wait expiries tear the line down into LOCKOUT. -/
def Obligations.CallTimerExpiries : Prop :=
  (∀ (n : LineNo) (s : State), isDue (.timer .firstDigit n) s = true →
    ∃ u, exec (.firstDigitTimerExpiry n) s = .next (epilogue u) ∧ HostSideKept s u ∧
      u.classifiers = s.classifiers ∧ u.estimators = s.estimators ∧ u.plan = s.plan ∧ u.orders = s.orders ∧
      (u.line n).state = .converting ∧ (u.line n).draft = .none ∧ (u.line n).timer .firstDigit = .stopped ∧
      (u.line n).escapePending = (s.line n).escapePending ∧ (u.line n).bound = (s.line n).bound ∧
      (u.line n).queue.map QueueEntry.what = (s.line n).queue.map QueueEntry.what ∧
      (∀ d, (s.line n).draft = .opened d → ClosedInto s u n d .noDial) ∧
      ((s.line n).draft = .none → closedWaiting s n = false →
        ClosedInto s u n (newDraft s n) .noDial ∧ (newDraft s n).symbols = [])) ∧
  (∀ (n : LineNo) (s : State), isDue (.timer .quiet n) s = true → (s.line n).state = .converting →
    ∃ u, exec (.quietTimerExpiry n) s = .next (epilogue u) ∧ HostSideKept s u ∧
      u.classifiers = s.classifiers ∧ u.estimators = s.estimators ∧ u.plan = s.plan ∧ u.orders = s.orders ∧
      (u.line n).state = .converting ∧ (u.line n).draft = .none ∧ (u.line n).timer .quiet = .stopped ∧
      (u.line n).escapePending = (s.line n).escapePending ∧
      (u.line n).queue.map QueueEntry.what = (s.line n).queue.map QueueEntry.what ∧
      (∀ d, (s.line n).draft = .opened d → ClosedInto s u n d .quiet)) ∧
  (∀ (n : LineNo) (s : State) (c : Instr) (cause : CloseCause),
    ((isDue (.timer .proceed n) s = true ∧ c = .proceedTimerExpiry n ∧ cause = .noProceed) ∨
      (isDue (.timer .generatorWait n) s = true ∧ c = .generatorWaitTimerExpiry n ∧ cause = .noGenerator)) →
    ∃ u, exec c s = .next (epilogue u) ∧ HostSideKept s u ∧ u.classifiers = s.classifiers ∧
      u.estimators = s.estimators ∧ (u.line n).state = .lockout ∧ (u.line n).queue = [] ∧ (u.line n).number = [] ∧
      (u.line n).boundBank = none ∧ (u.line n).decision = none ∧ (u.line n).draft = .none ∧
      (u.line n).escapePending = false ∧ (∀ k, (u.line n).timer k = .stopped) ∧
      (u.line n).bound = (s.line n).bound ∧ isWaiting u n = false ∧
      (∀ d, (s.line n).draft = .opened d → ClosedInto s u n d cause))

/-- R55, R67, R68, R70: the escape expiry with an escaped digit in progress only stops the timer; else escape pending
ends and the flash is acted on plainly: forwarded in SEIZED and CONVERTING, a re-dial in COLLECTING, counted as
ignored in SENDING (where no class A claim waits), nothing in LOCKOUT. R78, R79, R80: the mute tail's expiry leaves
the slot to the other mute conditions, the flash-out's returns the cleaned hook flag. -/
def Obligations.SlotTimerExpiries : Prop :=
  (∀ (n : LineNo) (s : State), isDue (.timer .escape n) s = true →
    ∃ u, exec (.escapeTimerExpiry n) s = .next (epilogue u) ∧ HostSideKept s u ∧ u.classifiers = s.classifiers ∧
      u.estimators = s.estimators ∧ u.orders = s.orders ∧ (u.line n).timer .escape = .stopped ∧
      ((s.line n).escapedDigit = true → OtherLinesKept n s u ∧
        (u.line n).escapePending = (s.line n).escapePending ∧ (u.line n).escapedDigit = true ∧
        (u.line n).state = (s.line n).state ∧ (u.line n).draft = (s.line n).draft ∧
        (∀ k, k ≠ .escape → (u.line n).timer k = (s.line n).timer k)) ∧
      ((s.line n).escapedDigit = false → (u.line n).escapePending = false ∧
        ((s.line n).state = .seized → (u.line n).state = .seized ∧
          ((u.line n).timer .flashOut).isRunning = true ∧
          (((s.line n).timer .flashOut).isRunning = false →
            (u.line n).timer .flashOut = .running 0 (s.boundProfile n).flashOutMs) ∧
          ∀ d, (s.line n).draft = .opened d → (u.line n).draft = .opened (d.record .flash)) ∧
        ((s.line n).state = .converting → (u.line n).state = .converting ∧ (u.line n).hasDraft = true ∧
          ((u.line n).timer .flashOut).isRunning = true ∧
          ∀ d, (s.line n).draft = .opened d → (u.line n).draft = .opened (d.record .flash)) ∧
        ((s.line n).state = .collecting → (u.line n).state = .seized ∧ (u.line n).number = [] ∧
          (u.line n).boundBank = none ∧ (u.line n).timer .complete = .stopped ∧
          (u.line n).timer .firstDigit = .running 0 (1000 * (s.boundProfile n).firstDigitWait) ∧
          (∀ b, (s.line n).boundBank = some b → (u.bank b).refCount = (s.bank b).refCount - 1) ∧
          ∀ d, (s.line n).draft = .opened d →
            (u.line n).draft = .opened { d.record .flash with numberLen := 0 }) ∧
        ((s.line n).state = .sending → s.noEmergency = true → (u.line n).state = .sending ∧
          (u.line n).queue.map QueueEntry.what = (s.line n).queue.map QueueEntry.what ∧
          (u.line n).decision = (s.line n).decision ∧ (u.line n).timer .flashOut = (s.line n).timer .flashOut ∧
          ∀ d, (s.line n).draft = .opened d →
            (u.line n).draft = .opened { d with ignored := min 255 (d.ignored + 1) }) ∧
        ((s.line n).state = .lockout → (u.line n).state = .lockout ∧ (u.line n).draft = (s.line n).draft ∧
          (u.line n).timer .flashOut = (s.line n).timer .flashOut ∧
          (u.line n).queue.map QueueEntry.what = (s.line n).queue.map QueueEntry.what))) ∧
  (∀ (n : LineNo) (s : State), isDue (.timer .muteTail n) s = true →
    ∃ u, exec (.muteTailExpiry n) s = .next (epilogue u) ∧ HostSideKept s u ∧ OtherLinesKept n s u ∧
      u.classifier n = s.classifier n ∧ u.estimator n = s.estimator n ∧ u.pool = s.pool ∧ u.writer = s.writer ∧
      u.orders = s.orders ∧ u.plan = s.plan ∧ (u.line n).timer .muteTail = .stopped ∧
      (∀ k, k ≠ .muteTail → (u.line n).timer k = (s.line n).timer k) ∧
      { u.line n with timers := (s.line n).timers } = s.line n ∧
      muted u n = ((s.classifier n).pulse.inProgress || (genOf s n).isSome)) ∧
  (∀ (n : LineNo) (s : State), isDue (.timer .flashOut n) s = true →
    ∃ u, exec (.flashOutExpiry n) s = .next (epilogue u) ∧ HostSideKept s u ∧ OtherLinesKept n s u ∧
      u.classifier n = s.classifier n ∧ u.estimator n = s.estimator n ∧ u.pool = s.pool ∧ u.writer = s.writer ∧
      u.orders = s.orders ∧ u.plan = s.plan ∧ (u.line n).timer .flashOut = .stopped ∧
      (∀ k, k ≠ .flashOut → (u.line n).timer k = (s.line n).timer k) ∧
      { u.line n with timers := (s.line n).timers } = s.line n ∧
      cleanedHook u n = (s.line n).state.seizedOn)

/-! ### The generator pool and the synthesizer -/

/-- R121: the expiry of ON removes the head of the line's queue as sent: the generator enters GAP for tone_off_ms, the
decision of a SENDING line and the open draft count one more symbol sent, and the last entry of a SEND_TONES order
completes it OK. Premises: `g` is the line's one generator, the line is not waiting, and no class A claim waits.
Details a result does not fill are 0 (log 34, the model's choice). -/
def Obligations.OnExpiry : Prop :=
  ∀ (g : GenNo) (n : LineNo) (s : State) (e : QueueEntry) (rest : List QueueEntry),
    isDue (.onExpiry g) s = true → s.serves g n → (s.line n).queue = e :: rest → s.noEmergency = true →
    isWaiting s n = false →
    ∃ u, exec (.onExpiry g) s = .next (epilogue u) ∧ HostSideKept s u ∧ u.classifiers = s.classifiers ∧
      u.estimators = s.estimators ∧ u.plan = s.plan ∧ (u.gen g).state = .gap ∧ (u.gen g).attached = some n ∧
      (u.gen g).timer = .running 0 (s.boundProfile n).toneOffMs ∧ (u.gen g).clip = (s.gen g).clip ∧
      (u.line n).state = (s.line n).state ∧
      (u.line n).queue.map QueueEntry.what = rest.map QueueEntry.what ∧
      (∀ d, (s.line n).state = .sending → (s.line n).decision = some d →
        (u.line n).decision = some { d with sent := d.sent + 1 }) ∧
      (∀ d, (s.line n).draft = .opened d →
        (u.line n).draft = .opened { d with sent := min 255 (d.sent + 1) }) ∧
      (e.origin = .subscriber → u.orders = s.orders) ∧
      (∀ slot c cls count sent, e.origin = .order slot → rest.any QueueEntry.isOrder = false →
        s.orders.current = some c → c.work = .sendTones n cls count sent false →
        Answered s u .ok { sent := sent + 1, unsent := count - (sent + 1) })

/-- R122: the expiry of GAP: a SENDING line whose number is finished closes its draft COMPLETE and is CONVERTING; otherwise
the generator plays the head of the queue from the tone table; with the queue empty it holds for gen_hold_ms, or is
released when that is 0. R123: the expiry of HOLD releases it. Premises as in `Obligations.OnExpiry`. -/
def Obligations.GapAndHoldExpiry : Prop :=
  ∀ (g : GenNo) (n : LineNo) (s : State), s.serves g n → s.noEmergency = true → isWaiting s n = false →
    (isDue (.gapExpiry g) s = true → ∃ u, exec (.gapExpiry g) s = .next (epilogue u) ∧ HostSideKept s u ∧
      u.classifiers = s.classifiers ∧ u.estimators = s.estimators ∧ u.plan = s.plan ∧ u.orders = s.orders ∧
      (u.line n).queue.map QueueEntry.what = (s.line n).queue.map QueueEntry.what ∧
      (∀ d, (s.line n).state = .sending → (s.line n).decision = some d → d.toSend ≤ d.sent →
        (u.line n).state = .converting ∧ (u.line n).decision = none ∧ (u.line n).draft = .none ∧
        ∀ x, (s.line n).draft = .opened x → ClosedInto s u n x .complete) ∧
      (∀ e rest, (s.line n).queue = e :: rest →
        ((s.line n).state ≠ .sending ∨ ∃ d, (s.line n).decision = some d ∧ d.sent < d.toSend) →
        (u.gen g).state = .on ∧ (u.gen g).attached = some n ∧
        (u.gen g).timer = .running 0 (s.boundProfile n).toneOnMs ∧ (u.line n).state = (s.line n).state ∧
        (u.voices.get g).index = 0 ∧ (u.voices.get g).low = (s.settings.tones.get e.symbol).low.load ∧
        (u.voices.get g).high = (s.settings.tones.get e.symbol).high.load) ∧
      ((s.line n).state ≠ .sending → (s.line n).queue = [] → 0 < (s.boundProfile n).genHoldMs →
        (u.gen g).state = .hold ∧ (u.gen g).attached = some n ∧
        (u.gen g).timer = .running 0 (s.boundProfile n).genHoldMs) ∧
      ((s.line n).state ≠ .sending → (s.line n).queue = [] → (s.boundProfile n).genHoldMs = 0 →
        genOf u n = none)) ∧
    (isDue (.holdExpiry g) s = true → (s.line n).queue = [] →
      ∃ u, exec (.holdExpiry g) s = .next (epilogue u) ∧ HostSideKept s u ∧
        u.classifiers = s.classifiers ∧ u.estimators = s.estimators ∧ u.plan = s.plan ∧ u.orders = s.orders ∧
        genOf u n = none ∧ (u.line n).queue = [] ∧ (u.line n).number = (s.line n).number ∧
        ((s.line n).state ≠ .sending → (u.line n).state = (s.line n).state ∧ (u.line n).draft = (s.line n).draft))

/-- R136, R142, R145: one sample of a resonator: 0 and the start value first, then 2 c y(n-1) / 32768 rounded half to even
less y(n-2), saturated to 16 bits, CLIP showing that it was; a silent resonator gives 0. -/
def Obligations.ResonatorSample : Prop :=
  ∀ r : Resonator,
    (∀ i, r.silent = true → r.sample i = 0 ∧ r.clips i = false) ∧
    (r.silent = false → r.sample 0 = 0 ∧ r.sample 1 = r.start) ∧
    (∀ i, r.silent = false → 2 ≤ i → ∃ x : Int,
      (32768 * (2 * x) ≤ 2 * (2 * r.coefficient * r.y1) + 32768 ∧
        2 * (2 * r.coefficient * r.y1) ≤ 32768 * (2 * x) + 32768) ∧
      ((32768 * (2 * x) = 2 * (2 * r.coefficient * r.y1) + 32768 ∨
        2 * (2 * r.coefficient * r.y1) = 32768 * (2 * x) + 32768) → x % 2 = 0) ∧
      r.sample i = max (-32768) (min 32767 (x - r.y2)) ∧
      (r.clips i = true ↔ x - r.y2 < -32768 ∨ 32767 < x - r.y2)) ∧
    (∀ i, (r.advance i).y1 = r.sample i ∧ (r.advance i).y2 = r.y1 ∧ (r.advance i).start = r.start ∧
      (r.advance i).coefficient = r.coefficient)

/-! ### The order unit -/

/-- R173: a sweep event makes an IDLE order unit read the mark at its cursor, leaves any other order unit as it is,
and gives a PARKED record writer a pass for its head draft; and a mark read decides whether the slot's order is taken,
the pass goes on, or it ends. R174: taking writes TAKEN into the mark. Slot addresses are sums in 32 bits (log 23, the
model's inference). -/
def Obligations.SweepAndMarkRead : Prop :=
  (∀ s : State, isDue .sweep s = true →
    ∃ u, exec .sweepEvent s = .next (epilogue u) ∧ HostSideKept s u ∧ u.classifiers = s.classifiers ∧
      u.estimators = s.estimators ∧ u.lines = s.lines ∧ u.plan = s.plan ∧ u.pool = s.pool ∧
      u.orders.sweepDue = false ∧
      (s.orders.state = .idle →
        u.orders = { s.orders with sweepDue := false, state := .scanning, passStart := s.orders.cursor, examined := 0 } ∧
        u.port.waitOrder
          = some (readAccess s .orderMarkRead (orderSlot s.orders (s.orders.cursor % s.orders.slots)) 4)) ∧
      (s.orders.state ≠ .idle → u.orders = { s.orders with sweepDue := false } ∧ u.port.waitOrder = s.port.waitOrder) ∧
      (s.writer.state = .parked → s.writer.fifo ≠ [] →
        u.writer = { s.writer with state := .searching, examined := 0, retry := true } ∧
        u.port.waitWriter
          = some (readAccess s .recordMarkRead (recordSlot s.writer (s.writer.cursor % s.writer.slots)) 4)) ∧
      (s.writer.state ≠ .parked → u.writer = s.writer ∧ u.port.waitWriter = s.port.waitWriter)) ∧
  (∀ (mark : Word) (s : State), s.onBus .orderMarkRead = true → s.running = true →
    ∃ u, exec (.orderMarkReadDone mark) s = .next (epilogue u) ∧ OrderUnitOnly s u ∧ u.port.inFlight = none ∧
      u.orders.examined = s.orders.examined + 1 ∧ u.orders.cursor = s.orders.cursor ∧
      (mark = 1 → u.orders.state = .taking ∧
        u.orders.current = some
          { slot := s.orders.scanned, body := none, work := .none, abort := false, result := none, progressed := false } ∧
        u.port.waitOrder
          = some (writeAccess s .takenWrite (orderSlot s.orders s.orders.scanned) [0x02, 0x00, 0x00, 0x00])) ∧
      (mark ≠ 1 → u.orders.current = s.orders.current) ∧
      (mark ≠ 1 → s.orders.examined + 1 < s.orders.slots → u.orders.state = .scanning ∧
        u.port.waitOrder = some (readAccess s .orderMarkRead
          (orderSlot s.orders ((s.orders.passStart + (s.orders.examined + 1)) % s.orders.slots)) 4)) ∧
      (mark ≠ 1 → s.orders.slots ≤ s.orders.examined + 1 → u.orders.state = .idle ∧
        u.port.waitOrder = s.port.waitOrder))

/-- R174, R176: the TAKEN write completes and the body is read, or a waiting ABORT ends the order; R178: a NOP does
nothing and completes OK; R174: a code that no order has ends UNKNOWN_ORDER with the code in the details. Slot
addresses are sums in 32 bits (log 23, the model's inference). Details a result does not fill are 0 (log 34, the
model's choice). -/
def Obligations.TakenNopAndUnknown : Prop :=
  (∀ (s : State) (c : CurrentOrder), s.onBus .takenWrite = true → s.working c →
    ∃ u, exec .takenWriteDone s = .next (epilogue u) ∧ OrderUnitOnly s u ∧ u.orders = s.orders ∧
      u.port.inFlight = none ∧
      u.port.waitOrder = some (readAccess s .bodyRead (orderSlot s.orders c.slot + 4) 60)) ∧
  (∀ (s : State) (c : CurrentOrder), s.onBus .takenWrite = true → s.orders.current = some c → c.abort = true →
    c.work = .none →
    ∃ u, exec .takenWriteDone s = .next (epilogue u) ∧ OrderUnitOnly s u ∧ Answered s u .aborted {}) ∧
  (∀ (b : OrderBody) (s : State) (c : CurrentOrder), s.executing c → b.code = 0x01 →
    ∃ u, exec (.nop b) s = .next (epilogue u) ∧ OrderUnitOnly s u ∧ Answered s u .ok {}) ∧
  (∀ (b : OrderBody) (s : State) (c : CurrentOrder), s.executing c → (b.code = 0 ∨ 9 < b.code) →
    ∃ u, exec (.unknownOrder b) s = .next (epilogue u) ∧ OrderUnitOnly s u ∧
      Answered s u .unknownOrder { order := b.code })

/-- R178, R179, R197, R169: IDENTIFY writes the identification record, and READ_LINE the snapshot of its line, byte
for byte as R197 lays them out, as one access of 64 bytes at the destination; a destination the window check refuses
ends the order WINDOW_FAULT with the address and the kind, and raises the cause; a line above 63 ends READ_LINE
BAD_PARAMETER. Details a result does not fill are 0 (log 34, the model's choice). -/
def Obligations.IdentifyAndReadLine : Prop :=
  identification.length = 64 ∧ (∀ (n : LineNo) (s : State), (snapshot s n).length = 64) ∧
  (half identification 0 = 0x0A7C ∧ half identification 2 = 0x0D64 ∧ byteAt identification 4 = 0x01 ∧
    byteAt identification 5 = 64 ∧ byteAt identification 6 = 16 ∧ byteAt identification 7 = 8 ∧
    byteAt identification 8 = 128 ∧ byteAt identification 9 = 32 ∧ byteAt identification 10 = 24 ∧
    byteAt identification 11 = 32 ∧ byteAt identification 12 = 64 ∧ byteAt identification 13 = 64 ∧
    half identification 14 = 1 ∧ ∀ i, 16 ≤ i → byteAt identification i = 0) ∧
  (∀ (n : LineNo) (s : State),
    byteAt (snapshot s n) 0 = n.val ∧ byteAt (snapshot s n) 1 = (s.line n).state.code ∧
    byteAt (snapshot s n) 2 = (s.classifier n).pulse.code ∧
    byteAt (snapshot s n) 3 = (if (s.line n).escapePending then 1 else 0) ∧
    byteAt (snapshot s n) 4 = (s.setting n).profile.val ∧ byteAt (snapshot s n) 5 = (s.setting n).cls.code ∧
    half (snapshot s n) 6 = (s.estimator n).p % 65536 ∧ half (snapshot s n) 8 = (s.estimator n).idt % 65536 ∧
    byteAt (snapshot s n) 10 = (s.line n).queue.length % 256 ∧
    byteAt (snapshot s n) 11 = (match (s.line n).queue with | [] => 0xFF | e :: _ => e.symbol.val) ∧
    byteAt (snapshot s n) 12 = (match genOf s n with | some g => g.val | none => 0xFF) ∧
    byteAt (snapshot s n) 13 = (match genOf s n with | some g => (s.gen g).state.code | none => 0) ∧
    byteAt (snapshot s n) 14 = waitPosition s n % 256 ∧
    byteAt (snapshot s n) 15 = (match (s.line n).draft with | .none => 0 | .opened _ => 1 | .unrecorded => 2) ∧
    byteAt (snapshot s n) 16 = (if closedWaiting s n then 1 else 0) ∧
    byteAt (snapshot s n) 17 = (match (s.line n).boundBank with | some b => b.val | none => 0xFF) ∧
    (∀ k : TimerKind, half (snapshot s n) (18 + 2 * k.index.val)
      = (match (s.line n).timer k with | .stopped => 0xFFFF | .running c l => (l - c) % 65536)) ∧
    (∀ i, 34 ≤ i → byteAt (snapshot s n) i = 0) ∧
    (isWaiting s n = false → waitPosition s n = 0) ∧
    ∀ i e, s.pool.waitList[i]? = some e → e.line = n → (∀ j f, j < i → s.pool.waitList[j]? = some f → f.line ≠ n) →
      waitPosition s n = i + 1) ∧
  (∀ (b : OrderBody) (s : State) (c : CurrentOrder), s.executing c → b.code = 0x02 →
    ∃ u, exec (.identify b) s = .next (epilogue u) ∧
      (accessAllowed s.port.windows (paramAddress b 0x08) 64 true = true → OrderUnitOnly s u ∧
        u.orders.state = .executing ∧ u.orders.current = some { c with body := some b } ∧ u.port.inFlight = none ∧
        u.port.waitOrder = some (writeAccess s .identifyWrite (paramAddress b 0x08) identification)) ∧
      (accessAllowed s.port.windows (paramAddress b 0x08) 64 true = false →
        Raised .windowFault s.control u.control ∧ u.lines = s.lines ∧ u.settings = s.settings ∧
        Answered s u .windowFault { address := (paramAddress b 0x08).toNat, kind := 1 })) ∧
  (∀ (b : OrderBody) (s : State) (c : CurrentOrder), s.executing c → b.code = 0x03 →
    ∃ u, exec (.readLine b) s = .next (epilogue u) ∧
      (∀ n : LineNo, param b 0x08 = n.val → accessAllowed s.port.windows (paramAddress b 0x0C) 64 true = true →
        OrderUnitOnly s u ∧ u.orders.state = .executing ∧ u.orders.current = some { c with body := some b } ∧
        u.port.inFlight = none ∧
        u.port.waitOrder = some (writeAccess s .readLineWrite (paramAddress b 0x0C) (snapshot s n))) ∧
      (param b 0x08 < 64 → accessAllowed s.port.windows (paramAddress b 0x0C) 64 true = false →
        Raised .windowFault s.control u.control ∧ u.lines = s.lines ∧ u.settings = s.settings ∧
        Answered s u .windowFault { address := (paramAddress b 0x0C).toNat, kind := 1 }) ∧
      (64 ≤ param b 0x08 → OrderUnitOnly s u ∧ Answered s u .badParameter { field := 0x08 }))

/-- R178, R179: the destination write completes and chooses OK. R175: the result write completes and DONE is written
into the mark; the DONE write completes: ORDER_DONE is raised, the cursor takes the next slot, and the pass goes on,
in RUNNING, while fewer than N slots have been examined, or ends; after an order that was in progress there is no pass
to go on. Slot addresses are sums in 32 bits (log 23, the model's inference). Details a result does not fill are 0
(log 34, the model's choice). -/
def Obligations.OrderWritesDone : Prop :=
  (∀ (s : State) (c : CurrentOrder), s.onBus .identifyWrite = true → s.running = true → s.orders.current = some c →
    ∃ u, exec .identifyWriteDone s = .next (epilogue u) ∧ OrderUnitOnly s u ∧ Answered s u .ok {}) ∧
  (∀ (s : State) (c : CurrentOrder), s.onBus .readLineWrite = true → s.running = true → s.orders.current = some c →
    ∃ u, exec .readLineWriteDone s = .next (epilogue u) ∧ OrderUnitOnly s u ∧ Answered s u .ok {}) ∧
  (∀ (s : State) (c : CurrentOrder), s.onBus .resultWrite = true → s.orders.current = some c →
    ∃ u, exec .orderResultWriteDone s = .next (epilogue u) ∧ OrderUnitOnly s u ∧ u.orders = s.orders ∧
      u.port.inFlight = none ∧
      u.port.waitOrder = some (writeAccess s .doneWrite (orderSlot s.orders c.slot) [0x03, 0x00, 0x00, 0x00])) ∧
  (∀ (s : State) (c : CurrentOrder), s.onBus .doneWrite = true → s.orders.current = some c →
    ∃ u, exec .orderDoneWriteDone s = .next (epilogue u) ∧ Raised .orderDone s.control u.control ∧
      u.slotPath = s.slotPath ∧ u.classifiers = s.classifiers ∧ u.lines = s.lines ∧ u.settings = s.settings ∧
      u.plan = s.plan ∧ u.pool = s.pool ∧ u.writer = s.writer ∧ u.orders.current = none ∧
      u.orders.cursor = (c.slot + 1) % s.orders.slots ∧ u.orders.examined = s.orders.examined ∧
      (c.progressed = true → u.orders.state = .idle) ∧
      (c.progressed = false → s.running = true → s.orders.examined < s.orders.slots → u.orders.state = .scanning ∧
        u.port.waitOrder = some (readAccess s .orderMarkRead
          (orderSlot s.orders ((s.orders.passStart + s.orders.examined) % s.orders.slots)) 4)) ∧
      ((s.running = false ∨ s.orders.slots ≤ s.orders.examined) → u.orders.state = .idle))

/-- R87, R83, R179: SET_LINE checks line, enable, profile and class in that order and names the first that is out of
range with nothing changed; else the setting is written and the order completes OK: enabling a DISABLED line makes it
IDLE with its answered mark clear and waiting for a fresh start, in STEADY_OPEN while the line highway is lost;
disabling any other tears it down with cause DISABLED, and a line already as asked is left alone. Details a result
does not fill are 0 (log 34, the model's choice). -/
def Obligations.SetLine : Prop :=
  ∀ (b : OrderBody) (s : State) (c : CurrentOrder), s.executing c → b.code = 0x04 →
    ∃ u, exec (.setLine b) s = .next (epilogue u) ∧
      (64 ≤ param b 0x08 → OrderUnitOnly s u ∧ Answered s u .badParameter { field := 0x08 }) ∧
      (param b 0x08 < 64 → 1 < param b 0x09 → OrderUnitOnly s u ∧ Answered s u .badParameter { field := 0x09 }) ∧
      (param b 0x08 < 64 → param b 0x09 ≤ 1 → 8 ≤ param b 0x0A →
        OrderUnitOnly s u ∧ Answered s u .badParameter { field := 0x0A }) ∧
      (param b 0x08 < 64 → param b 0x09 ≤ 1 → param b 0x0A < 8 → classOfCode (param b 0x0B) = none →
        OrderUnitOnly s u ∧ Answered s u .badParameter { field := 0x0B }) ∧
      (∀ (n : LineNo) (i : ProfileNo) (cls : ServiceClass), param b 0x08 = n.val → param b 0x09 ≤ 1 →
        param b 0x0A = i.val → classOfCode (param b 0x0B) = some cls →
        Answered s u .ok {} ∧ u.control = s.control ∧ u.slotPath = s.slotPath ∧ u.estimators = s.estimators ∧
        OtherLoopsKept n s u ∧ u.settings.profiles = s.settings.profiles ∧ u.settings.tones = s.settings.tones ∧
        u.setting n = { enabled := param b 0x09 == 1, profile := i, cls } ∧
        (∀ m, m ≠ n → u.setting m = s.setting m) ∧
        (param b 0x09 = 1 → (s.line n).state = .disabled →
          (u.line n).state = .idle ∧ (u.line n).answered = false ∧ (u.line n).bound = none ∧
          (u.classifier n).waiting = true ∧ (u.classifier n).accepted = (s.classifier n).accepted ∧
          (s.slotPath.lineHw.present = false → (u.classifier n).pulse = .steadyOpen) ∧
          (u.line n).seizureId = (s.line n).seizureId ∧
          u.pool = s.pool ∧ u.writer = s.writer) ∧
        (param b 0x09 = 1 → (s.line n).state ≠ .disabled → u.lines = s.lines ∧ u.classifiers = s.classifiers ∧
          u.pool = s.pool ∧ u.writer = s.writer) ∧
        (param b 0x09 = 0 → (s.line n).state = .disabled → u.lines = s.lines ∧ u.classifiers = s.classifiers ∧
          u.pool = s.pool ∧ u.writer = s.writer) ∧
        (param b 0x09 = 0 → (s.line n).state ≠ .disabled →
          (u.line n).state = .disabled ∧ (u.line n).bound = none ∧ (u.line n).queue = [] ∧ (u.line n).number = [] ∧
          (u.line n).boundBank = none ∧ (u.line n).draft = .none ∧ isWaiting u n = false ∧
          ∀ d, (s.line n).draft = .opened d → ClosedInto s u n d .disabled))

/-- R86, R102, R103, R138, R169: the loads begin: parameters are checked, LOAD_PLAN sets its target LOADING and empty,
and the first record or entry is read; a refused read ends the order WINDOW_FAULT, for LOAD_PLAN with the target EMPTY
again. A LOAD_PLAN refused for its count names its target too (log 16, the model's choice). Details a result does not
fill are 0 (log 34, the model's choice). -/
def Obligations.LoadsBegin : Prop :=
  (∀ (b : OrderBody) (s : State) (c : CurrentOrder), s.executing c → b.code = 0x05 →
    ∃ u, exec (.loadProfile b) s = .next (epilogue u) ∧ u.lines = s.lines ∧ u.settings = s.settings ∧ u.plan = s.plan ∧
      (8 ≤ param b 0x08 → OrderUnitOnly s u ∧ Answered s u .badParameter { field := 0x08 }) ∧
      (∀ i : ProfileNo, param b 0x08 = i.val → accessAllowed s.port.windows (paramAddress b 0x0C) 64 false = true →
        OrderUnitOnly s u ∧ u.orders.state = .executing ∧
        u.orders.current = some { c with body := some b, work := .loadProfile i } ∧
        u.port.waitOrder = some (readAccess s .profileRead (paramAddress b 0x0C) 64)) ∧
      (param b 0x08 < 8 → accessAllowed s.port.windows (paramAddress b 0x0C) 64 false = false →
        Raised .windowFault s.control u.control ∧
        Answered s u .windowFault { address := (paramAddress b 0x0C).toNat, kind := 0 })) ∧
  (∀ (b : OrderBody) (s : State) (c : CurrentOrder), s.executing c → b.code = 0x06 →
    ∃ u, exec (.loadTones b) s = .next (epilogue u) ∧ u.lines = s.lines ∧ u.settings = s.settings ∧ u.plan = s.plan ∧
      (accessAllowed s.port.windows (paramAddress b 0x0C) 8 false = true →
        OrderUnitOnly s u ∧ u.orders.state = .executing ∧
        u.orders.current = some { c with body := some b, work := .loadTones (paramAddress b 0x0C) [] } ∧
        u.port.waitOrder = some (readAccess s .toneRead (paramAddress b 0x0C) 8)) ∧
      (accessAllowed s.port.windows (paramAddress b 0x0C) 8 false = false →
        Raised .windowFault s.control u.control ∧
        Answered s u .windowFault { address := (paramAddress b 0x0C).toNat, kind := 0 })) ∧
  (∀ (b : OrderBody) (s : State) (c : CurrentOrder) (target : BankNo), s.executing c → b.code = 0x07 →
    target ≠ s.plan.active →
    ∃ u, exec (.loadPlan b) s = .next (epilogue u) ∧ u.lines = s.lines ∧ u.settings = s.settings ∧
      u.plan.active = s.plan.active ∧ u.bank s.plan.active = s.bank s.plan.active ∧
      ((paramHalf b 0x08 = 0 ∨ 128 < paramHalf b 0x08) →
        OrderUnitOnly s u ∧ Answered s u .badParameter { field := 0x08, bank := target.val }) ∧
      (1 ≤ paramHalf b 0x08 → paramHalf b 0x08 ≤ 128 → 0 < (s.bank target).refCount →
        OrderUnitOnly s u ∧
        Answered s u .planInUse { bank := target.val, refCount := (s.bank target).refCount }) ∧
      (1 ≤ paramHalf b 0x08 → paramHalf b 0x08 ≤ 128 → (s.bank target).refCount = 0 →
        accessAllowed s.port.windows (paramAddress b 0x0C) 32 false = true →
        u.control = s.control ∧ u.bank target = { state := .loading, entries := [], refCount := 0 } ∧
        u.orders.current
          = some { c with body := some b, work := .loadPlan (paramAddress b 0x0C) target (paramHalf b 0x08) } ∧
        u.port.waitOrder = some (readAccess s .planRead (paramAddress b 0x0C) 32)) ∧
      (1 ≤ paramHalf b 0x08 → paramHalf b 0x08 ≤ 128 → (s.bank target).refCount = 0 →
        accessAllowed s.port.windows (paramAddress b 0x0C) 32 false = false →
        u.bank target = { state := .empty, entries := [], refCount := 0 } ∧
        Raised .windowFault s.control u.control ∧
        Answered s u .windowFault { address := (paramAddress b 0x0C).toNat, kind := 0 }))

/-- R86, R103, R104, R105, R138, R139, R169: what a load's read brings: a profile record, and the last tone entry, are
installed with OK; an entry that passes is kept and the next is read, or, where the window check refuses that read,
the order ends WINDOW_FAULT with its address and index and the cause raised; a field that fails ends the order
BAD_PARAMETER with the field and the index. A load that does not end OK installs nothing, a plan bank being left
EMPTY. An array field is named by its first byte's offset (log 16, the model's choice), and entry addresses are sums
in 32 bits (log 23, the model's inference). Details a result does not fill are 0 (log 34, the model's choice). -/
def Obligations.TableReadsDone : Prop :=
  (∀ (r : ProfileBytes) (s : State) (c : CurrentOrder) (i : ProfileNo), s.onBus .profileRead = true → s.working c →
    c.work = .loadProfile i →
    ∃ u, exec (.profileReadDone r) s = .next (epilogue u) ∧ u.control = s.control ∧ u.lines = s.lines ∧
      u.plan = s.plan ∧ u.settings.tones = s.settings.tones ∧ u.settings.lines = s.settings.lines ∧
      (∀ field, firstFailure (profileChecks r.toList) = some field →
        u.settings = s.settings ∧ Answered s u .badParameter { field }) ∧
      (firstFailure (profileChecks r.toList) = none → Answered s u .ok {} ∧
        u.settings.profiles.get i = profileOf r.toList ∧ (profileOf r.toList).Legal ∧
        ∀ j, j ≠ i → u.settings.profiles.get j = s.settings.profiles.get j)) ∧
  (∀ (r : ToneBytes) (s : State) (c : CurrentOrder) (source : Word) (passed : List ToneFields),
    s.onBus .toneRead = true → s.working c → c.work = .loadTones source passed →
    ∃ u, exec (.toneEntryReadDone r) s = .next (epilogue u) ∧ u.lines = s.lines ∧
      u.plan = s.plan ∧ u.settings.profiles = s.settings.profiles ∧ u.settings.lines = s.settings.lines ∧
      (∀ field, firstFailure (toneChecks r.toList) = some field → u.control = s.control ∧ u.settings = s.settings ∧
        Answered s u .badParameter { field, index := passed.length }) ∧
      (firstFailure (toneChecks r.toList) = none → passed.length < 15 →
        accessAllowed s.port.windows (source + BitVec.ofNat 32 (8 * (passed.length + 1))) 8 false = true →
        OrderUnitOnly s u ∧
        u.orders.current = some { c with work := .loadTones source (passed ++ [toneFields r.toList]) } ∧
        u.port.waitOrder
          = some (readAccess s .toneRead (source + BitVec.ofNat 32 (8 * (passed.length + 1))) 8)) ∧
      (firstFailure (toneChecks r.toList) = none → passed.length < 15 →
        accessAllowed s.port.windows (source + BitVec.ofNat 32 (8 * (passed.length + 1))) 8 false = false →
        Raised .windowFault s.control u.control ∧ u.settings = s.settings ∧
        Answered s u .windowFault
          { address := (source + BitVec.ofNat 32 (8 * (passed.length + 1))).toNat, kind := 0,
            index := passed.length + 1 }) ∧
      (firstFailure (toneChecks r.toList) = none → passed.length = 15 → Answered s u .ok {} ∧
        ∀ (j : Fin 16) (f : ToneFields), (passed ++ [toneFields r.toList])[j.val]? = some f →
          u.settings.tones.get j = toneEntry f.lowHz f.highHz f.lowAmp f.highAmp)) ∧
  (∀ (r : PlanBytes) (s : State) (c : CurrentOrder) (source : Word) (target : BankNo) (count : Nat),
    s.onBus .planRead = true → s.working c → c.work = .loadPlan source target count →
    ∃ u, exec (.planEntryReadDone r) s = .next (epilogue u) ∧ u.lines = s.lines ∧ u.settings = s.settings ∧
      u.plan.active = s.plan.active ∧ (∀ b, b ≠ target → u.bank b = s.bank b) ∧
      (∀ field, firstFailure (planChecks r.toList (s.bank target).entries) = some field →
        (u.bank target).state = .empty ∧ (u.bank target).entries = [] ∧ u.control = s.control ∧
        Answered s u .badParameter { field, bank := target.val, index := (s.bank target).entries.length }) ∧
      (firstFailure (planChecks r.toList (s.bank target).entries) = none →
        (s.bank target).entries.length + 1 < count →
        accessAllowed s.port.windows (source + BitVec.ofNat 32 (32 * ((s.bank target).entries.length + 1))) 32 false
          = true →
        u.bank target = { s.bank target with entries := (s.bank target).entries ++ [planEntryOf r.toList] } ∧
        u.orders = s.orders ∧ u.control = s.control ∧
        u.port.waitOrder = some (readAccess s .planRead
          (source + BitVec.ofNat 32 (32 * ((s.bank target).entries.length + 1))) 32)) ∧
      (firstFailure (planChecks r.toList (s.bank target).entries) = none →
        (s.bank target).entries.length + 1 < count →
        accessAllowed s.port.windows (source + BitVec.ofNat 32 (32 * ((s.bank target).entries.length + 1))) 32 false
          = false →
        (u.bank target).state = .empty ∧ (u.bank target).entries = [] ∧ Raised .windowFault s.control u.control ∧
        Answered s u .windowFault
          { address := (source + BitVec.ofNat 32 (32 * ((s.bank target).entries.length + 1))).toNat, kind := 0,
            index := (s.bank target).entries.length + 1 }) ∧
      (firstFailure (planChecks r.toList (s.bank target).entries) = none →
        count ≤ (s.bank target).entries.length + 1 →
        (u.bank target).state = .staged ∧
        (u.bank target).entries = (s.bank target).entries ++ [planEntryOf r.toList] ∧ u.control = s.control ∧
        Answered s u .ok { bank := target.val, index := count }))

/-- R106: SWITCH_PLAN makes a STAGED bank active in one step, the former becoming INACTIVE_LOADED if it was ACTIVE,
and answers the new bank and the former's reference count; with the other bank not STAGED nothing changes but the
answer NOT_STAGED. Details a result does not fill are 0 (log 34, the model's choice). -/
def Obligations.SwitchPlan : Prop :=
  ∀ (b : OrderBody) (s : State) (c : CurrentOrder) (other : BankNo), s.executing c → b.code = 0x08 →
    other ≠ s.plan.active →
    ∃ u, exec (.switchPlan b) s = .next (epilogue u) ∧ u.control = s.control ∧ u.lines = s.lines ∧
      u.settings = s.settings ∧ u.pool = s.pool ∧
      ((s.bank other).state = .staged →
        u.plan.active = other ∧ u.bank other = { s.bank other with state := .active } ∧
        (u.bank s.plan.active).entries = (s.bank s.plan.active).entries ∧
        (u.bank s.plan.active).refCount = (s.bank s.plan.active).refCount ∧
        ((s.bank s.plan.active).state = .active → (u.bank s.plan.active).state = .inactiveLoaded) ∧
        ((s.bank s.plan.active).state ≠ .active → (u.bank s.plan.active).state = (s.bank s.plan.active).state) ∧
        Answered s u .ok { bank := other.val, refCount := (s.bank s.plan.active).refCount }) ∧
      ((s.bank other).state ≠ .staged → OrderUnitOnly s u ∧
        Answered s u .notStaged { bank := other.val, state := (s.bank other).state.code })

/-- R127, R128: SEND_TONES checks its parameters in order, refuses a line that is not SEIZED or CONVERTING and a queue
without room, and otherwise appends its symbols as ORDER entries of its slot and stands IN_PROGRESS, a SEIZED line
becoming CONVERTING with no draft opened. A symbol that is no tone is named by the offset of the first one's byte (log
16, the model's choice). Details a result does not fill are 0 (log 34, the model's choice). -/
def Obligations.SendTones : Prop :=
  ∀ (b : OrderBody) (s : State) (c : CurrentOrder), s.executing c → b.code = 0x09 →
    ∃ u, exec (.sendTones b) s = .next (epilogue u) ∧
      (64 ≤ param b 0x08 → OrderUnitOnly s u ∧ Answered s u .badParameter { field := 0x08 }) ∧
      (param b 0x08 < 64 → classOfCode (param b 0x09) = none →
        OrderUnitOnly s u ∧ Answered s u .badParameter { field := 0x09 }) ∧
      (param b 0x08 < 64 → classOfCode (param b 0x09) ≠ none → (param b 0x0A = 0 ∨ 24 < param b 0x0A) →
        OrderUnitOnly s u ∧ Answered s u .badParameter { field := 0x0A }) ∧
      (param b 0x08 < 64 → classOfCode (param b 0x09) ≠ none → 1 ≤ param b 0x0A → param b 0x0A ≤ 24 →
        (∃ i, i < param b 0x0A ∧ 16 ≤ param b (0x10 + i)) →
        OrderUnitOnly s u ∧ Answered s u .badParameter { field := 0x10 }) ∧
      (∀ (n : LineNo) (cls : ServiceClass) (symbols : List Tone), param b 0x08 = n.val →
        classOfCode (param b 0x09) = some cls → 1 ≤ param b 0x0A → param b 0x0A ≤ 24 →
        sendSymbols b (param b 0x0A) = symbols.map some →
        (((s.line n).state = .disabled ∨ (s.line n).state = .idle ∨ (s.line n).state = .lockout) →
          OrderUnitOnly s u ∧ Answered s u .lineNotReady { state := (s.line n).state.code }) ∧
        (((s.line n).state = .collecting ∨ (s.line n).state = .sending) →
          OrderUnitOnly s u ∧ Answered s u .lineBusy { state := (s.line n).state.code }) ∧
        (((s.line n).state = .seized ∨ (s.line n).state = .converting) →
          32 < (s.line n).queue.length + symbols.length → (s.line n).queue.length ≤ 32 →
          OrderUnitOnly s u ∧ Answered s u .queueFull { free := 32 - (s.line n).queue.length }) ∧
        (((s.line n).state = .seized ∨ (s.line n).state = .converting) →
          (s.line n).queue.length + symbols.length ≤ 32 →
          HostSideKept s u ∧ u.classifiers = s.classifiers ∧ u.estimators = s.estimators ∧ u.plan = s.plan ∧
          u.orders.state = .inProgress ∧
          u.orders.current = some
            { c with body := some b, work := .sendTones n cls symbols.length 0 false, progressed := true } ∧
          (u.line n).state = .converting ∧ (u.line n).draft = (s.line n).draft ∧
          (u.line n).queue.map QueueEntry.what
            = (s.line n).queue.map QueueEntry.what ++ symbols.map (fun t => (t, Origin.order c.slot)) ∧
          ((s.line n).state = .seized → (u.line n).timer .firstDigit = .stopped)))

/-! ### The record writer and the memory port -/

/-- R157, R158, R159, R162: the record writer's completions: a free slot gets the body of the head draft with the
current sequence number; a full slot passes the search on, and after N slots the writer parks, raising RECORD_PARKED
unless it was a parked writer's retry, or in STOPPING drops the head and counts it; the body is followed by FILLED,
and FILLED by the removal of the head, the next sequence number, the cursor beyond the slot, and RECORD_WRITTEN. Slot
addresses are sums in 32 bits (log 23, the model's inference). -/
def Obligations.RecordWrites : Prop :=
  (∀ (mark : Word) (s : State) (d : ClosedDraft) (rest : List ClosedDraft), s.onBus .recordMarkRead = true →
    s.writer.fifo = d :: rest →
    ∃ u, exec (.recordMarkReadDone mark) s = .next (epilogue u) ∧ u.lines = s.lines ∧ u.settings = s.settings ∧
      u.orders = s.orders ∧ u.port.inFlight = none ∧
      (mark = 0 → u.control = s.control ∧ u.writer.state = .writingBody ∧ u.writer.chosen = s.writer.searchSlot ∧
        u.writer.fifo = s.writer.fifo ∧ u.writer.sequence = s.writer.sequence ∧
        u.port.waitWriter = some (writeAccess s .recordBodyWrite (recordSlot s.writer s.writer.searchSlot + 4)
          (recordBody s.writer.sequence d))) ∧
      (mark ≠ 0 → s.writer.examined + 1 < s.writer.slots → u.control = s.control ∧
        u.writer = { s.writer with examined := s.writer.examined + 1 } ∧
        u.port.waitWriter = some (readAccess s .recordMarkRead
          (recordSlot s.writer ((s.writer.cursor + (s.writer.examined + 1)) % s.writer.slots)) 4)) ∧
      (mark ≠ 0 → s.writer.slots ≤ s.writer.examined + 1 → s.running = true →
        u.writer.state = .parked ∧ u.writer.fifo = s.writer.fifo ∧ u.writer.cursor = s.writer.cursor ∧
        (s.writer.retry = false → Raised .recordParked s.control u.control) ∧
        (s.writer.retry = true → u.control = s.control)) ∧
      (mark ≠ 0 → s.writer.slots ≤ s.writer.examined + 1 → s.stopping = true →
        u.writer.fifo = rest ∧ u.writer.sequence = s.writer.sequence ∧
        u.control.recordsDropped = min 255 (s.control.recordsDropped + 1) ∧
        u.control.attention = s.control.attention ∧
        (rest = [] → u.writer.state = .idle) ∧ (rest ≠ [] → u.writer.state = .searching ∧ u.writer.examined = 0))) ∧
  (∀ s : State, s.onBus .recordBodyWrite = true →
    ∃ u, exec .recordBodyWriteDone s = .next (epilogue u) ∧ u.control = s.control ∧ u.lines = s.lines ∧
      u.orders = s.orders ∧ u.port.inFlight = none ∧ u.writer = { s.writer with state := .writingMark } ∧
      u.port.waitWriter
        = some (writeAccess s .recordMarkWrite (recordSlot s.writer s.writer.chosen) [0x01, 0x00, 0x00, 0x00])) ∧
  (∀ (s : State) (d : ClosedDraft) (rest : List ClosedDraft), s.onBus .recordMarkWrite = true →
    s.writer.fifo = d :: rest →
    ∃ u, exec .recordMarkWriteDone s = .next (epilogue u) ∧ u.lines = s.lines ∧ u.orders = s.orders ∧
      u.port.inFlight = none ∧ Raised .recordWritten s.control u.control ∧ u.writer.fifo = rest ∧
      u.writer.sequence = s.writer.sequence + 1 ∧
      u.writer.cursor = (s.writer.chosen + 1) % s.writer.slots ∧ (rest = [] → u.writer.state = .idle) ∧
      (rest ≠ [] → u.writer.state = .searching ∧ u.writer.examined = 0 ∧ u.writer.retry = false ∧
        u.port.waitWriter = some (readAccess s .recordMarkRead
          (recordSlot s.writer ((s.writer.chosen + 1) % s.writer.slots % s.writer.slots)) 4)))

/-- R170: the TOUCHED write of a window sets its touched flag and the data write behind it follows at once. R167,
R168, R185: the header read ends the start with the first failing check's code and every window unused, or installs
the header and takes the part into RUNNING with its counts at zero, every line IDLE or DISABLED by its enable with its
seizure id kept, every classifier waiting for a fresh start and the pool free. R179: a line that becomes IDLE so while
the line highway is lost shows STEADY_OPEN. -/
def Obligations.TouchedAndHeader : Prop :=
  (∀ (s : State) (a t : Access) (w : WindowNo), s.port.inFlight = some t → t.purpose = .touchedWrite →
    t.abandoned = none → t.window = some w → s.port.behind = some a → abortWaits s = false →
    ∃ u, exec .touchedWriteDone s = .next (epilogue u) ∧ u.control = s.control ∧ u.lines = s.lines ∧
      u.orders = s.orders ∧ u.writer = s.writer ∧ u.port.inFlight = some a ∧ u.port.behind = none ∧
      u.port.windows.get w = { s.port.windows.get w with touched := true } ∧
      ∀ x, x ≠ w → u.port.windows.get x = s.port.windows.get x) ∧
  (∀ (h : HeaderBytes) (s : State), s.onBus .headerRead = true →
    ∃ u, exec (.headerReadDone h) s = .next (epilogue u) ∧ u.settings = s.settings ∧ u.estimators = s.estimators ∧
      Raised .startResult s.control u.control ∧ u.control.run = s.control.run ∧
      u.control.stationBase = s.control.stationBase ∧
      (∀ code, headerFailure h.toList = some code →
        u.control.part = .startFailed ∧ u.control.result = code ∧ u.lines = s.lines ∧ u.plan = s.plan ∧
        ∀ w, (u.port.windows.get w).pages = 0) ∧
      (headerFailure h.toList = none →
        u.control.part = .running ∧ u.control.result = .ok ∧ u.slotPath.runClock = 0 ∧ u.slotPath.frameCount = 0 ∧
        u.slotPath.proceed = s.slotPath.proceed ∧ u.port.windows = headerWindows h.toList ∧
        u.orders.area.toNat = word h.toList 0x08 % 2 ^ 32 ∧ u.orders.slots = half h.toList 0x0C ∧
        u.orders.sweepInterval = byteAt h.toList 0x14 ∧ u.orders.cursor = 0 ∧ u.orders.state = .idle ∧
        u.orders.current = none ∧ u.orders.sweepTimer = 0 ∧ u.writer.fifo = [] ∧ u.writer.sequence = 0 ∧
        u.writer.cursor = 0 ∧ u.pool.reserve = byteAt h.toList 0x15 ∧ u.pool.waitList = [] ∧
        (∀ g, u.gen g = Generator.reset) ∧
        (∀ b, u.bank b = { s.bank b with refCount := 0 }) ∧ u.plan.active = s.plan.active ∧
        ∀ n, (u.line n).state = (if (s.setting n).enabled then .idle else .disabled) ∧
          (u.line n).seizureId = (s.line n).seizureId ∧ (u.line n).queue = [] ∧ (u.line n).draft = .none ∧
          (u.line n).pendingUnrecorded = 0 ∧ (u.classifier n).waiting = true ∧
          (u.classifier n).accepted = (s.classifier n).accepted ∧ (u.line n).answered = false ∧
          ((s.setting n).enabled = true → s.slotPath.lineHw.present = false →
            (u.classifier n).pulse = .steadyOpen)))

/-- R92, R161, R163, R166, R171, R177, R183, R184, R186: a host-bus error: in STARTING the start fails with
MEMORY_ERROR; in RUNNING and STOPPING the part stops with that cause, MEMORY_ERROR raised, no access left, no order
current, every line torn down and every draft dropped, and of the plan banks only one that is LOADING loses its
entries. On a header read abandoned by RUN written 0 it raises MEMORY_ERROR and changes nothing else; such a read that
completes changes nothing. The model's choices: that the first is so in a new STARTING too, and that on an access
abandoned by a hold reset it changes nothing (log 11); that with no access on the bus it changes nothing (log 3); and
that an error in STARTING keeps the window table (log 22). -/
def Obligations.HostBusError : Prop :=
  ∀ s : State,
    (s.port.inFlight = none → exec .hostBusError s = .next (epilogue s)) ∧
    (∀ a why, s.port.inFlight = some a → a.abandoned = some why →
      exec .hostBusError s = .next (epilogue (if why = .byRunCleared then raise .memoryError (freeBus s) else freeBus s))) ∧
    (∀ h a, s.port.inFlight = some a → a.purpose = .headerRead → a.abandoned.isSome = true →
      exec (.headerReadDone h) s = .next (epilogue (freeBus s))) ∧
    ((∃ a, s.port.inFlight = some a ∧ a.abandoned = none) → s.control.part = .starting →
      ∃ u, exec .hostBusError s = .next (epilogue u) ∧ u.control.part = .startFailed ∧
        u.control.result = .memoryError ∧ u.control.run = s.control.run ∧ u.lines = s.lines ∧
        u.settings = s.settings ∧ u.port.windows = s.port.windows ∧ u.port.inFlight = none ∧
        (s.control.attentionMask.getLsbD 1 = true → u.control.attention.get 0 = true) ∧
        (s.control.attentionMask.getLsbD 7 = true → u.control.attention.get 6 = true)) ∧
    ((∃ a, s.port.inFlight = some a ∧ a.abandoned = none) →
      (s.control.part = .running ∨ s.control.part = .stopping) →
      ∃ u, exec .hostBusError s = .next (epilogue u) ∧ u.control.part = .stopping ∧
        u.control.result = .memoryError ∧ (s.control.part = .running → u.control.run = false) ∧
        (s.control.part = .stopping → u.control.run = s.control.run) ∧
        Raised .memoryError s.control u.control ∧ u.settings = s.settings ∧ u.port.quiet = true ∧
        u.orders.current = none ∧ u.writer.fifo = [] ∧ u.writer.sequence = s.writer.sequence ∧
        (s.writer.fifo.length ≤ 255 → s.control.part = .running →
          s.writer.fifo.length ≤ u.control.recordsDropped) ∧
        u.control.recordsDropped ≤ 255 ∧
        (∀ b, (s.bank b).state ≠ .loading →
          (u.bank b).state = (s.bank b).state ∧ (u.bank b).entries = (s.bank b).entries) ∧
        ∀ n, (u.line n).state.seizedOn = false)
end

