-- ==== Sys2Proof/Laws/State.lean ====
section
/-! SUPPORT. One lemma per field per named update of the state, and the named reads in terms of the fields. -/

namespace Sys2Proof.Machine

/-! ### Named reads -/

@[simp] theorem State.line_def (s : State) (n : LineNo) : s.line n = s.lines.get n := rfl
@[simp] theorem State.classifier_def (s : State) (n : LineNo) : s.classifier n = s.classifiers.get n := rfl
@[simp] theorem State.estimator_def (s : State) (n : LineNo) : s.estimator n = s.estimators.get n := rfl
@[simp] theorem State.gen_def (s : State) (g : GenNo) : s.gen g = s.pool.gens.get g := rfl
@[simp] theorem State.setting_def (s : State) (n : LineNo) : s.setting n = s.settings.lines.get n := rfl
@[simp] theorem State.bank_def (s : State) (b : BankNo) : s.bank b = s.plan.banks.get b := rfl
@[simp] theorem State.running_def (s : State) : s.running = (s.control.part == .running) := rfl
@[simp] theorem State.stopping_def (s : State) : s.stopping = (s.control.part == .stopping) := rfl

/-! ### State.modControl -/

section
variable (s : State) (f : Control → Control)
@[simp] theorem State.modControl_pending : (s.modControl f).pending = s.pending := rfl
@[simp] theorem State.modControl_draws : (s.modControl f).draws = s.draws := rfl
@[simp] theorem State.modControl_control : (s.modControl f).control = f s.control := rfl
@[simp] theorem State.modControl_slotPath : (s.modControl f).slotPath = s.slotPath := rfl
@[simp] theorem State.modControl_classifiers : (s.modControl f).classifiers = s.classifiers := rfl
@[simp] theorem State.modControl_estimators : (s.modControl f).estimators = s.estimators := rfl
@[simp] theorem State.modControl_lines : (s.modControl f).lines = s.lines := rfl
@[simp] theorem State.modControl_settings : (s.modControl f).settings = s.settings := rfl
@[simp] theorem State.modControl_plan : (s.modControl f).plan = s.plan := rfl
@[simp] theorem State.modControl_pool : (s.modControl f).pool = s.pool := rfl
@[simp] theorem State.modControl_voices : (s.modControl f).voices = s.voices := rfl
@[simp] theorem State.modControl_writer : (s.modControl f).writer = s.writer := rfl
@[simp] theorem State.modControl_orders : (s.modControl f).orders = s.orders := rfl
@[simp] theorem State.modControl_port : (s.modControl f).port = s.port := rfl
end

/-! ### State.modSlotPath -/

section
variable (s : State) (f : SlotPath → SlotPath)
@[simp] theorem State.modSlotPath_pending : (s.modSlotPath f).pending = s.pending := rfl
@[simp] theorem State.modSlotPath_draws : (s.modSlotPath f).draws = s.draws := rfl
@[simp] theorem State.modSlotPath_control : (s.modSlotPath f).control = s.control := rfl
@[simp] theorem State.modSlotPath_slotPath : (s.modSlotPath f).slotPath = f s.slotPath := rfl
@[simp] theorem State.modSlotPath_classifiers : (s.modSlotPath f).classifiers = s.classifiers := rfl
@[simp] theorem State.modSlotPath_estimators : (s.modSlotPath f).estimators = s.estimators := rfl
@[simp] theorem State.modSlotPath_lines : (s.modSlotPath f).lines = s.lines := rfl
@[simp] theorem State.modSlotPath_settings : (s.modSlotPath f).settings = s.settings := rfl
@[simp] theorem State.modSlotPath_plan : (s.modSlotPath f).plan = s.plan := rfl
@[simp] theorem State.modSlotPath_pool : (s.modSlotPath f).pool = s.pool := rfl
@[simp] theorem State.modSlotPath_voices : (s.modSlotPath f).voices = s.voices := rfl
@[simp] theorem State.modSlotPath_writer : (s.modSlotPath f).writer = s.writer := rfl
@[simp] theorem State.modSlotPath_orders : (s.modSlotPath f).orders = s.orders := rfl
@[simp] theorem State.modSlotPath_port : (s.modSlotPath f).port = s.port := rfl
end

/-! ### State.modClassifier -/

section
variable (s : State) (n : LineNo) (f : Classifier → Classifier)
@[simp] theorem State.modClassifier_pending : (s.modClassifier n f).pending = s.pending := rfl
@[simp] theorem State.modClassifier_draws : (s.modClassifier n f).draws = s.draws := rfl
@[simp] theorem State.modClassifier_control : (s.modClassifier n f).control = s.control := rfl
@[simp] theorem State.modClassifier_slotPath : (s.modClassifier n f).slotPath = s.slotPath := rfl
@[simp] theorem State.modClassifier_classifiers : (s.modClassifier n f).classifiers = s.classifiers.set n (f (s.classifiers.get n)) := rfl
@[simp] theorem State.modClassifier_estimators : (s.modClassifier n f).estimators = s.estimators := rfl
@[simp] theorem State.modClassifier_lines : (s.modClassifier n f).lines = s.lines := rfl
@[simp] theorem State.modClassifier_settings : (s.modClassifier n f).settings = s.settings := rfl
@[simp] theorem State.modClassifier_plan : (s.modClassifier n f).plan = s.plan := rfl
@[simp] theorem State.modClassifier_pool : (s.modClassifier n f).pool = s.pool := rfl
@[simp] theorem State.modClassifier_voices : (s.modClassifier n f).voices = s.voices := rfl
@[simp] theorem State.modClassifier_writer : (s.modClassifier n f).writer = s.writer := rfl
@[simp] theorem State.modClassifier_orders : (s.modClassifier n f).orders = s.orders := rfl
@[simp] theorem State.modClassifier_port : (s.modClassifier n f).port = s.port := rfl
end

/-! ### State.modEstimator -/

section
variable (s : State) (n : LineNo) (f : Estimator → Estimator)
@[simp] theorem State.modEstimator_pending : (s.modEstimator n f).pending = s.pending := rfl
@[simp] theorem State.modEstimator_draws : (s.modEstimator n f).draws = s.draws := rfl
@[simp] theorem State.modEstimator_control : (s.modEstimator n f).control = s.control := rfl
@[simp] theorem State.modEstimator_slotPath : (s.modEstimator n f).slotPath = s.slotPath := rfl
@[simp] theorem State.modEstimator_classifiers : (s.modEstimator n f).classifiers = s.classifiers := rfl
@[simp] theorem State.modEstimator_estimators : (s.modEstimator n f).estimators = s.estimators.set n (f (s.estimators.get n)) := rfl
@[simp] theorem State.modEstimator_lines : (s.modEstimator n f).lines = s.lines := rfl
@[simp] theorem State.modEstimator_settings : (s.modEstimator n f).settings = s.settings := rfl
@[simp] theorem State.modEstimator_plan : (s.modEstimator n f).plan = s.plan := rfl
@[simp] theorem State.modEstimator_pool : (s.modEstimator n f).pool = s.pool := rfl
@[simp] theorem State.modEstimator_voices : (s.modEstimator n f).voices = s.voices := rfl
@[simp] theorem State.modEstimator_writer : (s.modEstimator n f).writer = s.writer := rfl
@[simp] theorem State.modEstimator_orders : (s.modEstimator n f).orders = s.orders := rfl
@[simp] theorem State.modEstimator_port : (s.modEstimator n f).port = s.port := rfl
end

/-! ### State.modLine -/

section
variable (s : State) (n : LineNo) (f : LineCtx → LineCtx)
@[simp] theorem State.modLine_pending : (s.modLine n f).pending = s.pending := rfl
@[simp] theorem State.modLine_draws : (s.modLine n f).draws = s.draws := rfl
@[simp] theorem State.modLine_control : (s.modLine n f).control = s.control := rfl
@[simp] theorem State.modLine_slotPath : (s.modLine n f).slotPath = s.slotPath := rfl
@[simp] theorem State.modLine_classifiers : (s.modLine n f).classifiers = s.classifiers := rfl
@[simp] theorem State.modLine_estimators : (s.modLine n f).estimators = s.estimators := rfl
@[simp] theorem State.modLine_lines : (s.modLine n f).lines = s.lines.set n (f (s.lines.get n)) := rfl
@[simp] theorem State.modLine_settings : (s.modLine n f).settings = s.settings := rfl
@[simp] theorem State.modLine_plan : (s.modLine n f).plan = s.plan := rfl
@[simp] theorem State.modLine_pool : (s.modLine n f).pool = s.pool := rfl
@[simp] theorem State.modLine_voices : (s.modLine n f).voices = s.voices := rfl
@[simp] theorem State.modLine_writer : (s.modLine n f).writer = s.writer := rfl
@[simp] theorem State.modLine_orders : (s.modLine n f).orders = s.orders := rfl
@[simp] theorem State.modLine_port : (s.modLine n f).port = s.port := rfl
end

/-! ### State.modSettings -/

section
variable (s : State) (f : Settings → Settings)
@[simp] theorem State.modSettings_pending : (s.modSettings f).pending = s.pending := rfl
@[simp] theorem State.modSettings_draws : (s.modSettings f).draws = s.draws := rfl
@[simp] theorem State.modSettings_control : (s.modSettings f).control = s.control := rfl
@[simp] theorem State.modSettings_slotPath : (s.modSettings f).slotPath = s.slotPath := rfl
@[simp] theorem State.modSettings_classifiers : (s.modSettings f).classifiers = s.classifiers := rfl
@[simp] theorem State.modSettings_estimators : (s.modSettings f).estimators = s.estimators := rfl
@[simp] theorem State.modSettings_lines : (s.modSettings f).lines = s.lines := rfl
@[simp] theorem State.modSettings_settings : (s.modSettings f).settings = f s.settings := rfl
@[simp] theorem State.modSettings_plan : (s.modSettings f).plan = s.plan := rfl
@[simp] theorem State.modSettings_pool : (s.modSettings f).pool = s.pool := rfl
@[simp] theorem State.modSettings_voices : (s.modSettings f).voices = s.voices := rfl
@[simp] theorem State.modSettings_writer : (s.modSettings f).writer = s.writer := rfl
@[simp] theorem State.modSettings_orders : (s.modSettings f).orders = s.orders := rfl
@[simp] theorem State.modSettings_port : (s.modSettings f).port = s.port := rfl
end

/-! ### State.modPlan -/

section
variable (s : State) (f : Plan → Plan)
@[simp] theorem State.modPlan_pending : (s.modPlan f).pending = s.pending := rfl
@[simp] theorem State.modPlan_draws : (s.modPlan f).draws = s.draws := rfl
@[simp] theorem State.modPlan_control : (s.modPlan f).control = s.control := rfl
@[simp] theorem State.modPlan_slotPath : (s.modPlan f).slotPath = s.slotPath := rfl
@[simp] theorem State.modPlan_classifiers : (s.modPlan f).classifiers = s.classifiers := rfl
@[simp] theorem State.modPlan_estimators : (s.modPlan f).estimators = s.estimators := rfl
@[simp] theorem State.modPlan_lines : (s.modPlan f).lines = s.lines := rfl
@[simp] theorem State.modPlan_settings : (s.modPlan f).settings = s.settings := rfl
@[simp] theorem State.modPlan_plan : (s.modPlan f).plan = f s.plan := rfl
@[simp] theorem State.modPlan_pool : (s.modPlan f).pool = s.pool := rfl
@[simp] theorem State.modPlan_voices : (s.modPlan f).voices = s.voices := rfl
@[simp] theorem State.modPlan_writer : (s.modPlan f).writer = s.writer := rfl
@[simp] theorem State.modPlan_orders : (s.modPlan f).orders = s.orders := rfl
@[simp] theorem State.modPlan_port : (s.modPlan f).port = s.port := rfl
end

/-! ### State.modBank -/

section
variable (s : State) (b : BankNo) (f : Bank → Bank)
@[simp] theorem State.modBank_pending : (s.modBank b f).pending = s.pending := rfl
@[simp] theorem State.modBank_draws : (s.modBank b f).draws = s.draws := rfl
@[simp] theorem State.modBank_control : (s.modBank b f).control = s.control := rfl
@[simp] theorem State.modBank_slotPath : (s.modBank b f).slotPath = s.slotPath := rfl
@[simp] theorem State.modBank_classifiers : (s.modBank b f).classifiers = s.classifiers := rfl
@[simp] theorem State.modBank_estimators : (s.modBank b f).estimators = s.estimators := rfl
@[simp] theorem State.modBank_lines : (s.modBank b f).lines = s.lines := rfl
@[simp] theorem State.modBank_settings : (s.modBank b f).settings = s.settings := rfl
@[simp] theorem State.modBank_plan : (s.modBank b f).plan = { s.plan with banks := s.plan.banks.set b (f (s.plan.banks.get b)) } := rfl
@[simp] theorem State.modBank_pool : (s.modBank b f).pool = s.pool := rfl
@[simp] theorem State.modBank_voices : (s.modBank b f).voices = s.voices := rfl
@[simp] theorem State.modBank_writer : (s.modBank b f).writer = s.writer := rfl
@[simp] theorem State.modBank_orders : (s.modBank b f).orders = s.orders := rfl
@[simp] theorem State.modBank_port : (s.modBank b f).port = s.port := rfl
end

/-! ### State.modPool -/

section
variable (s : State) (f : Pool → Pool)
@[simp] theorem State.modPool_pending : (s.modPool f).pending = s.pending := rfl
@[simp] theorem State.modPool_draws : (s.modPool f).draws = s.draws := rfl
@[simp] theorem State.modPool_control : (s.modPool f).control = s.control := rfl
@[simp] theorem State.modPool_slotPath : (s.modPool f).slotPath = s.slotPath := rfl
@[simp] theorem State.modPool_classifiers : (s.modPool f).classifiers = s.classifiers := rfl
@[simp] theorem State.modPool_estimators : (s.modPool f).estimators = s.estimators := rfl
@[simp] theorem State.modPool_lines : (s.modPool f).lines = s.lines := rfl
@[simp] theorem State.modPool_settings : (s.modPool f).settings = s.settings := rfl
@[simp] theorem State.modPool_plan : (s.modPool f).plan = s.plan := rfl
@[simp] theorem State.modPool_pool : (s.modPool f).pool = f s.pool := rfl
@[simp] theorem State.modPool_voices : (s.modPool f).voices = s.voices := rfl
@[simp] theorem State.modPool_writer : (s.modPool f).writer = s.writer := rfl
@[simp] theorem State.modPool_orders : (s.modPool f).orders = s.orders := rfl
@[simp] theorem State.modPool_port : (s.modPool f).port = s.port := rfl
end

/-! ### State.modGen -/

section
variable (s : State) (g : GenNo) (f : Generator → Generator)
@[simp] theorem State.modGen_pending : (s.modGen g f).pending = s.pending := rfl
@[simp] theorem State.modGen_draws : (s.modGen g f).draws = s.draws := rfl
@[simp] theorem State.modGen_control : (s.modGen g f).control = s.control := rfl
@[simp] theorem State.modGen_slotPath : (s.modGen g f).slotPath = s.slotPath := rfl
@[simp] theorem State.modGen_classifiers : (s.modGen g f).classifiers = s.classifiers := rfl
@[simp] theorem State.modGen_estimators : (s.modGen g f).estimators = s.estimators := rfl
@[simp] theorem State.modGen_lines : (s.modGen g f).lines = s.lines := rfl
@[simp] theorem State.modGen_settings : (s.modGen g f).settings = s.settings := rfl
@[simp] theorem State.modGen_plan : (s.modGen g f).plan = s.plan := rfl
@[simp] theorem State.modGen_pool : (s.modGen g f).pool = { s.pool with gens := s.pool.gens.set g (f (s.pool.gens.get g)) } := rfl
@[simp] theorem State.modGen_voices : (s.modGen g f).voices = s.voices := rfl
@[simp] theorem State.modGen_writer : (s.modGen g f).writer = s.writer := rfl
@[simp] theorem State.modGen_orders : (s.modGen g f).orders = s.orders := rfl
@[simp] theorem State.modGen_port : (s.modGen g f).port = s.port := rfl
end

/-! ### State.modVoice -/

section
variable (s : State) (g : GenNo) (f : Voice → Voice)
@[simp] theorem State.modVoice_pending : (s.modVoice g f).pending = s.pending := rfl
@[simp] theorem State.modVoice_draws : (s.modVoice g f).draws = s.draws := rfl
@[simp] theorem State.modVoice_control : (s.modVoice g f).control = s.control := rfl
@[simp] theorem State.modVoice_slotPath : (s.modVoice g f).slotPath = s.slotPath := rfl
@[simp] theorem State.modVoice_classifiers : (s.modVoice g f).classifiers = s.classifiers := rfl
@[simp] theorem State.modVoice_estimators : (s.modVoice g f).estimators = s.estimators := rfl
@[simp] theorem State.modVoice_lines : (s.modVoice g f).lines = s.lines := rfl
@[simp] theorem State.modVoice_settings : (s.modVoice g f).settings = s.settings := rfl
@[simp] theorem State.modVoice_plan : (s.modVoice g f).plan = s.plan := rfl
@[simp] theorem State.modVoice_pool : (s.modVoice g f).pool = s.pool := rfl
@[simp] theorem State.modVoice_voices : (s.modVoice g f).voices = s.voices.set g (f (s.voices.get g)) := rfl
@[simp] theorem State.modVoice_writer : (s.modVoice g f).writer = s.writer := rfl
@[simp] theorem State.modVoice_orders : (s.modVoice g f).orders = s.orders := rfl
@[simp] theorem State.modVoice_port : (s.modVoice g f).port = s.port := rfl
end

/-! ### State.modWriter -/

section
variable (s : State) (f : Writer → Writer)
@[simp] theorem State.modWriter_pending : (s.modWriter f).pending = s.pending := rfl
@[simp] theorem State.modWriter_draws : (s.modWriter f).draws = s.draws := rfl
@[simp] theorem State.modWriter_control : (s.modWriter f).control = s.control := rfl
@[simp] theorem State.modWriter_slotPath : (s.modWriter f).slotPath = s.slotPath := rfl
@[simp] theorem State.modWriter_classifiers : (s.modWriter f).classifiers = s.classifiers := rfl
@[simp] theorem State.modWriter_estimators : (s.modWriter f).estimators = s.estimators := rfl
@[simp] theorem State.modWriter_lines : (s.modWriter f).lines = s.lines := rfl
@[simp] theorem State.modWriter_settings : (s.modWriter f).settings = s.settings := rfl
@[simp] theorem State.modWriter_plan : (s.modWriter f).plan = s.plan := rfl
@[simp] theorem State.modWriter_pool : (s.modWriter f).pool = s.pool := rfl
@[simp] theorem State.modWriter_voices : (s.modWriter f).voices = s.voices := rfl
@[simp] theorem State.modWriter_writer : (s.modWriter f).writer = f s.writer := rfl
@[simp] theorem State.modWriter_orders : (s.modWriter f).orders = s.orders := rfl
@[simp] theorem State.modWriter_port : (s.modWriter f).port = s.port := rfl
end

/-! ### State.modOrders -/

section
variable (s : State) (f : Orders → Orders)
@[simp] theorem State.modOrders_pending : (s.modOrders f).pending = s.pending := rfl
@[simp] theorem State.modOrders_draws : (s.modOrders f).draws = s.draws := rfl
@[simp] theorem State.modOrders_control : (s.modOrders f).control = s.control := rfl
@[simp] theorem State.modOrders_slotPath : (s.modOrders f).slotPath = s.slotPath := rfl
@[simp] theorem State.modOrders_classifiers : (s.modOrders f).classifiers = s.classifiers := rfl
@[simp] theorem State.modOrders_estimators : (s.modOrders f).estimators = s.estimators := rfl
@[simp] theorem State.modOrders_lines : (s.modOrders f).lines = s.lines := rfl
@[simp] theorem State.modOrders_settings : (s.modOrders f).settings = s.settings := rfl
@[simp] theorem State.modOrders_plan : (s.modOrders f).plan = s.plan := rfl
@[simp] theorem State.modOrders_pool : (s.modOrders f).pool = s.pool := rfl
@[simp] theorem State.modOrders_voices : (s.modOrders f).voices = s.voices := rfl
@[simp] theorem State.modOrders_writer : (s.modOrders f).writer = s.writer := rfl
@[simp] theorem State.modOrders_orders : (s.modOrders f).orders = f s.orders := rfl
@[simp] theorem State.modOrders_port : (s.modOrders f).port = s.port := rfl
end

/-! ### State.modPort -/

section
variable (s : State) (f : Port → Port)
@[simp] theorem State.modPort_pending : (s.modPort f).pending = s.pending := rfl
@[simp] theorem State.modPort_draws : (s.modPort f).draws = s.draws := rfl
@[simp] theorem State.modPort_control : (s.modPort f).control = s.control := rfl
@[simp] theorem State.modPort_slotPath : (s.modPort f).slotPath = s.slotPath := rfl
@[simp] theorem State.modPort_classifiers : (s.modPort f).classifiers = s.classifiers := rfl
@[simp] theorem State.modPort_estimators : (s.modPort f).estimators = s.estimators := rfl
@[simp] theorem State.modPort_lines : (s.modPort f).lines = s.lines := rfl
@[simp] theorem State.modPort_settings : (s.modPort f).settings = s.settings := rfl
@[simp] theorem State.modPort_plan : (s.modPort f).plan = s.plan := rfl
@[simp] theorem State.modPort_pool : (s.modPort f).pool = s.pool := rfl
@[simp] theorem State.modPort_voices : (s.modPort f).voices = s.voices := rfl
@[simp] theorem State.modPort_writer : (s.modPort f).writer = s.writer := rfl
@[simp] theorem State.modPort_orders : (s.modPort f).orders = s.orders := rfl
@[simp] theorem State.modPort_port : (s.modPort f).port = f s.port := rfl
end

/-! ### State.draw -/

section
variable (s : State)
@[simp] theorem State.draw_pending : s.draw.pending = s.pending := rfl
@[simp] theorem State.draw_draws : s.draw.draws = s.draws + 1 := rfl
@[simp] theorem State.draw_control : s.draw.control = s.control := rfl
@[simp] theorem State.draw_slotPath : s.draw.slotPath = s.slotPath := rfl
@[simp] theorem State.draw_classifiers : s.draw.classifiers = s.classifiers := rfl
@[simp] theorem State.draw_estimators : s.draw.estimators = s.estimators := rfl
@[simp] theorem State.draw_lines : s.draw.lines = s.lines := rfl
@[simp] theorem State.draw_settings : s.draw.settings = s.settings := rfl
@[simp] theorem State.draw_plan : s.draw.plan = s.plan := rfl
@[simp] theorem State.draw_pool : s.draw.pool = s.pool := rfl
@[simp] theorem State.draw_voices : s.draw.voices = s.voices := rfl
@[simp] theorem State.draw_writer : s.draw.writer = s.writer := rfl
@[simp] theorem State.draw_orders : s.draw.orders = s.orders := rfl
@[simp] theorem State.draw_port : s.draw.port = s.port := rfl
end

end Sys2Proof.Machine
end

