-- ==== Sys2Proof/Laws/DraftFrames.lean ====
section
/-! SUPPORT. Which blocks the record writer's and the drafts' operations (Machine/Drafts.lean) leave unchanged. One lemma for each operation. -/

namespace Sys2Proof.Machine

@[simp] theorem raise_frame (k : Cause) (s : State) :
    (raise k s).pending = s.pending ∧ (raise k s).draws = s.draws ∧ (raise k s).slotPath = s.slotPath ∧
    (raise k s).classifiers = s.classifiers ∧ (raise k s).estimators = s.estimators ∧
    (raise k s).lines = s.lines ∧ (raise k s).settings = s.settings ∧ (raise k s).plan = s.plan ∧
    (raise k s).pool = s.pool ∧ (raise k s).voices = s.voices ∧ (raise k s).writer = s.writer ∧
    (raise k s).orders = s.orders ∧ (raise k s).port = s.port := by
  simp [raise]

@[simp] theorem readRecordMark_frame (s : State) :
    (readRecordMark s).pending = s.pending ∧ (readRecordMark s).draws = s.draws ∧
    (readRecordMark s).control = s.control ∧ (readRecordMark s).slotPath = s.slotPath ∧
    (readRecordMark s).classifiers = s.classifiers ∧ (readRecordMark s).estimators = s.estimators ∧
    (readRecordMark s).lines = s.lines ∧ (readRecordMark s).settings = s.settings ∧
    (readRecordMark s).plan = s.plan ∧ (readRecordMark s).pool = s.pool ∧
    (readRecordMark s).voices = s.voices ∧ (readRecordMark s).writer = s.writer ∧
    (readRecordMark s).orders = s.orders := by
  simp [readRecordMark]

@[simp] theorem beginPass_frame (r : Bool) (s : State) :
    (beginPass r s).pending = s.pending ∧ (beginPass r s).draws = s.draws ∧
    (beginPass r s).control = s.control ∧ (beginPass r s).slotPath = s.slotPath ∧
    (beginPass r s).classifiers = s.classifiers ∧ (beginPass r s).estimators = s.estimators ∧
    (beginPass r s).lines = s.lines ∧ (beginPass r s).settings = s.settings ∧ (beginPass r s).plan = s.plan ∧
    (beginPass r s).pool = s.pool ∧ (beginPass r s).voices = s.voices ∧ (beginPass r s).orders = s.orders := by
  unfold beginPass
  (repeat' split) <;> simp

@[simp] theorem joinFifo_frame (d : ClosedDraft) (s : State) :
    (joinFifo d s).pending = s.pending ∧ (joinFifo d s).draws = s.draws ∧ (joinFifo d s).control = s.control ∧
    (joinFifo d s).slotPath = s.slotPath ∧ (joinFifo d s).classifiers = s.classifiers ∧
    (joinFifo d s).estimators = s.estimators ∧ (joinFifo d s).lines = s.lines ∧
    (joinFifo d s).settings = s.settings ∧ (joinFifo d s).plan = s.plan ∧ (joinFifo d s).pool = s.pool ∧
    (joinFifo d s).voices = s.voices ∧ (joinFifo d s).orders = s.orders := by
  unfold joinFifo
  dsimp only
  (repeat' split) <;> simp

@[simp] theorem openDraft_frame (n : LineNo) (s : State) :
    (openDraft n s).pending = s.pending ∧ (openDraft n s).draws = s.draws ∧
    (openDraft n s).control = s.control ∧ (openDraft n s).slotPath = s.slotPath ∧
    (openDraft n s).classifiers = s.classifiers ∧ (openDraft n s).estimators = s.estimators ∧
    (openDraft n s).settings = s.settings ∧ (openDraft n s).plan = s.plan ∧ (openDraft n s).pool = s.pool ∧
    (openDraft n s).voices = s.voices ∧ (openDraft n s).writer = s.writer ∧ (openDraft n s).orders = s.orders ∧
    (openDraft n s).port = s.port := by
  simp [openDraft]

@[simp] theorem ensureDraft_frame (n : LineNo) (s : State) :
    (ensureDraft n s).pending = s.pending ∧ (ensureDraft n s).draws = s.draws ∧
    (ensureDraft n s).control = s.control ∧ (ensureDraft n s).slotPath = s.slotPath ∧
    (ensureDraft n s).classifiers = s.classifiers ∧ (ensureDraft n s).estimators = s.estimators ∧
    (ensureDraft n s).settings = s.settings ∧ (ensureDraft n s).plan = s.plan ∧
    (ensureDraft n s).pool = s.pool ∧ (ensureDraft n s).voices = s.voices ∧
    (ensureDraft n s).writer = s.writer ∧ (ensureDraft n s).orders = s.orders ∧ (ensureDraft n s).port = s.port := by
  unfold ensureDraft
  (repeat' split) <;> simp

@[simp] theorem closeDraft_frame (n : LineNo) (k : CloseCause) (s : State) :
    (closeDraft n k s).pending = s.pending ∧ (closeDraft n k s).draws = s.draws ∧
    (closeDraft n k s).control = s.control ∧ (closeDraft n k s).slotPath = s.slotPath ∧
    (closeDraft n k s).classifiers = s.classifiers ∧ (closeDraft n k s).estimators = s.estimators ∧
    (closeDraft n k s).settings = s.settings ∧ (closeDraft n k s).plan = s.plan ∧
    (closeDraft n k s).pool = s.pool ∧ (closeDraft n k s).voices = s.voices ∧
    (closeDraft n k s).orders = s.orders := by
  unfold closeDraft
  (repeat' split) <;> simp

@[simp] theorem inDraft_frame (n : LineNo) (f : Draft → Draft) (s : State) :
    (inDraft n f s).pending = s.pending ∧ (inDraft n f s).draws = s.draws ∧
    (inDraft n f s).control = s.control ∧ (inDraft n f s).slotPath = s.slotPath ∧
    (inDraft n f s).classifiers = s.classifiers ∧ (inDraft n f s).estimators = s.estimators ∧
    (inDraft n f s).settings = s.settings ∧ (inDraft n f s).plan = s.plan ∧ (inDraft n f s).pool = s.pool ∧
    (inDraft n f s).voices = s.voices ∧ (inDraft n f s).writer = s.writer ∧ (inDraft n f s).orders = s.orders ∧
    (inDraft n f s).port = s.port := by
  simp [inDraft]

@[simp] theorem portServe_frame (s : State) :
    (portServe s).pending = s.pending ∧ (portServe s).draws = s.draws ∧ (portServe s).control = s.control ∧
    (portServe s).slotPath = s.slotPath ∧ (portServe s).classifiers = s.classifiers ∧
    (portServe s).estimators = s.estimators ∧ (portServe s).lines = s.lines ∧
    (portServe s).settings = s.settings ∧ (portServe s).plan = s.plan ∧ (portServe s).pool = s.pool ∧
    (portServe s).voices = s.voices ∧ (portServe s).writer = s.writer ∧ (portServe s).orders = s.orders := by
  simp [portServe]

@[simp] theorem freeBus_frame (s : State) :
    (freeBus s).pending = s.pending ∧ (freeBus s).draws = s.draws ∧ (freeBus s).control = s.control ∧
    (freeBus s).slotPath = s.slotPath ∧ (freeBus s).classifiers = s.classifiers ∧
    (freeBus s).estimators = s.estimators ∧ (freeBus s).lines = s.lines ∧ (freeBus s).settings = s.settings ∧
    (freeBus s).plan = s.plan ∧ (freeBus s).pool = s.pool ∧ (freeBus s).voices = s.voices ∧
    (freeBus s).writer = s.writer ∧ (freeBus s).orders = s.orders := by
  simp [freeBus]

end Sys2Proof.Machine
end

