-- ==== Sys2Proof/Laws/PoolFrames.lean ====
section
/-! SUPPORT. Which blocks the generator pool's operations (Machine/Pool.lean) leave unchanged. One lemma for each operation. -/

namespace Sys2Proof.Machine

@[simp] theorem startGeneratorWait_frame (n : LineNo) (k : ServiceClass) (s : State) :
    (startGeneratorWait n k s).pending = s.pending ∧ (startGeneratorWait n k s).draws = s.draws ∧
    (startGeneratorWait n k s).control = s.control ∧ (startGeneratorWait n k s).slotPath = s.slotPath ∧
    (startGeneratorWait n k s).classifiers = s.classifiers ∧
    (startGeneratorWait n k s).estimators = s.estimators ∧ (startGeneratorWait n k s).settings = s.settings ∧
    (startGeneratorWait n k s).plan = s.plan ∧ (startGeneratorWait n k s).pool = s.pool ∧
    (startGeneratorWait n k s).voices = s.voices ∧ (startGeneratorWait n k s).writer = s.writer ∧
    (startGeneratorWait n k s).orders = s.orders ∧ (startGeneratorWait n k s).port = s.port := by
  unfold startGeneratorWait
  (repeat' split) <;> simp

@[simp] theorem joinWait_frame (n : LineNo) (k : ServiceClass) (p : Bool) (s : State) :
    (joinWait n k p s).pending = s.pending ∧ (joinWait n k p s).draws = s.draws ∧
    (joinWait n k p s).control = s.control ∧ (joinWait n k p s).slotPath = s.slotPath ∧
    (joinWait n k p s).classifiers = s.classifiers ∧ (joinWait n k p s).estimators = s.estimators ∧
    (joinWait n k p s).settings = s.settings ∧ (joinWait n k p s).plan = s.plan ∧
    (joinWait n k p s).voices = s.voices ∧ (joinWait n k p s).writer = s.writer ∧
    (joinWait n k p s).orders = s.orders ∧ (joinWait n k p s).port = s.port := by
  simp [joinWait]

@[simp] theorem leaveWait_frame (n : LineNo) (s : State) :
    (leaveWait n s).pending = s.pending ∧ (leaveWait n s).draws = s.draws ∧
    (leaveWait n s).control = s.control ∧ (leaveWait n s).slotPath = s.slotPath ∧
    (leaveWait n s).classifiers = s.classifiers ∧ (leaveWait n s).estimators = s.estimators ∧
    (leaveWait n s).settings = s.settings ∧ (leaveWait n s).plan = s.plan ∧ (leaveWait n s).voices = s.voices ∧
    (leaveWait n s).writer = s.writer ∧ (leaveWait n s).orders = s.orders ∧ (leaveWait n s).port = s.port := by
  simp [leaveWait]

@[simp] theorem reclassWaiting_frame (n : LineNo) (k : ServiceClass) (s : State) :
    (reclassWaiting n k s).pending = s.pending ∧ (reclassWaiting n k s).draws = s.draws ∧
    (reclassWaiting n k s).control = s.control ∧ (reclassWaiting n k s).slotPath = s.slotPath ∧
    (reclassWaiting n k s).classifiers = s.classifiers ∧ (reclassWaiting n k s).estimators = s.estimators ∧
    (reclassWaiting n k s).settings = s.settings ∧ (reclassWaiting n k s).plan = s.plan ∧
    (reclassWaiting n k s).voices = s.voices ∧ (reclassWaiting n k s).writer = s.writer ∧
    (reclassWaiting n k s).orders = s.orders ∧ (reclassWaiting n k s).port = s.port := by
  unfold reclassWaiting
  dsimp only
  (repeat' split) <;> simp

@[simp] theorem reclassGen_frame (n : LineNo) (k : ServiceClass) (s : State) :
    (reclassGen n k s).pending = s.pending ∧ (reclassGen n k s).draws = s.draws ∧
    (reclassGen n k s).control = s.control ∧ (reclassGen n k s).slotPath = s.slotPath ∧
    (reclassGen n k s).classifiers = s.classifiers ∧ (reclassGen n k s).estimators = s.estimators ∧
    (reclassGen n k s).lines = s.lines ∧ (reclassGen n k s).settings = s.settings ∧
    (reclassGen n k s).plan = s.plan ∧ (reclassGen n k s).voices = s.voices ∧
    (reclassGen n k s).writer = s.writer ∧ (reclassGen n k s).orders = s.orders ∧
    (reclassGen n k s).port = s.port := by
  unfold reclassGen
  (repeat' split) <;> simp

@[simp] theorem formClassAfresh_frame (n : LineNo) (s : State) :
    (formClassAfresh n s).pending = s.pending ∧ (formClassAfresh n s).draws = s.draws ∧
    (formClassAfresh n s).control = s.control ∧ (formClassAfresh n s).slotPath = s.slotPath ∧
    (formClassAfresh n s).classifiers = s.classifiers ∧ (formClassAfresh n s).estimators = s.estimators ∧
    (formClassAfresh n s).settings = s.settings ∧ (formClassAfresh n s).plan = s.plan ∧
    (formClassAfresh n s).voices = s.voices ∧ (formClassAfresh n s).writer = s.writer ∧
    (formClassAfresh n s).orders = s.orders ∧ (formClassAfresh n s).port = s.port := by
  simp [formClassAfresh]

@[simp] theorem enterOn_frame (g : GenNo) (s : State) :
    (enterOn g s).pending = s.pending ∧ (enterOn g s).draws = s.draws ∧ (enterOn g s).control = s.control ∧
    (enterOn g s).slotPath = s.slotPath ∧ (enterOn g s).classifiers = s.classifiers ∧
    (enterOn g s).estimators = s.estimators ∧ (enterOn g s).settings = s.settings ∧
    (enterOn g s).plan = s.plan ∧ (enterOn g s).writer = s.writer ∧ (enterOn g s).orders = s.orders ∧
    (enterOn g s).port = s.port := by
  unfold enterOn
  dsimp only
  (repeat' split) <;> simp

@[simp] theorem releaseGen_frame (g : GenNo) (s : State) :
    (releaseGen g s).pending = s.pending ∧ (releaseGen g s).draws = s.draws ∧
    (releaseGen g s).control = s.control ∧ (releaseGen g s).slotPath = s.slotPath ∧
    (releaseGen g s).classifiers = s.classifiers ∧ (releaseGen g s).estimators = s.estimators ∧
    (releaseGen g s).lines = s.lines ∧ (releaseGen g s).settings = s.settings ∧
    (releaseGen g s).plan = s.plan ∧ (releaseGen g s).voices = s.voices ∧ (releaseGen g s).writer = s.writer ∧
    (releaseGen g s).orders = s.orders ∧ (releaseGen g s).port = s.port := by
  simp [releaseGen]

@[simp] theorem releaseOf_frame (n : LineNo) (s : State) :
    (releaseOf n s).pending = s.pending ∧ (releaseOf n s).draws = s.draws ∧
    (releaseOf n s).control = s.control ∧ (releaseOf n s).slotPath = s.slotPath ∧
    (releaseOf n s).classifiers = s.classifiers ∧ (releaseOf n s).estimators = s.estimators ∧
    (releaseOf n s).lines = s.lines ∧ (releaseOf n s).settings = s.settings ∧ (releaseOf n s).plan = s.plan ∧
    (releaseOf n s).voices = s.voices ∧ (releaseOf n s).writer = s.writer ∧ (releaseOf n s).orders = s.orders ∧
    (releaseOf n s).port = s.port := by
  unfold releaseOf
  (repeat' split) <;> simp

@[simp] theorem endNumber_frame (n : LineNo) (s : State) :
    (endNumber n s).pending = s.pending ∧ (endNumber n s).draws = s.draws ∧
    (endNumber n s).control = s.control ∧ (endNumber n s).slotPath = s.slotPath ∧
    (endNumber n s).classifiers = s.classifiers ∧ (endNumber n s).estimators = s.estimators ∧
    (endNumber n s).settings = s.settings ∧ (endNumber n s).plan = s.plan ∧ (endNumber n s).pool = s.pool ∧
    (endNumber n s).voices = s.voices ∧ (endNumber n s).orders = s.orders := by
  simp [endNumber]

@[simp] theorem releaseEarly_frame (g : GenNo) (n : LineNo) (s : State) :
    (releaseEarly g n s).pending = s.pending ∧ (releaseEarly g n s).draws = s.draws ∧
    (releaseEarly g n s).control = s.control ∧ (releaseEarly g n s).slotPath = s.slotPath ∧
    (releaseEarly g n s).classifiers = s.classifiers ∧ (releaseEarly g n s).estimators = s.estimators ∧
    (releaseEarly g n s).settings = s.settings ∧ (releaseEarly g n s).plan = s.plan ∧
    (releaseEarly g n s).voices = s.voices ∧ (releaseEarly g n s).orders = s.orders := by
  unfold releaseEarly
  (repeat' split) <;> simp

@[simp] theorem grant_frame (g : GenNo) (e : WaitEntry) (s : State) :
    (grant g e s).pending = s.pending ∧ (grant g e s).draws = s.draws ∧ (grant g e s).control = s.control ∧
    (grant g e s).slotPath = s.slotPath ∧ (grant g e s).classifiers = s.classifiers ∧
    (grant g e s).estimators = s.estimators ∧ (grant g e s).settings = s.settings ∧
    (grant g e s).plan = s.plan ∧ (grant g e s).writer = s.writer ∧ (grant g e s).orders = s.orders ∧
    (grant g e s).port = s.port := by
  simp [grant]

@[simp] theorem arbitrate_frame (k : Nat) (s : State) :
    (arbitrate k s).pending = s.pending ∧ (arbitrate k s).draws = s.draws ∧
    (arbitrate k s).control = s.control ∧ (arbitrate k s).slotPath = s.slotPath ∧
    (arbitrate k s).classifiers = s.classifiers ∧ (arbitrate k s).estimators = s.estimators ∧
    (arbitrate k s).settings = s.settings ∧ (arbitrate k s).plan = s.plan ∧ (arbitrate k s).writer = s.writer ∧
    (arbitrate k s).orders = s.orders ∧ (arbitrate k s).port = s.port := by
  induction k generalizing s with
  | zero => simp [arbitrate]
  | succ k ih => rw [arbitrate]; split <;> simp [ih]

@[simp] theorem preempt_frame (g : GenNo) (s : State) :
    (preempt g s).pending = s.pending ∧ (preempt g s).draws = s.draws ∧ (preempt g s).control = s.control ∧
    (preempt g s).slotPath = s.slotPath ∧ (preempt g s).classifiers = s.classifiers ∧
    (preempt g s).estimators = s.estimators ∧ (preempt g s).settings = s.settings ∧
    (preempt g s).plan = s.plan ∧ (preempt g s).voices = s.voices ∧ (preempt g s).orders = s.orders := by
  unfold preempt
  dsimp only
  (repeat' split) <;> simp

@[simp] theorem preemptAll_frame (k : Nat) (s : State) :
    (preemptAll k s).pending = s.pending ∧ (preemptAll k s).draws = s.draws ∧
    (preemptAll k s).control = s.control ∧ (preemptAll k s).slotPath = s.slotPath ∧
    (preemptAll k s).classifiers = s.classifiers ∧ (preemptAll k s).estimators = s.estimators ∧
    (preemptAll k s).settings = s.settings ∧ (preemptAll k s).plan = s.plan ∧ (preemptAll k s).orders = s.orders := by
  induction k generalizing s with
  | zero => simp [preemptAll]
  | succ k ih => rw [preemptAll]; (repeat' split) <;> simp [ih]

@[simp] theorem poolRun_frame (s : State) :
    (poolRun s).pending = s.pending ∧ (poolRun s).draws = s.draws ∧ (poolRun s).control = s.control ∧
    (poolRun s).slotPath = s.slotPath ∧ (poolRun s).classifiers = s.classifiers ∧
    (poolRun s).estimators = s.estimators ∧ (poolRun s).settings = s.settings ∧ (poolRun s).plan = s.plan ∧
    (poolRun s).orders = s.orders := by
  unfold poolRun
  (repeat' split) <;> simp

@[simp] theorem wakeHold_frame (n : LineNo) (s : State) :
    (wakeHold n s).pending = s.pending ∧ (wakeHold n s).draws = s.draws ∧ (wakeHold n s).control = s.control ∧
    (wakeHold n s).slotPath = s.slotPath ∧ (wakeHold n s).classifiers = s.classifiers ∧
    (wakeHold n s).estimators = s.estimators ∧ (wakeHold n s).settings = s.settings ∧
    (wakeHold n s).plan = s.plan ∧ (wakeHold n s).writer = s.writer ∧ (wakeHold n s).orders = s.orders ∧
    (wakeHold n s).port = s.port := by
  unfold wakeHold
  (repeat' split) <;> simp

@[simp] theorem withdrawIfNot_frame (n : LineNo) (s : State) :
    (withdrawIfNot n s).pending = s.pending ∧ (withdrawIfNot n s).draws = s.draws ∧
    (withdrawIfNot n s).control = s.control ∧ (withdrawIfNot n s).slotPath = s.slotPath ∧
    (withdrawIfNot n s).classifiers = s.classifiers ∧ (withdrawIfNot n s).estimators = s.estimators ∧
    (withdrawIfNot n s).settings = s.settings ∧ (withdrawIfNot n s).plan = s.plan ∧
    (withdrawIfNot n s).voices = s.voices ∧ (withdrawIfNot n s).writer = s.writer ∧
    (withdrawIfNot n s).orders = s.orders ∧ (withdrawIfNot n s).port = s.port := by
  unfold withdrawIfNot
  (repeat' split) <;> simp

@[simp] theorem raiseRequest_frame (n : LineNo) (s : State) :
    (raiseRequest n s).pending = s.pending ∧ (raiseRequest n s).draws = s.draws ∧
    (raiseRequest n s).control = s.control ∧ (raiseRequest n s).slotPath = s.slotPath ∧
    (raiseRequest n s).classifiers = s.classifiers ∧ (raiseRequest n s).estimators = s.estimators ∧
    (raiseRequest n s).settings = s.settings ∧ (raiseRequest n s).plan = s.plan ∧
    (raiseRequest n s).voices = s.voices ∧ (raiseRequest n s).writer = s.writer ∧
    (raiseRequest n s).orders = s.orders ∧ (raiseRequest n s).port = s.port := by
  unfold raiseRequest
  (repeat' split) <;> simp

@[simp] theorem watchProceed_frame (n : LineNo) (s : State) :
    (watchProceed n s).pending = s.pending ∧ (watchProceed n s).draws = s.draws ∧
    (watchProceed n s).control = s.control ∧ (watchProceed n s).slotPath = s.slotPath ∧
    (watchProceed n s).classifiers = s.classifiers ∧ (watchProceed n s).estimators = s.estimators ∧
    (watchProceed n s).settings = s.settings ∧ (watchProceed n s).plan = s.plan ∧
    (watchProceed n s).pool = s.pool ∧ (watchProceed n s).voices = s.voices ∧
    (watchProceed n s).writer = s.writer ∧ (watchProceed n s).orders = s.orders ∧
    (watchProceed n s).port = s.port := by
  unfold watchProceed
  (repeat' split) <;> simp

@[simp] theorem afterEvent_frame (n : LineNo) (s : State) :
    (afterEvent n s).pending = s.pending ∧ (afterEvent n s).draws = s.draws ∧
    (afterEvent n s).control = s.control ∧ (afterEvent n s).slotPath = s.slotPath ∧
    (afterEvent n s).classifiers = s.classifiers ∧ (afterEvent n s).estimators = s.estimators ∧
    (afterEvent n s).settings = s.settings ∧ (afterEvent n s).plan = s.plan ∧ (afterEvent n s).orders = s.orders := by
  unfold afterEvent
  (repeat' split) <;> simp

@[simp] theorem cutByProceed_frame (n : LineNo) (s : State) :
    (cutByProceed n s).pending = s.pending ∧ (cutByProceed n s).draws = s.draws ∧
    (cutByProceed n s).control = s.control ∧ (cutByProceed n s).slotPath = s.slotPath ∧
    (cutByProceed n s).classifiers = s.classifiers ∧ (cutByProceed n s).estimators = s.estimators ∧
    (cutByProceed n s).settings = s.settings ∧ (cutByProceed n s).plan = s.plan ∧
    (cutByProceed n s).voices = s.voices ∧ (cutByProceed n s).orders = s.orders := by
  unfold cutByProceed
  (repeat' split) <;> simp

@[simp] theorem proceedChanged_frame (n : LineNo) (s : State) :
    (proceedChanged n s).pending = s.pending ∧ (proceedChanged n s).draws = s.draws ∧
    (proceedChanged n s).control = s.control ∧ (proceedChanged n s).slotPath = s.slotPath ∧
    (proceedChanged n s).classifiers = s.classifiers ∧ (proceedChanged n s).estimators = s.estimators ∧
    (proceedChanged n s).settings = s.settings ∧ (proceedChanged n s).plan = s.plan ∧
    (proceedChanged n s).orders = s.orders := by
  unfold proceedChanged
  (repeat' split) <;> simp

end Sys2Proof.Machine
end

