-- ==== Sys2Proof/Laws/OrderFrames.lean ====
section
/-! SUPPORT. Which blocks the plan table's and the order unit's shared operations (Machine/PlanTable.lean, OrderUnit.lean) leave unchanged. One lemma for each operation. -/

namespace Sys2Proof.Machine

@[simp] theorem bindBank_frame (n : LineNo) (s : State) :
    (bindBank n s).pending = s.pending ∧ (bindBank n s).draws = s.draws ∧ (bindBank n s).control = s.control ∧
    (bindBank n s).slotPath = s.slotPath ∧ (bindBank n s).classifiers = s.classifiers ∧
    (bindBank n s).estimators = s.estimators ∧ (bindBank n s).settings = s.settings ∧
    (bindBank n s).pool = s.pool ∧ (bindBank n s).voices = s.voices ∧ (bindBank n s).writer = s.writer ∧
    (bindBank n s).orders = s.orders ∧ (bindBank n s).port = s.port := by
  simp [bindBank]

@[simp] theorem unbindBank_frame (n : LineNo) (s : State) :
    (unbindBank n s).pending = s.pending ∧ (unbindBank n s).draws = s.draws ∧
    (unbindBank n s).control = s.control ∧ (unbindBank n s).slotPath = s.slotPath ∧
    (unbindBank n s).classifiers = s.classifiers ∧ (unbindBank n s).estimators = s.estimators ∧
    (unbindBank n s).settings = s.settings ∧ (unbindBank n s).pool = s.pool ∧
    (unbindBank n s).voices = s.voices ∧ (unbindBank n s).writer = s.writer ∧
    (unbindBank n s).orders = s.orders ∧ (unbindBank n s).port = s.port := by
  unfold unbindBank
  (repeat' split) <;> simp

@[simp] theorem askOrder_frame (a : Access) (s : State) :
    (askOrder a s).pending = s.pending ∧ (askOrder a s).draws = s.draws ∧ (askOrder a s).control = s.control ∧
    (askOrder a s).slotPath = s.slotPath ∧ (askOrder a s).classifiers = s.classifiers ∧
    (askOrder a s).estimators = s.estimators ∧ (askOrder a s).lines = s.lines ∧
    (askOrder a s).settings = s.settings ∧ (askOrder a s).plan = s.plan ∧ (askOrder a s).pool = s.pool ∧
    (askOrder a s).voices = s.voices ∧ (askOrder a s).writer = s.writer ∧ (askOrder a s).orders = s.orders := by
  simp [askOrder]

@[simp] theorem readOrderMark_frame (s : State) :
    (readOrderMark s).pending = s.pending ∧ (readOrderMark s).draws = s.draws ∧
    (readOrderMark s).control = s.control ∧ (readOrderMark s).slotPath = s.slotPath ∧
    (readOrderMark s).classifiers = s.classifiers ∧ (readOrderMark s).estimators = s.estimators ∧
    (readOrderMark s).lines = s.lines ∧ (readOrderMark s).settings = s.settings ∧
    (readOrderMark s).plan = s.plan ∧ (readOrderMark s).pool = s.pool ∧ (readOrderMark s).voices = s.voices ∧
    (readOrderMark s).writer = s.writer := by
  simp [readOrderMark]

@[simp] theorem onCurrent_frame (f : CurrentOrder → CurrentOrder) (s : State) :
    (onCurrent f s).pending = s.pending ∧ (onCurrent f s).draws = s.draws ∧
    (onCurrent f s).control = s.control ∧ (onCurrent f s).slotPath = s.slotPath ∧
    (onCurrent f s).classifiers = s.classifiers ∧ (onCurrent f s).estimators = s.estimators ∧
    (onCurrent f s).lines = s.lines ∧ (onCurrent f s).settings = s.settings ∧ (onCurrent f s).plan = s.plan ∧
    (onCurrent f s).pool = s.pool ∧ (onCurrent f s).voices = s.voices ∧ (onCurrent f s).writer = s.writer ∧
    (onCurrent f s).port = s.port := by
  simp [onCurrent]

@[simp] theorem chooseResult_frame (st : OrderStatus) (d : Details) (s : State) :
    (chooseResult st d s).pending = s.pending ∧ (chooseResult st d s).draws = s.draws ∧
    (chooseResult st d s).control = s.control ∧ (chooseResult st d s).slotPath = s.slotPath ∧
    (chooseResult st d s).classifiers = s.classifiers ∧ (chooseResult st d s).estimators = s.estimators ∧
    (chooseResult st d s).lines = s.lines ∧ (chooseResult st d s).settings = s.settings ∧
    (chooseResult st d s).plan = s.plan ∧ (chooseResult st d s).pool = s.pool ∧
    (chooseResult st d s).voices = s.voices ∧ (chooseResult st d s).writer = s.writer := by
  unfold chooseResult
  dsimp only
  (repeat' split) <;> simp

@[simp] theorem emptyLoad_frame (w : OrderWork) (s : State) :
    (emptyLoad w s).pending = s.pending ∧ (emptyLoad w s).draws = s.draws ∧
    (emptyLoad w s).control = s.control ∧ (emptyLoad w s).slotPath = s.slotPath ∧
    (emptyLoad w s).classifiers = s.classifiers ∧ (emptyLoad w s).estimators = s.estimators ∧
    (emptyLoad w s).lines = s.lines ∧ (emptyLoad w s).settings = s.settings ∧ (emptyLoad w s).pool = s.pool ∧
    (emptyLoad w s).voices = s.voices ∧ (emptyLoad w s).writer = s.writer ∧ (emptyLoad w s).orders = s.orders ∧
    (emptyLoad w s).port = s.port := by
  unfold emptyLoad
  (repeat' split) <;> simp

@[simp] theorem emptyCurrentLoad_frame (s : State) :
    (emptyCurrentLoad s).pending = s.pending ∧ (emptyCurrentLoad s).draws = s.draws ∧
    (emptyCurrentLoad s).control = s.control ∧ (emptyCurrentLoad s).slotPath = s.slotPath ∧
    (emptyCurrentLoad s).classifiers = s.classifiers ∧ (emptyCurrentLoad s).estimators = s.estimators ∧
    (emptyCurrentLoad s).lines = s.lines ∧ (emptyCurrentLoad s).settings = s.settings ∧
    (emptyCurrentLoad s).pool = s.pool ∧ (emptyCurrentLoad s).voices = s.voices ∧
    (emptyCurrentLoad s).writer = s.writer ∧ (emptyCurrentLoad s).orders = s.orders ∧
    (emptyCurrentLoad s).port = s.port := by
  unfold emptyCurrentLoad
  (repeat' split) <;> simp

@[simp] theorem orderAccess_frame (p : Purpose) (sa : Word) (len : Nat) (data : List Byte) (i : Nat) (s : State) :
    (orderAccess p sa len data i s).pending = s.pending ∧ (orderAccess p sa len data i s).draws = s.draws ∧
    (orderAccess p sa len data i s).slotPath = s.slotPath ∧
    (orderAccess p sa len data i s).classifiers = s.classifiers ∧
    (orderAccess p sa len data i s).estimators = s.estimators ∧
    (orderAccess p sa len data i s).lines = s.lines ∧ (orderAccess p sa len data i s).settings = s.settings ∧
    (orderAccess p sa len data i s).pool = s.pool ∧ (orderAccess p sa len data i s).voices = s.voices ∧
    (orderAccess p sa len data i s).writer = s.writer := by
  unfold orderAccess
  (repeat' split) <;> simp

@[simp] theorem endAborted_frame (s : State) :
    (endAborted s).pending = s.pending ∧ (endAborted s).draws = s.draws ∧ (endAborted s).control = s.control ∧
    (endAborted s).slotPath = s.slotPath ∧ (endAborted s).classifiers = s.classifiers ∧
    (endAborted s).estimators = s.estimators ∧ (endAborted s).lines = s.lines ∧
    (endAborted s).settings = s.settings ∧ (endAborted s).pool = s.pool ∧ (endAborted s).voices = s.voices ∧
    (endAborted s).writer = s.writer := by
  unfold endAborted
  (repeat' split) <;> simp

@[simp] theorem abortAtNextStep_frame (s : State) :
    (abortAtNextStep s).pending = s.pending ∧ (abortAtNextStep s).draws = s.draws ∧
    (abortAtNextStep s).control = s.control ∧ (abortAtNextStep s).slotPath = s.slotPath ∧
    (abortAtNextStep s).classifiers = s.classifiers ∧ (abortAtNextStep s).estimators = s.estimators ∧
    (abortAtNextStep s).lines = s.lines ∧ (abortAtNextStep s).settings = s.settings ∧
    (abortAtNextStep s).pool = s.pool ∧ (abortAtNextStep s).voices = s.voices ∧
    (abortAtNextStep s).writer = s.writer := by
  unfold abortAtNextStep
  (repeat' split) <;> simp

@[simp] theorem abortSendTones_frame (n : LineNo) (c : CurrentOrder) (s : State) :
    (abortSendTones n c s).pending = s.pending ∧ (abortSendTones n c s).draws = s.draws ∧
    (abortSendTones n c s).control = s.control ∧ (abortSendTones n c s).slotPath = s.slotPath ∧
    (abortSendTones n c s).classifiers = s.classifiers ∧ (abortSendTones n c s).estimators = s.estimators ∧
    (abortSendTones n c s).settings = s.settings ∧ (abortSendTones n c s).plan = s.plan := by
  unfold abortSendTones
  dsimp only
  (repeat' split) <;> simp

@[simp] theorem abortOrder_frame (s : State) :
    (abortOrder s).pending = s.pending ∧ (abortOrder s).draws = s.draws ∧ (abortOrder s).control = s.control ∧
    (abortOrder s).slotPath = s.slotPath ∧ (abortOrder s).classifiers = s.classifiers ∧
    (abortOrder s).estimators = s.estimators ∧ (abortOrder s).settings = s.settings := by
  unfold abortOrder
  (repeat' split) <;> simp

@[simp] theorem stopOrder_frame (s : State) :
    (stopOrder s).pending = s.pending ∧ (stopOrder s).draws = s.draws ∧ (stopOrder s).control = s.control ∧
    (stopOrder s).slotPath = s.slotPath ∧ (stopOrder s).classifiers = s.classifiers ∧
    (stopOrder s).estimators = s.estimators ∧ (stopOrder s).lines = s.lines ∧
    (stopOrder s).settings = s.settings ∧ (stopOrder s).pool = s.pool ∧ (stopOrder s).voices = s.voices ∧
    (stopOrder s).writer = s.writer := by
  unfold stopOrder
  (repeat' split) <;> simp

@[simp] theorem endSendTones_frame (n : LineNo) (k : CloseCause) (s : State) :
    (endSendTones n k s).pending = s.pending ∧ (endSendTones n k s).draws = s.draws ∧
    (endSendTones n k s).control = s.control ∧ (endSendTones n k s).slotPath = s.slotPath ∧
    (endSendTones n k s).classifiers = s.classifiers ∧ (endSendTones n k s).estimators = s.estimators ∧
    (endSendTones n k s).lines = s.lines ∧ (endSendTones n k s).settings = s.settings ∧
    (endSendTones n k s).plan = s.plan ∧ (endSendTones n k s).pool = s.pool ∧
    (endSendTones n k s).voices = s.voices ∧ (endSendTones n k s).writer = s.writer := by
  unfold endSendTones
  (repeat' split) <;> simp

end Sys2Proof.Machine
end

