-- ==== Sys2Proof/Laws/LineFrames.lean ====
section
/-! SUPPORT. Which blocks the line controller's and the loop classifier's operations (Machine/LineControl.lean, LoopClassifier.lean) leave unchanged. One lemma for each operation. -/

namespace Sys2Proof.Machine

@[simp] theorem teardownSteps_frame (n : LineNo) (k : CloseCause) (s : State) :
    (teardownSteps n k s).pending = s.pending ∧ (teardownSteps n k s).draws = s.draws ∧
    (teardownSteps n k s).control = s.control ∧ (teardownSteps n k s).slotPath = s.slotPath ∧
    (teardownSteps n k s).classifiers = s.classifiers ∧ (teardownSteps n k s).estimators = s.estimators ∧
    (teardownSteps n k s).settings = s.settings ∧ (teardownSteps n k s).voices = s.voices := by
  simp [teardownSteps]

@[simp] theorem teardown_frame (n : LineNo) (k : CloseCause) (s : State) :
    (teardown n k s).pending = s.pending ∧ (teardown n k s).draws = s.draws ∧
    (teardown n k s).control = s.control ∧ (teardown n k s).slotPath = s.slotPath ∧
    (teardown n k s).classifiers = s.classifiers ∧ (teardown n k s).estimators = s.estimators ∧
    (teardown n k s).settings = s.settings := by
  simp [teardown]

@[simp] theorem recordDecision_frame (n : LineNo) (i : Option Nat) (a : PlanAction) (k : Nat) (e u : Bool) (s : State) :
    (recordDecision n i a k e u s).pending = s.pending ∧ (recordDecision n i a k e u s).draws = s.draws ∧
    (recordDecision n i a k e u s).slotPath = s.slotPath ∧
    (recordDecision n i a k e u s).classifiers = s.classifiers ∧
    (recordDecision n i a k e u s).estimators = s.estimators ∧
    (recordDecision n i a k e u s).settings = s.settings ∧ (recordDecision n i a k e u s).pool = s.pool ∧
    (recordDecision n i a k e u s).voices = s.voices ∧ (recordDecision n i a k e u s).writer = s.writer ∧
    (recordDecision n i a k e u s).orders = s.orders ∧ (recordDecision n i a k e u s).port = s.port := by
  unfold recordDecision
  dsimp only
  (repeat' split) <;> simp

@[simp] theorem decideSend_frame (n : LineNo) (i : Option Nat) (a : PlanAction) (k : ServiceClass) (x : List Tone) (e u : Bool) (s : State) :
    (decideSend n i a k x e u s).pending = s.pending ∧ (decideSend n i a k x e u s).draws = s.draws ∧
    (decideSend n i a k x e u s).slotPath = s.slotPath ∧
    (decideSend n i a k x e u s).classifiers = s.classifiers ∧
    (decideSend n i a k x e u s).estimators = s.estimators ∧
    (decideSend n i a k x e u s).settings = s.settings ∧ (decideSend n i a k x e u s).pool = s.pool ∧
    (decideSend n i a k x e u s).voices = s.voices ∧ (decideSend n i a k x e u s).orders = s.orders := by
  unfold decideSend
  dsimp only
  (repeat' split) <;> simp

@[simp] theorem decideRefuse_frame (n : LineNo) (i : Option Nat) (a : Option PlanAction) (k : CloseCause) (s : State) :
    (decideRefuse n i a k s).pending = s.pending ∧ (decideRefuse n i a k s).draws = s.draws ∧
    (decideRefuse n i a k s).control = s.control ∧ (decideRefuse n i a k s).slotPath = s.slotPath ∧
    (decideRefuse n i a k s).classifiers = s.classifiers ∧ (decideRefuse n i a k s).estimators = s.estimators ∧
    (decideRefuse n i a k s).settings = s.settings := by
  simp [decideRefuse]

@[simp] theorem actOn_frame (n : LineNo) (v : Verdict) (s : State) :
    (actOn n v s).pending = s.pending ∧ (actOn n v s).draws = s.draws ∧ (actOn n v s).slotPath = s.slotPath ∧
    (actOn n v s).classifiers = s.classifiers ∧ (actOn n v s).estimators = s.estimators ∧
    (actOn n v s).settings = s.settings := by
  unfold actOn
  (repeat' split) <;> simp

@[simp] theorem joinNumber_frame (n : LineNo) (t : Tone) (e : Bool) (s : State) :
    (joinNumber n t e s).pending = s.pending ∧ (joinNumber n t e s).draws = s.draws ∧
    (joinNumber n t e s).control = s.control ∧ (joinNumber n t e s).slotPath = s.slotPath ∧
    (joinNumber n t e s).classifiers = s.classifiers ∧ (joinNumber n t e s).estimators = s.estimators ∧
    (joinNumber n t e s).settings = s.settings ∧ (joinNumber n t e s).plan = s.plan ∧
    (joinNumber n t e s).pool = s.pool ∧ (joinNumber n t e s).voices = s.voices ∧
    (joinNumber n t e s).writer = s.writer ∧ (joinNumber n t e s).orders = s.orders ∧
    (joinNumber n t e s).port = s.port := by
  simp [joinNumber]

@[simp] theorem callMatcher_frame (n : LineNo) (s : State) :
    (callMatcher n s).pending = s.pending ∧ (callMatcher n s).draws = s.draws ∧
    (callMatcher n s).slotPath = s.slotPath ∧ (callMatcher n s).classifiers = s.classifiers ∧
    (callMatcher n s).estimators = s.estimators ∧ (callMatcher n s).settings = s.settings := by
  unfold callMatcher
  (repeat' split) <;> simp

@[simp] theorem queueSubscriber_frame (n : LineNo) (t : Tone) (s : State) :
    (queueSubscriber n t s).pending = s.pending ∧ (queueSubscriber n t s).draws = s.draws ∧
    (queueSubscriber n t s).control = s.control ∧ (queueSubscriber n t s).slotPath = s.slotPath ∧
    (queueSubscriber n t s).classifiers = s.classifiers ∧ (queueSubscriber n t s).estimators = s.estimators ∧
    (queueSubscriber n t s).settings = s.settings ∧ (queueSubscriber n t s).plan = s.plan ∧
    (queueSubscriber n t s).pool = s.pool ∧ (queueSubscriber n t s).voices = s.voices ∧
    (queueSubscriber n t s).writer = s.writer ∧ (queueSubscriber n t s).orders = s.orders ∧
    (queueSubscriber n t s).port = s.port := by
  simp [queueSubscriber]

@[simp] theorem enterConverting_frame (n : LineNo) (s : State) :
    (enterConverting n s).pending = s.pending ∧ (enterConverting n s).draws = s.draws ∧
    (enterConverting n s).control = s.control ∧ (enterConverting n s).slotPath = s.slotPath ∧
    (enterConverting n s).classifiers = s.classifiers ∧ (enterConverting n s).estimators = s.estimators ∧
    (enterConverting n s).settings = s.settings ∧ (enterConverting n s).plan = s.plan ∧
    (enterConverting n s).pool = s.pool ∧ (enterConverting n s).voices = s.voices ∧
    (enterConverting n s).writer = s.writer ∧ (enterConverting n s).orders = s.orders ∧
    (enterConverting n s).port = s.port := by
  simp [enterConverting]

@[simp] theorem symbolSeized_frame (n : LineNo) (t : Tone) (e : Bool) (s : State) :
    (symbolSeized n t e s).pending = s.pending ∧ (symbolSeized n t e s).draws = s.draws ∧
    (symbolSeized n t e s).slotPath = s.slotPath ∧ (symbolSeized n t e s).classifiers = s.classifiers ∧
    (symbolSeized n t e s).estimators = s.estimators ∧ (symbolSeized n t e s).settings = s.settings := by
  unfold symbolSeized
  dsimp only
  (repeat' split) <;> simp

@[simp] theorem symbolCollecting_frame (n : LineNo) (t : Tone) (e : Bool) (s : State) :
    (symbolCollecting n t e s).pending = s.pending ∧ (symbolCollecting n t e s).draws = s.draws ∧
    (symbolCollecting n t e s).slotPath = s.slotPath ∧ (symbolCollecting n t e s).classifiers = s.classifiers ∧
    (symbolCollecting n t e s).estimators = s.estimators ∧ (symbolCollecting n t e s).settings = s.settings := by
  simp [symbolCollecting]

@[simp] theorem symbolConverting_frame (n : LineNo) (t : Tone) (e : Bool) (s : State) :
    (symbolConverting n t e s).pending = s.pending ∧ (symbolConverting n t e s).draws = s.draws ∧
    (symbolConverting n t e s).control = s.control ∧ (symbolConverting n t e s).slotPath = s.slotPath ∧
    (symbolConverting n t e s).classifiers = s.classifiers ∧
    (symbolConverting n t e s).estimators = s.estimators ∧ (symbolConverting n t e s).settings = s.settings ∧
    (symbolConverting n t e s).plan = s.plan ∧ (symbolConverting n t e s).pool = s.pool ∧
    (symbolConverting n t e s).voices = s.voices ∧ (symbolConverting n t e s).writer = s.writer ∧
    (symbolConverting n t e s).orders = s.orders ∧ (symbolConverting n t e s).port = s.port := by
  unfold symbolConverting
  dsimp only
  (repeat' split) <;> simp

@[simp] theorem takeSymbol_frame (n : LineNo) (t : Tone) (e : Bool) (s : State) :
    (takeSymbol n t e s).pending = s.pending ∧ (takeSymbol n t e s).draws = s.draws ∧
    (takeSymbol n t e s).slotPath = s.slotPath ∧ (takeSymbol n t e s).classifiers = s.classifiers ∧
    (takeSymbol n t e s).estimators = s.estimators ∧ (takeSymbol n t e s).settings = s.settings := by
  unfold takeSymbol
  (repeat' split) <;> simp

@[simp] theorem endEscape_frame (n : LineNo) (s : State) :
    (endEscape n s).pending = s.pending ∧ (endEscape n s).draws = s.draws ∧
    (endEscape n s).control = s.control ∧ (endEscape n s).slotPath = s.slotPath ∧
    (endEscape n s).classifiers = s.classifiers ∧ (endEscape n s).estimators = s.estimators ∧
    (endEscape n s).settings = s.settings ∧ (endEscape n s).plan = s.plan ∧ (endEscape n s).pool = s.pool ∧
    (endEscape n s).voices = s.voices ∧ (endEscape n s).writer = s.writer ∧ (endEscape n s).orders = s.orders ∧
    (endEscape n s).port = s.port := by
  simp [endEscape]

@[simp] theorem takeDigit_frame (n : LineNo) (k : Nat) (c : Bool) (s : State) :
    (takeDigit n k c s).pending = s.pending ∧ (takeDigit n k c s).draws = s.draws ∧
    (takeDigit n k c s).slotPath = s.slotPath ∧ (takeDigit n k c s).classifiers = s.classifiers ∧
    (takeDigit n k c s).estimators = s.estimators ∧ (takeDigit n k c s).settings = s.settings := by
  unfold takeDigit
  dsimp only
  (repeat' split) <;> simp

@[simp] theorem takeRejectOpen_frame (n : LineNo) (s : State) :
    (takeRejectOpen n s).pending = s.pending ∧ (takeRejectOpen n s).draws = s.draws ∧
    (takeRejectOpen n s).control = s.control ∧ (takeRejectOpen n s).slotPath = s.slotPath ∧
    (takeRejectOpen n s).classifiers = s.classifiers ∧ (takeRejectOpen n s).estimators = s.estimators ∧
    (takeRejectOpen n s).settings = s.settings ∧ (takeRejectOpen n s).plan = s.plan ∧
    (takeRejectOpen n s).pool = s.pool ∧ (takeRejectOpen n s).voices = s.voices ∧
    (takeRejectOpen n s).writer = s.writer ∧ (takeRejectOpen n s).orders = s.orders ∧
    (takeRejectOpen n s).port = s.port := by
  unfold takeRejectOpen
  dsimp only
  (repeat' split) <;> simp

@[simp] theorem forwardFlash_frame (n : LineNo) (s : State) :
    (forwardFlash n s).pending = s.pending ∧ (forwardFlash n s).draws = s.draws ∧
    (forwardFlash n s).control = s.control ∧ (forwardFlash n s).slotPath = s.slotPath ∧
    (forwardFlash n s).classifiers = s.classifiers ∧ (forwardFlash n s).estimators = s.estimators ∧
    (forwardFlash n s).settings = s.settings ∧ (forwardFlash n s).plan = s.plan ∧
    (forwardFlash n s).pool = s.pool ∧ (forwardFlash n s).voices = s.voices ∧
    (forwardFlash n s).writer = s.writer ∧ (forwardFlash n s).orders = s.orders ∧
    (forwardFlash n s).port = s.port := by
  unfold forwardFlash
  (repeat' split) <;> simp

@[simp] theorem redial_frame (n : LineNo) (s : State) :
    (redial n s).pending = s.pending ∧ (redial n s).draws = s.draws ∧ (redial n s).control = s.control ∧
    (redial n s).slotPath = s.slotPath ∧ (redial n s).classifiers = s.classifiers ∧
    (redial n s).estimators = s.estimators ∧ (redial n s).settings = s.settings ∧ (redial n s).pool = s.pool ∧
    (redial n s).voices = s.voices ∧ (redial n s).writer = s.writer ∧ (redial n s).orders = s.orders ∧
    (redial n s).port = s.port := by
  simp [redial]

@[simp] theorem plainFlash_frame (n : LineNo) (s : State) :
    (plainFlash n s).pending = s.pending ∧ (plainFlash n s).draws = s.draws ∧
    (plainFlash n s).control = s.control ∧ (plainFlash n s).slotPath = s.slotPath ∧
    (plainFlash n s).classifiers = s.classifiers ∧ (plainFlash n s).estimators = s.estimators ∧
    (plainFlash n s).settings = s.settings ∧ (plainFlash n s).pool = s.pool ∧
    (plainFlash n s).voices = s.voices ∧ (plainFlash n s).writer = s.writer ∧
    (plainFlash n s).orders = s.orders ∧ (plainFlash n s).port = s.port := by
  unfold plainFlash
  (repeat' split) <;> simp

@[simp] theorem openEscape_frame (n : LineNo) (s : State) :
    (openEscape n s).pending = s.pending ∧ (openEscape n s).draws = s.draws ∧
    (openEscape n s).control = s.control ∧ (openEscape n s).slotPath = s.slotPath ∧
    (openEscape n s).classifiers = s.classifiers ∧ (openEscape n s).estimators = s.estimators ∧
    (openEscape n s).settings = s.settings ∧ (openEscape n s).plan = s.plan ∧ (openEscape n s).pool = s.pool ∧
    (openEscape n s).voices = s.voices ∧ (openEscape n s).writer = s.writer ∧
    (openEscape n s).orders = s.orders ∧ (openEscape n s).port = s.port := by
  simp [openEscape]

@[simp] theorem takeFlash_frame (n : LineNo) (s : State) :
    (takeFlash n s).pending = s.pending ∧ (takeFlash n s).draws = s.draws ∧
    (takeFlash n s).control = s.control ∧ (takeFlash n s).slotPath = s.slotPath ∧
    (takeFlash n s).classifiers = s.classifiers ∧ (takeFlash n s).estimators = s.estimators ∧
    (takeFlash n s).settings = s.settings ∧ (takeFlash n s).orders = s.orders := by
  unfold takeFlash
  (repeat' split) <;> simp

@[simp] theorem classifyFrame_frame (f : LineFrame) (s : State) :
    (classifyFrame f s).pending = s.pending ∧ (classifyFrame f s).draws = s.draws ∧
    (classifyFrame f s).control = s.control ∧ (classifyFrame f s).slotPath = s.slotPath ∧
    (classifyFrame f s).estimators = s.estimators ∧ (classifyFrame f s).settings = s.settings ∧
    (classifyFrame f s).plan = s.plan ∧ (classifyFrame f s).pool = s.pool ∧
    (classifyFrame f s).voices = s.voices ∧ (classifyFrame f s).writer = s.writer ∧
    (classifyFrame f s).orders = s.orders ∧ (classifyFrame f s).port = s.port := by
  simp [classifyFrame]

@[simp] theorem closeNotice_frame (n : LineNo) (s : State) :
    (closeNotice n s).pending = s.pending ∧ (closeNotice n s).draws = s.draws ∧
    (closeNotice n s).control = s.control ∧ (closeNotice n s).slotPath = s.slotPath ∧
    (closeNotice n s).classifiers = s.classifiers ∧ (closeNotice n s).estimators = s.estimators ∧
    (closeNotice n s).settings = s.settings ∧ (closeNotice n s).plan = s.plan ∧
    (closeNotice n s).pool = s.pool ∧ (closeNotice n s).voices = s.voices ∧
    (closeNotice n s).writer = s.writer ∧ (closeNotice n s).orders = s.orders ∧ (closeNotice n s).port = s.port := by
  unfold closeNotice
  (repeat' split) <;> simp

@[simp] theorem openAccepted_frame (n : LineNo) (k : Nat) (s : State) :
    (openAccepted n k s).pending = s.pending ∧ (openAccepted n k s).draws = s.draws ∧
    (openAccepted n k s).control = s.control ∧ (openAccepted n k s).slotPath = s.slotPath ∧
    (openAccepted n k s).settings = s.settings ∧ (openAccepted n k s).plan = s.plan ∧
    (openAccepted n k s).pool = s.pool ∧ (openAccepted n k s).voices = s.voices ∧
    (openAccepted n k s).writer = s.writer ∧ (openAccepted n k s).orders = s.orders ∧
    (openAccepted n k s).port = s.port := by
  unfold openAccepted
  dsimp only
  (repeat' split) <;> simp

@[simp] theorem longOpenClosed_frame (n : LineNo) (k : Nat) (s : State) :
    (longOpenClosed n k s).pending = s.pending ∧ (longOpenClosed n k s).draws = s.draws ∧
    (longOpenClosed n k s).control = s.control ∧ (longOpenClosed n k s).slotPath = s.slotPath ∧
    (longOpenClosed n k s).estimators = s.estimators ∧ (longOpenClosed n k s).settings = s.settings ∧
    (longOpenClosed n k s).orders = s.orders := by
  unfold longOpenClosed
  dsimp only
  (repeat' split) <;> simp

@[simp] theorem closeAccepted_frame (n : LineNo) (k : Nat) (s : State) :
    (closeAccepted n k s).pending = s.pending ∧ (closeAccepted n k s).draws = s.draws ∧
    (closeAccepted n k s).control = s.control ∧ (closeAccepted n k s).slotPath = s.slotPath ∧
    (closeAccepted n k s).estimators = s.estimators ∧ (closeAccepted n k s).settings = s.settings ∧
    (closeAccepted n k s).orders = s.orders := by
  unfold closeAccepted
  (repeat' split) <;> simp

@[simp] theorem acceptChange_frame (n : LineNo) (s : State) :
    (acceptChange n s).pending = s.pending ∧ (acceptChange n s).draws = s.draws ∧
    (acceptChange n s).control = s.control ∧ (acceptChange n s).slotPath = s.slotPath ∧
    (acceptChange n s).settings = s.settings ∧ (acceptChange n s).orders = s.orders := by
  unfold acceptChange
  dsimp only
  (repeat' split) <;> simp

@[simp] theorem enterLongOpen_frame (n : LineNo) (s : State) :
    (enterLongOpen n s).pending = s.pending ∧ (enterLongOpen n s).draws = s.draws ∧
    (enterLongOpen n s).control = s.control ∧ (enterLongOpen n s).slotPath = s.slotPath ∧
    (enterLongOpen n s).estimators = s.estimators ∧ (enterLongOpen n s).settings = s.settings ∧
    (enterLongOpen n s).plan = s.plan ∧ (enterLongOpen n s).pool = s.pool ∧
    (enterLongOpen n s).voices = s.voices ∧ (enterLongOpen n s).writer = s.writer ∧
    (enterLongOpen n s).orders = s.orders ∧ (enterLongOpen n s).port = s.port := by
  unfold enterLongOpen
  (repeat' split) <;> simp

@[simp] theorem declareClear_frame (n : LineNo) (s : State) :
    (declareClear n s).pending = s.pending ∧ (declareClear n s).draws = s.draws ∧
    (declareClear n s).control = s.control ∧ (declareClear n s).slotPath = s.slotPath ∧
    (declareClear n s).estimators = s.estimators ∧ (declareClear n s).settings = s.settings := by
  simp [declareClear]

@[simp] theorem completeDigit_frame (n : LineNo) (s : State) :
    (completeDigit n s).pending = s.pending ∧ (completeDigit n s).draws = s.draws ∧
    (completeDigit n s).slotPath = s.slotPath ∧ (completeDigit n s).estimators = s.estimators ∧
    (completeDigit n s).settings = s.settings := by
  simp [completeDigit]

@[simp] theorem takeSeizure_frame (n : LineNo) (s : State) :
    (takeSeizure n s).pending = s.pending ∧ (takeSeizure n s).draws = s.draws ∧
    (takeSeizure n s).control = s.control ∧ (takeSeizure n s).slotPath = s.slotPath ∧
    (takeSeizure n s).settings = s.settings ∧ (takeSeizure n s).plan = s.plan ∧
    (takeSeizure n s).orders = s.orders := by
  simp [takeSeizure]

end Sys2Proof.Machine
end

