-- ==== Sys2Proof/Laws/PartFrames.lean ====
section
/-! SUPPORT. Which blocks the operations of starting and stopping (Machine/PartControl.lean) leave unchanged. One lemma for each operation. -/

namespace Sys2Proof.Machine

/-- What each line's turn leaves unchanged, the turn of every line leaves unchanged. -/
theorem eachLine_keeps {α : Type} (p : State → α) (f : LineNo → State → State) (h : ∀ n s, p (f n s) = p s)
    (s : State) : p (eachLine f s) = p s := by
  unfold eachLine
  induction List.finRange Config.lines generalizing s with
  | nil => rfl
  | cons n ns ih => rw [List.foldl_cons, ih, h]

@[simp] theorem enterStarting_frame (s : State) :
    (enterStarting s).pending = s.pending ∧ (enterStarting s).draws = s.draws ∧
    (enterStarting s).slotPath = s.slotPath ∧ (enterStarting s).classifiers = s.classifiers ∧
    (enterStarting s).estimators = s.estimators ∧ (enterStarting s).lines = s.lines ∧
    (enterStarting s).settings = s.settings ∧ (enterStarting s).plan = s.plan ∧
    (enterStarting s).pool = s.pool ∧ (enterStarting s).voices = s.voices ∧
    (enterStarting s).writer = s.writer ∧ (enterStarting s).orders = s.orders := by
  simp [enterStarting]

@[simp] theorem installHeader_frame (h : List Byte) (s : State) :
    (installHeader h s).pending = s.pending ∧ (installHeader h s).draws = s.draws ∧
    (installHeader h s).control = s.control ∧ (installHeader h s).slotPath = s.slotPath ∧
    (installHeader h s).classifiers = s.classifiers ∧ (installHeader h s).estimators = s.estimators ∧
    (installHeader h s).lines = s.lines ∧ (installHeader h s).settings = s.settings ∧
    (installHeader h s).plan = s.plan ∧ (installHeader h s).voices = s.voices := by
  simp [installHeader]

@[simp] theorem enterRunning_frame (s : State) :
    (enterRunning s).pending = s.pending ∧ (enterRunning s).draws = s.draws ∧
    (enterRunning s).estimators = s.estimators ∧ (enterRunning s).settings = s.settings ∧
    (enterRunning s).voices = s.voices ∧ (enterRunning s).port = s.port := by
  simp [enterRunning]

@[simp] theorem failStart_frame (r : ResultCode) (s : State) :
    (failStart r s).pending = s.pending ∧ (failStart r s).draws = s.draws ∧
    (failStart r s).slotPath = s.slotPath ∧ (failStart r s).classifiers = s.classifiers ∧
    (failStart r s).estimators = s.estimators ∧ (failStart r s).lines = s.lines ∧
    (failStart r s).settings = s.settings ∧ (failStart r s).plan = s.plan ∧ (failStart r s).pool = s.pool ∧
    (failStart r s).voices = s.voices ∧ (failStart r s).writer = s.writer ∧ (failStart r s).orders = s.orders := by
  simp [failStart]

@[simp] theorem stopLine_frame (n : LineNo) (s : State) :
    (stopLine n s).pending = s.pending ∧ (stopLine n s).draws = s.draws ∧ (stopLine n s).control = s.control ∧
    (stopLine n s).slotPath = s.slotPath ∧ (stopLine n s).estimators = s.estimators ∧
    (stopLine n s).settings = s.settings := by
  unfold stopLine
  (repeat' split) <;> simp

@[simp] theorem stopLines_frame (s : State) :
    (stopLines s).pending = s.pending ∧ (stopLines s).draws = s.draws ∧ (stopLines s).control = s.control ∧
    (stopLines s).slotPath = s.slotPath ∧ (stopLines s).estimators = s.estimators ∧
    (stopLines s).settings = s.settings := by
  unfold stopLines
  refine ⟨?_, ?_, ?_, ?_, ?_, ?_⟩
  · exact eachLine_keeps State.pending stopLine (by simp) s
  · exact eachLine_keeps State.draws stopLine (by simp) s
  · exact eachLine_keeps State.control stopLine (by simp) s
  · exact eachLine_keeps State.slotPath stopLine (by simp) s
  · exact eachLine_keeps State.estimators stopLine (by simp) s
  · exact eachLine_keeps State.settings stopLine (by simp) s

@[simp] theorem dropDue_frame (s : State) :
    (dropDue s).pending = s.pending ∧ (dropDue s).draws = s.draws ∧ (dropDue s).control = s.control ∧
    (dropDue s).slotPath = s.slotPath ∧ (dropDue s).estimators = s.estimators ∧ (dropDue s).lines = s.lines ∧
    (dropDue s).settings = s.settings ∧ (dropDue s).plan = s.plan ∧ (dropDue s).pool = s.pool ∧
    (dropDue s).voices = s.voices ∧ (dropDue s).writer = s.writer ∧ (dropDue s).port = s.port := by
  simp [dropDue]

@[simp] theorem leaveStopping_frame (s : State) :
    (leaveStopping s).pending = s.pending ∧ (leaveStopping s).draws = s.draws ∧
    (leaveStopping s).classifiers = s.classifiers ∧ (leaveStopping s).estimators = s.estimators ∧
    (leaveStopping s).lines = s.lines ∧ (leaveStopping s).settings = s.settings ∧
    (leaveStopping s).plan = s.plan ∧ (leaveStopping s).pool = s.pool ∧ (leaveStopping s).voices = s.voices ∧
    (leaveStopping s).writer = s.writer ∧ (leaveStopping s).orders = s.orders := by
  unfold leaveStopping
  dsimp only
  (repeat' split) <;> simp

@[simp] theorem stopAdvance_frame (s : State) :
    (stopAdvance s).pending = s.pending ∧ (stopAdvance s).draws = s.draws ∧
    (stopAdvance s).estimators = s.estimators ∧ (stopAdvance s).settings = s.settings := by
  unfold stopAdvance
  dsimp only
  (repeat' split) <;> simp

@[simp] theorem unpark_frame (s : State) :
    (unpark s).pending = s.pending ∧ (unpark s).draws = s.draws ∧ (unpark s).control = s.control ∧
    (unpark s).slotPath = s.slotPath ∧ (unpark s).classifiers = s.classifiers ∧
    (unpark s).estimators = s.estimators ∧ (unpark s).lines = s.lines ∧ (unpark s).settings = s.settings ∧
    (unpark s).plan = s.plan ∧ (unpark s).pool = s.pool ∧ (unpark s).voices = s.voices ∧
    (unpark s).orders = s.orders := by
  unfold unpark
  (repeat' split) <;> simp

@[simp] theorem enterStopping_frame (s : State) :
    (enterStopping s).pending = s.pending ∧ (enterStopping s).draws = s.draws ∧
    (enterStopping s).slotPath = s.slotPath ∧ (enterStopping s).estimators = s.estimators ∧
    (enterStopping s).lines = s.lines ∧ (enterStopping s).settings = s.settings ∧
    (enterStopping s).pool = s.pool ∧ (enterStopping s).voices = s.voices := by
  simp [enterStopping]

@[simp] theorem dropDrafts_frame (s : State) :
    (dropDrafts s).pending = s.pending ∧ (dropDrafts s).draws = s.draws ∧
    (dropDrafts s).slotPath = s.slotPath ∧ (dropDrafts s).classifiers = s.classifiers ∧
    (dropDrafts s).estimators = s.estimators ∧ (dropDrafts s).lines = s.lines ∧
    (dropDrafts s).settings = s.settings ∧ (dropDrafts s).plan = s.plan ∧ (dropDrafts s).pool = s.pool ∧
    (dropDrafts s).voices = s.voices ∧ (dropDrafts s).orders = s.orders := by
  simp [dropDrafts]

@[simp] theorem dropOrder_frame (s : State) :
    (dropOrder s).pending = s.pending ∧ (dropOrder s).draws = s.draws ∧ (dropOrder s).control = s.control ∧
    (dropOrder s).slotPath = s.slotPath ∧ (dropOrder s).classifiers = s.classifiers ∧
    (dropOrder s).estimators = s.estimators ∧ (dropOrder s).lines = s.lines ∧
    (dropOrder s).settings = s.settings ∧ (dropOrder s).pool = s.pool ∧ (dropOrder s).voices = s.voices ∧
    (dropOrder s).writer = s.writer ∧ (dropOrder s).port = s.port := by
  unfold dropOrder
  (repeat' split) <;> simp

@[simp] theorem stopOnError_frame (s : State) :
    (stopOnError s).pending = s.pending ∧ (stopOnError s).draws = s.draws ∧
    (stopOnError s).slotPath = s.slotPath ∧ (stopOnError s).estimators = s.estimators ∧
    (stopOnError s).settings = s.settings := by
  simp [stopOnError]

end Sys2Proof.Machine
end

