-- ==== Sys2Proof/Laws/EventFrames.lean ====
section
/-! SUPPORT. Which blocks the part's own events, the synthesizer and what follows every step (Machine/Events.lean, TrunkFrame.lean, Schedule.lean) leave unchanged. One lemma for each operation. -/

namespace Sys2Proof.Machine

@[simp] theorem tickTimers_frame (s : State) :
    (tickTimers s).pending = s.pending ∧ (tickTimers s).draws = s.draws ∧ (tickTimers s).control = s.control ∧
    (tickTimers s).slotPath = s.slotPath ∧ (tickTimers s).classifiers = s.classifiers ∧
    (tickTimers s).estimators = s.estimators ∧ (tickTimers s).settings = s.settings ∧
    (tickTimers s).plan = s.plan ∧ (tickTimers s).voices = s.voices ∧ (tickTimers s).writer = s.writer ∧
    (tickTimers s).port = s.port := by
  simp [tickTimers]

@[simp] theorem takeMillisecond_frame (s : State) :
    (takeMillisecond s).pending = s.pending ∧ (takeMillisecond s).draws = s.draws ∧
    (takeMillisecond s).control = s.control ∧ (takeMillisecond s).classifiers = s.classifiers ∧
    (takeMillisecond s).estimators = s.estimators ∧ (takeMillisecond s).settings = s.settings ∧
    (takeMillisecond s).plan = s.plan ∧ (takeMillisecond s).voices = s.voices ∧
    (takeMillisecond s).writer = s.writer ∧ (takeMillisecond s).port = s.port := by
  unfold takeMillisecond
  dsimp only
  (repeat' split) <;> simp

@[simp] theorem firstDigitExpires_frame (n : LineNo) (s : State) :
    (firstDigitExpires n s).pending = s.pending ∧ (firstDigitExpires n s).draws = s.draws ∧
    (firstDigitExpires n s).control = s.control ∧ (firstDigitExpires n s).slotPath = s.slotPath ∧
    (firstDigitExpires n s).classifiers = s.classifiers ∧ (firstDigitExpires n s).estimators = s.estimators ∧
    (firstDigitExpires n s).settings = s.settings ∧ (firstDigitExpires n s).plan = s.plan ∧
    (firstDigitExpires n s).orders = s.orders := by
  simp [firstDigitExpires]

@[simp] theorem completeExpires_frame (n : LineNo) (s : State) :
    (completeExpires n s).pending = s.pending ∧ (completeExpires n s).draws = s.draws ∧
    (completeExpires n s).slotPath = s.slotPath ∧ (completeExpires n s).classifiers = s.classifiers ∧
    (completeExpires n s).estimators = s.estimators ∧ (completeExpires n s).settings = s.settings := by
  simp [completeExpires]

@[simp] theorem quietExpires_frame (n : LineNo) (s : State) :
    (quietExpires n s).pending = s.pending ∧ (quietExpires n s).draws = s.draws ∧
    (quietExpires n s).control = s.control ∧ (quietExpires n s).slotPath = s.slotPath ∧
    (quietExpires n s).classifiers = s.classifiers ∧ (quietExpires n s).estimators = s.estimators ∧
    (quietExpires n s).settings = s.settings ∧ (quietExpires n s).plan = s.plan ∧
    (quietExpires n s).orders = s.orders := by
  simp [quietExpires]

@[simp] theorem proceedExpires_frame (n : LineNo) (s : State) :
    (proceedExpires n s).pending = s.pending ∧ (proceedExpires n s).draws = s.draws ∧
    (proceedExpires n s).control = s.control ∧ (proceedExpires n s).slotPath = s.slotPath ∧
    (proceedExpires n s).classifiers = s.classifiers ∧ (proceedExpires n s).estimators = s.estimators ∧
    (proceedExpires n s).settings = s.settings := by
  simp [proceedExpires]

@[simp] theorem generatorWaitExpires_frame (n : LineNo) (s : State) :
    (generatorWaitExpires n s).pending = s.pending ∧ (generatorWaitExpires n s).draws = s.draws ∧
    (generatorWaitExpires n s).control = s.control ∧ (generatorWaitExpires n s).slotPath = s.slotPath ∧
    (generatorWaitExpires n s).classifiers = s.classifiers ∧
    (generatorWaitExpires n s).estimators = s.estimators ∧ (generatorWaitExpires n s).settings = s.settings := by
  simp [generatorWaitExpires]

@[simp] theorem escapeExpires_frame (n : LineNo) (s : State) :
    (escapeExpires n s).pending = s.pending ∧ (escapeExpires n s).draws = s.draws ∧
    (escapeExpires n s).control = s.control ∧ (escapeExpires n s).slotPath = s.slotPath ∧
    (escapeExpires n s).classifiers = s.classifiers ∧ (escapeExpires n s).estimators = s.estimators ∧
    (escapeExpires n s).settings = s.settings ∧ (escapeExpires n s).orders = s.orders := by
  unfold escapeExpires
  (repeat' split) <;> simp

@[simp] theorem muteTailExpires_frame (n : LineNo) (s : State) :
    (muteTailExpires n s).pending = s.pending ∧ (muteTailExpires n s).draws = s.draws ∧
    (muteTailExpires n s).control = s.control ∧ (muteTailExpires n s).slotPath = s.slotPath ∧
    (muteTailExpires n s).classifiers = s.classifiers ∧ (muteTailExpires n s).estimators = s.estimators ∧
    (muteTailExpires n s).settings = s.settings ∧ (muteTailExpires n s).plan = s.plan ∧
    (muteTailExpires n s).pool = s.pool ∧ (muteTailExpires n s).voices = s.voices ∧
    (muteTailExpires n s).writer = s.writer ∧ (muteTailExpires n s).orders = s.orders ∧
    (muteTailExpires n s).port = s.port := by
  simp [muteTailExpires]

@[simp] theorem flashOutExpires_frame (n : LineNo) (s : State) :
    (flashOutExpires n s).pending = s.pending ∧ (flashOutExpires n s).draws = s.draws ∧
    (flashOutExpires n s).control = s.control ∧ (flashOutExpires n s).slotPath = s.slotPath ∧
    (flashOutExpires n s).classifiers = s.classifiers ∧ (flashOutExpires n s).estimators = s.estimators ∧
    (flashOutExpires n s).settings = s.settings ∧ (flashOutExpires n s).plan = s.plan ∧
    (flashOutExpires n s).pool = s.pool ∧ (flashOutExpires n s).voices = s.voices ∧
    (flashOutExpires n s).writer = s.writer ∧ (flashOutExpires n s).orders = s.orders ∧
    (flashOutExpires n s).port = s.port := by
  simp [flashOutExpires]

@[simp] theorem timerExpires_frame (k : TimerKind) (n : LineNo) (s : State) :
    (timerExpires k n s).pending = s.pending ∧ (timerExpires k n s).draws = s.draws ∧
    (timerExpires k n s).slotPath = s.slotPath ∧ (timerExpires k n s).classifiers = s.classifiers ∧
    (timerExpires k n s).estimators = s.estimators ∧ (timerExpires k n s).settings = s.settings := by
  unfold timerExpires
  (repeat' split) <;> simp

@[simp] theorem completeSendTones_frame (s : State) :
    (completeSendTones s).pending = s.pending ∧ (completeSendTones s).draws = s.draws ∧
    (completeSendTones s).control = s.control ∧ (completeSendTones s).slotPath = s.slotPath ∧
    (completeSendTones s).classifiers = s.classifiers ∧ (completeSendTones s).estimators = s.estimators ∧
    (completeSendTones s).lines = s.lines ∧ (completeSendTones s).settings = s.settings ∧
    (completeSendTones s).plan = s.plan ∧ (completeSendTones s).pool = s.pool ∧
    (completeSendTones s).voices = s.voices ∧ (completeSendTones s).writer = s.writer := by
  unfold completeSendTones
  (repeat' split) <;> simp

@[simp] theorem orderEntrySent_frame (n : LineNo) (s : State) :
    (orderEntrySent n s).pending = s.pending ∧ (orderEntrySent n s).draws = s.draws ∧
    (orderEntrySent n s).control = s.control ∧ (orderEntrySent n s).slotPath = s.slotPath ∧
    (orderEntrySent n s).classifiers = s.classifiers ∧ (orderEntrySent n s).estimators = s.estimators ∧
    (orderEntrySent n s).settings = s.settings ∧ (orderEntrySent n s).plan = s.plan ∧
    (orderEntrySent n s).voices = s.voices ∧ (orderEntrySent n s).writer = s.writer := by
  unfold orderEntrySent
  dsimp only
  (repeat' split) <;> simp

@[simp] theorem headSent_frame (n : LineNo) (s : State) :
    (headSent n s).pending = s.pending ∧ (headSent n s).draws = s.draws ∧ (headSent n s).control = s.control ∧
    (headSent n s).slotPath = s.slotPath ∧ (headSent n s).classifiers = s.classifiers ∧
    (headSent n s).estimators = s.estimators ∧ (headSent n s).settings = s.settings ∧
    (headSent n s).plan = s.plan ∧ (headSent n s).voices = s.voices ∧ (headSent n s).writer = s.writer := by
  unfold headSent
  dsimp only
  (repeat' split) <;> simp

@[simp] theorem onExpires_frame (g : GenNo) (s : State) :
    (onExpires g s).pending = s.pending ∧ (onExpires g s).draws = s.draws ∧
    (onExpires g s).control = s.control ∧ (onExpires g s).slotPath = s.slotPath ∧
    (onExpires g s).classifiers = s.classifiers ∧ (onExpires g s).estimators = s.estimators ∧
    (onExpires g s).settings = s.settings ∧ (onExpires g s).plan = s.plan := by
  unfold onExpires
  (repeat' split) <;> simp

@[simp] theorem gapExpires_frame (g : GenNo) (s : State) :
    (gapExpires g s).pending = s.pending ∧ (gapExpires g s).draws = s.draws ∧
    (gapExpires g s).control = s.control ∧ (gapExpires g s).slotPath = s.slotPath ∧
    (gapExpires g s).classifiers = s.classifiers ∧ (gapExpires g s).estimators = s.estimators ∧
    (gapExpires g s).settings = s.settings ∧ (gapExpires g s).plan = s.plan ∧ (gapExpires g s).orders = s.orders := by
  unfold gapExpires
  (repeat' split) <;> simp

@[simp] theorem holdExpires_frame (g : GenNo) (s : State) :
    (holdExpires g s).pending = s.pending ∧ (holdExpires g s).draws = s.draws ∧
    (holdExpires g s).control = s.control ∧ (holdExpires g s).slotPath = s.slotPath ∧
    (holdExpires g s).classifiers = s.classifiers ∧ (holdExpires g s).estimators = s.estimators ∧
    (holdExpires g s).settings = s.settings ∧ (holdExpires g s).plan = s.plan ∧
    (holdExpires g s).orders = s.orders := by
  unfold holdExpires
  (repeat' split) <;> simp

@[simp] theorem beginScan_frame (s : State) :
    (beginScan s).pending = s.pending ∧ (beginScan s).draws = s.draws ∧ (beginScan s).control = s.control ∧
    (beginScan s).slotPath = s.slotPath ∧ (beginScan s).classifiers = s.classifiers ∧
    (beginScan s).estimators = s.estimators ∧ (beginScan s).lines = s.lines ∧
    (beginScan s).settings = s.settings ∧ (beginScan s).plan = s.plan ∧ (beginScan s).pool = s.pool ∧
    (beginScan s).voices = s.voices ∧ (beginScan s).writer = s.writer := by
  unfold beginScan
  (repeat' split) <;> simp

@[simp] theorem retryParked_frame (s : State) :
    (retryParked s).pending = s.pending ∧ (retryParked s).draws = s.draws ∧
    (retryParked s).control = s.control ∧ (retryParked s).slotPath = s.slotPath ∧
    (retryParked s).classifiers = s.classifiers ∧ (retryParked s).estimators = s.estimators ∧
    (retryParked s).lines = s.lines ∧ (retryParked s).settings = s.settings ∧ (retryParked s).plan = s.plan ∧
    (retryParked s).pool = s.pool ∧ (retryParked s).voices = s.voices ∧ (retryParked s).orders = s.orders := by
  unfold retryParked
  (repeat' split) <;> simp

@[simp] theorem takeSweep_frame (s : State) :
    (takeSweep s).pending = s.pending ∧ (takeSweep s).draws = s.draws ∧ (takeSweep s).control = s.control ∧
    (takeSweep s).slotPath = s.slotPath ∧ (takeSweep s).classifiers = s.classifiers ∧
    (takeSweep s).estimators = s.estimators ∧ (takeSweep s).lines = s.lines ∧
    (takeSweep s).settings = s.settings ∧ (takeSweep s).plan = s.plan ∧ (takeSweep s).pool = s.pool ∧
    (takeSweep s).voices = s.voices := by
  simp [takeSweep]

@[simp] theorem setClip_frame (g : GenNo) (s : State) :
    (setClip g s).pending = s.pending ∧ (setClip g s).draws = s.draws ∧ (setClip g s).control = s.control ∧
    (setClip g s).slotPath = s.slotPath ∧ (setClip g s).classifiers = s.classifiers ∧
    (setClip g s).estimators = s.estimators ∧ (setClip g s).settings = s.settings ∧
    (setClip g s).plan = s.plan ∧ (setClip g s).voices = s.voices ∧ (setClip g s).writer = s.writer ∧
    (setClip g s).orders = s.orders ∧ (setClip g s).port = s.port := by
  unfold setClip
  dsimp only
  (repeat' split) <;> simp

@[simp] theorem synthesize_frame (g : GenNo) (s : State) :
    (synthesize g s).pending = s.pending ∧ (synthesize g s).draws = s.draws ∧
    (synthesize g s).control = s.control ∧ (synthesize g s).slotPath = s.slotPath ∧
    (synthesize g s).classifiers = s.classifiers ∧ (synthesize g s).estimators = s.estimators ∧
    (synthesize g s).settings = s.settings ∧ (synthesize g s).plan = s.plan ∧
    (synthesize g s).writer = s.writer ∧ (synthesize g s).orders = s.orders ∧ (synthesize g s).port = s.port := by
  unfold synthesize
  dsimp only
  (repeat' split) <;> simp

/-- What each generator's sample leaves unchanged, the samples of all leave unchanged. -/
theorem synthesizeAll_keeps {α : Type} (p : State → α) (h : ∀ g s, p (synthesize g s) = p s) (s : State) :
    p (synthesizeAll s) = p s := by
  unfold synthesizeAll
  split
  · induction List.finRange Config.generators generalizing s with
    | nil => rfl
    | cons g gs ih => rw [List.foldl_cons, ih _ (by simpa using ‹s.running = true›), h]
  · rfl

@[simp] theorem synthesizeAll_frame (s : State) :
    (synthesizeAll s).pending = s.pending ∧ (synthesizeAll s).draws = s.draws ∧
    (synthesizeAll s).control = s.control ∧ (synthesizeAll s).slotPath = s.slotPath ∧
    (synthesizeAll s).classifiers = s.classifiers ∧ (synthesizeAll s).estimators = s.estimators ∧
    (synthesizeAll s).settings = s.settings ∧ (synthesizeAll s).plan = s.plan ∧
    (synthesizeAll s).writer = s.writer ∧ (synthesizeAll s).orders = s.orders ∧ (synthesizeAll s).port = s.port := by
  refine ⟨?_, ?_, ?_, ?_, ?_, ?_, ?_, ?_, ?_, ?_, ?_⟩
  · exact synthesizeAll_keeps State.pending (by simp) s
  · exact synthesizeAll_keeps State.draws (by simp) s
  · exact synthesizeAll_keeps State.control (by simp) s
  · exact synthesizeAll_keeps State.slotPath (by simp) s
  · exact synthesizeAll_keeps State.classifiers (by simp) s
  · exact synthesizeAll_keeps State.estimators (by simp) s
  · exact synthesizeAll_keeps State.settings (by simp) s
  · exact synthesizeAll_keeps State.plan (by simp) s
  · exact synthesizeAll_keeps State.writer (by simp) s
  · exact synthesizeAll_keeps State.orders (by simp) s
  · exact synthesizeAll_keeps State.port (by simp) s

@[simp] theorem conclude_frame (s : State) :
    (conclude s).pending = s.pending ∧ (conclude s).draws = s.draws ∧ (conclude s).control = s.control ∧
    (conclude s).classifiers = s.classifiers ∧ (conclude s).estimators = s.estimators ∧
    (conclude s).settings = s.settings ∧ (conclude s).plan = s.plan ∧ (conclude s).writer = s.writer ∧
    (conclude s).orders = s.orders ∧ (conclude s).port = s.port := by
  unfold conclude
  (repeat' split) <;> simp

@[simp] theorem concludeIfQuiet_frame (s : State) :
    (concludeIfQuiet s).pending = s.pending ∧ (concludeIfQuiet s).draws = s.draws ∧
    (concludeIfQuiet s).control = s.control ∧ (concludeIfQuiet s).classifiers = s.classifiers ∧
    (concludeIfQuiet s).estimators = s.estimators ∧ (concludeIfQuiet s).settings = s.settings ∧
    (concludeIfQuiet s).plan = s.plan ∧ (concludeIfQuiet s).writer = s.writer ∧
    (concludeIfQuiet s).orders = s.orders ∧ (concludeIfQuiet s).port = s.port := by
  unfold concludeIfQuiet
  (repeat' split) <;> simp

@[simp] theorem beginMoment_frame (s : State) :
    (beginMoment s).pending = s.pending ∧ (beginMoment s).draws = s.draws ∧ (beginMoment s).control = s.control ∧
    (beginMoment s).classifiers = s.classifiers ∧ (beginMoment s).estimators = s.estimators ∧
    (beginMoment s).lines = s.lines ∧ (beginMoment s).settings = s.settings ∧ (beginMoment s).plan = s.plan ∧
    (beginMoment s).pool = s.pool ∧ (beginMoment s).voices = s.voices ∧ (beginMoment s).writer = s.writer ∧
    (beginMoment s).orders = s.orders ∧ (beginMoment s).port = s.port := by
  simp [beginMoment]

@[simp] theorem sendTrunk_frame (s : State) :
    (sendTrunk s).pending = s.pending ∧ (sendTrunk s).draws = s.draws ∧ (sendTrunk s).control = s.control ∧
    (sendTrunk s).classifiers = s.classifiers ∧ (sendTrunk s).estimators = s.estimators ∧
    (sendTrunk s).lines = s.lines ∧ (sendTrunk s).settings = s.settings ∧ (sendTrunk s).plan = s.plan ∧
    (sendTrunk s).pool = s.pool ∧ (sendTrunk s).voices = s.voices ∧ (sendTrunk s).writer = s.writer ∧
    (sendTrunk s).orders = s.orders ∧ (sendTrunk s).port = s.port := by
  simp [sendTrunk]

@[simp] theorem takeDue_frame (e : Due) (s : State) :
    (takeDue e s).pending = s.pending ∧ (takeDue e s).draws = s.draws ∧ (takeDue e s).settings = s.settings := by
  unfold takeDue
  (repeat' split) <;> simp

@[simp] theorem advance_frame (s : State) :
    (advance s).pending = s.pending ∧ (advance s).draws = s.draws ∧ (advance s).estimators = s.estimators ∧
    (advance s).settings = s.settings := by
  simp [advance]

@[simp] theorem epilogue_frame (s : State) :
    (epilogue s).pending = s.pending ∧ (epilogue s).draws = s.draws ∧ (epilogue s).estimators = s.estimators ∧
    (epilogue s).settings = s.settings := by
  simp [epilogue]

end Sys2Proof.Machine
end

