-- ==== Sys2Proof/Laws/CommandFrames.lean ====
section
/-! SUPPORT. Which blocks the commands' own operations (Registers, Highways, Scan, SettingsOrders, PlanOrders, SendTones, Records, MemoryPort) leave unchanged. One lemma for each operation. -/

namespace Sys2Proof.Machine

@[simp] theorem runWritten1_frame (s : State) :
    (runWritten1 s).pending = s.pending ∧ (runWritten1 s).draws = s.draws ∧
    (runWritten1 s).slotPath = s.slotPath ∧ (runWritten1 s).classifiers = s.classifiers ∧
    (runWritten1 s).estimators = s.estimators ∧ (runWritten1 s).lines = s.lines ∧
    (runWritten1 s).settings = s.settings ∧ (runWritten1 s).plan = s.plan ∧ (runWritten1 s).pool = s.pool ∧
    (runWritten1 s).voices = s.voices ∧ (runWritten1 s).writer = s.writer ∧ (runWritten1 s).orders = s.orders := by
  unfold runWritten1
  dsimp only
  (repeat' split) <;> simp

@[simp] theorem runCleared_frame (s : State) :
    (runCleared s).pending = s.pending ∧ (runCleared s).draws = s.draws ∧
    (runCleared s).slotPath = s.slotPath ∧ (runCleared s).estimators = s.estimators ∧
    (runCleared s).lines = s.lines ∧ (runCleared s).settings = s.settings ∧ (runCleared s).pool = s.pool ∧
    (runCleared s).voices = s.voices := by
  unfold runCleared
  (repeat' split) <;> simp

@[simp] theorem runWritten0_frame (s : State) :
    (runWritten0 s).pending = s.pending ∧ (runWritten0 s).draws = s.draws ∧
    (runWritten0 s).slotPath = s.slotPath ∧ (runWritten0 s).estimators = s.estimators ∧
    (runWritten0 s).lines = s.lines ∧ (runWritten0 s).settings = s.settings ∧ (runWritten0 s).pool = s.pool ∧
    (runWritten0 s).voices = s.voices := by
  unfold runWritten0
  (repeat' split) <;> simp

@[simp] theorem writeRun_frame (r : Bool) (s : State) :
    (writeRun r s).pending = s.pending ∧ (writeRun r s).draws = s.draws ∧
    (writeRun r s).slotPath = s.slotPath ∧ (writeRun r s).estimators = s.estimators ∧
    (writeRun r s).lines = s.lines ∧ (writeRun r s).settings = s.settings ∧ (writeRun r s).pool = s.pool ∧
    (writeRun r s).voices = s.voices := by
  unfold writeRun
  (repeat' split) <;> simp

@[simp] theorem writeAttnEnable_frame (v : Bool) (s : State) :
    (writeAttnEnable v s).pending = s.pending ∧ (writeAttnEnable v s).draws = s.draws ∧
    (writeAttnEnable v s).slotPath = s.slotPath ∧ (writeAttnEnable v s).classifiers = s.classifiers ∧
    (writeAttnEnable v s).estimators = s.estimators ∧ (writeAttnEnable v s).lines = s.lines ∧
    (writeAttnEnable v s).settings = s.settings ∧ (writeAttnEnable v s).plan = s.plan ∧
    (writeAttnEnable v s).pool = s.pool ∧ (writeAttnEnable v s).voices = s.voices ∧
    (writeAttnEnable v s).writer = s.writer ∧ (writeAttnEnable v s).orders = s.orders ∧
    (writeAttnEnable v s).port = s.port := by
  unfold writeAttnEnable
  (repeat' split) <;> simp

@[simp] theorem holdResetRelease_frame (r a : Bool) (s : State) :
    (holdResetRelease r a s).pending = s.pending ∧ (holdResetRelease r a s).draws = s.draws ∧
    (holdResetRelease r a s).slotPath = s.slotPath ∧ (holdResetRelease r a s).estimators = s.estimators ∧
    (holdResetRelease r a s).lines = s.lines ∧ (holdResetRelease r a s).settings = s.settings ∧
    (holdResetRelease r a s).pool = s.pool ∧ (holdResetRelease r a s).voices = s.voices := by
  unfold holdResetRelease
  (repeat' split) <;> simp

@[simp] theorem writeStationBase_frame (v : Word) (s : State) :
    (writeStationBase v s).pending = s.pending ∧ (writeStationBase v s).draws = s.draws ∧
    (writeStationBase v s).slotPath = s.slotPath ∧ (writeStationBase v s).classifiers = s.classifiers ∧
    (writeStationBase v s).estimators = s.estimators ∧ (writeStationBase v s).lines = s.lines ∧
    (writeStationBase v s).settings = s.settings ∧ (writeStationBase v s).plan = s.plan ∧
    (writeStationBase v s).pool = s.pool ∧ (writeStationBase v s).voices = s.voices ∧
    (writeStationBase v s).writer = s.writer ∧ (writeStationBase v s).orders = s.orders ∧
    (writeStationBase v s).port = s.port := by
  unfold writeStationBase
  (repeat' split) <;> simp

@[simp] theorem writeAttentionMask_frame (v : Word) (s : State) :
    (writeAttentionMask v s).pending = s.pending ∧ (writeAttentionMask v s).draws = s.draws ∧
    (writeAttentionMask v s).slotPath = s.slotPath ∧ (writeAttentionMask v s).classifiers = s.classifiers ∧
    (writeAttentionMask v s).estimators = s.estimators ∧ (writeAttentionMask v s).lines = s.lines ∧
    (writeAttentionMask v s).settings = s.settings ∧ (writeAttentionMask v s).plan = s.plan ∧
    (writeAttentionMask v s).pool = s.pool ∧ (writeAttentionMask v s).voices = s.voices ∧
    (writeAttentionMask v s).writer = s.writer ∧ (writeAttentionMask v s).orders = s.orders ∧
    (writeAttentionMask v s).port = s.port := by
  simp [writeAttentionMask]

@[simp] theorem readAttention_frame (s : State) :
    (readAttention s).pending = s.pending ∧ (readAttention s).draws = s.draws ∧
    (readAttention s).slotPath = s.slotPath ∧ (readAttention s).classifiers = s.classifiers ∧
    (readAttention s).estimators = s.estimators ∧ (readAttention s).lines = s.lines ∧
    (readAttention s).settings = s.settings ∧ (readAttention s).plan = s.plan ∧
    (readAttention s).pool = s.pool ∧ (readAttention s).voices = s.voices ∧
    (readAttention s).writer = s.writer ∧ (readAttention s).orders = s.orders ∧ (readAttention s).port = s.port := by
  simp [readAttention]

@[simp] theorem abortAndRun_frame (r : Bool) (s : State) :
    (abortAndRun r s).pending = s.pending ∧ (abortAndRun r s).slotPath = s.slotPath ∧
    (abortAndRun r s).estimators = s.estimators ∧ (abortAndRun r s).settings = s.settings := by
  unfold abortAndRun
  (repeat' split) <;> simp

@[simp] theorem frameTime_frame (s : State) :
    (frameTime s).pending = s.pending ∧ (frameTime s).draws = s.draws ∧ (frameTime s).control = s.control ∧
    (frameTime s).classifiers = s.classifiers ∧ (frameTime s).estimators = s.estimators ∧
    (frameTime s).lines = s.lines ∧ (frameTime s).settings = s.settings ∧ (frameTime s).plan = s.plan ∧
    (frameTime s).pool = s.pool ∧ (frameTime s).voices = s.voices ∧ (frameTime s).writer = s.writer ∧
    (frameTime s).orders = s.orders ∧ (frameTime s).port = s.port := by
  unfold frameTime
  (repeat' split) <;> simp

@[simp] theorem useFrame_frame (f : LineFrame) (s : State) :
    (useFrame f s).pending = s.pending ∧ (useFrame f s).draws = s.draws ∧ (useFrame f s).control = s.control ∧
    (useFrame f s).estimators = s.estimators ∧ (useFrame f s).settings = s.settings ∧
    (useFrame f s).plan = s.plan ∧ (useFrame f s).pool = s.pool ∧ (useFrame f s).voices = s.voices ∧
    (useFrame f s).writer = s.writer ∧ (useFrame f s).orders = s.orders ∧ (useFrame f s).port = s.port := by
  unfold useFrame
  dsimp only
  (repeat' split) <;> simp

@[simp] theorem lineFrameArrives_frame (f : LineFrame) (s : State) :
    (lineFrameArrives f s).pending = s.pending ∧ (lineFrameArrives f s).draws = s.draws ∧
    (lineFrameArrives f s).estimators = s.estimators ∧ (lineFrameArrives f s).settings = s.settings ∧
    (lineFrameArrives f s).plan = s.plan ∧ (lineFrameArrives f s).pool = s.pool ∧
    (lineFrameArrives f s).voices = s.voices ∧ (lineFrameArrives f s).writer = s.writer ∧
    (lineFrameArrives f s).orders = s.orders ∧ (lineFrameArrives f s).port = s.port := by
  unfold lineFrameArrives
  (repeat' split) <;> simp

@[simp] theorem referenceTime_frame (s : State) :
    (referenceTime s).pending = s.pending ∧ (referenceTime s).draws = s.draws ∧
    (referenceTime s).control = s.control ∧ (referenceTime s).classifiers = s.classifiers ∧
    (referenceTime s).estimators = s.estimators ∧ (referenceTime s).lines = s.lines ∧
    (referenceTime s).settings = s.settings ∧ (referenceTime s).plan = s.plan ∧
    (referenceTime s).pool = s.pool ∧ (referenceTime s).voices = s.voices ∧
    (referenceTime s).writer = s.writer ∧ (referenceTime s).orders = s.orders ∧ (referenceTime s).port = s.port := by
  unfold referenceTime
  dsimp only
  (repeat' split) <;> simp

@[simp] theorem loseLine_frame (n : LineNo) (s : State) :
    (loseLine n s).pending = s.pending ∧ (loseLine n s).draws = s.draws ∧ (loseLine n s).control = s.control ∧
    (loseLine n s).slotPath = s.slotPath ∧ (loseLine n s).estimators = s.estimators ∧
    (loseLine n s).settings = s.settings := by
  unfold loseLine
  dsimp only
  (repeat' split) <;> simp

@[simp] theorem loseLines_frame (s : State) :
    (loseLines s).pending = s.pending ∧ (loseLines s).draws = s.draws ∧ (loseLines s).control = s.control ∧
    (loseLines s).slotPath = s.slotPath ∧ (loseLines s).estimators = s.estimators ∧
    (loseLines s).settings = s.settings := by
  unfold loseLines
  refine ⟨?_, ?_, ?_, ?_, ?_, ?_⟩
  · exact eachLine_keeps State.pending loseLine (by simp) s
  · exact eachLine_keeps State.draws loseLine (by simp) s
  · exact eachLine_keeps State.control loseLine (by simp) s
  · exact eachLine_keeps State.slotPath loseLine (by simp) s
  · exact eachLine_keeps State.estimators loseLine (by simp) s
  · exact eachLine_keeps State.settings loseLine (by simp) s

@[simp] theorem owedFrameTimes_frame (s : State) :
    (owedFrameTimes s).pending = s.pending ∧ (owedFrameTimes s).draws = s.draws ∧
    (owedFrameTimes s).control = s.control ∧ (owedFrameTimes s).classifiers = s.classifiers ∧
    (owedFrameTimes s).estimators = s.estimators ∧ (owedFrameTimes s).lines = s.lines ∧
    (owedFrameTimes s).settings = s.settings ∧ (owedFrameTimes s).plan = s.plan ∧
    (owedFrameTimes s).pool = s.pool ∧ (owedFrameTimes s).voices = s.voices ∧
    (owedFrameTimes s).writer = s.writer ∧ (owedFrameTimes s).orders = s.orders ∧
    (owedFrameTimes s).port = s.port := by
  simp [owedFrameTimes]

@[simp] theorem loseLineHighway_frame (s : State) :
    (loseLineHighway s).pending = s.pending ∧ (loseLineHighway s).draws = s.draws ∧
    (loseLineHighway s).estimators = s.estimators ∧ (loseLineHighway s).settings = s.settings := by
  unfold loseLineHighway
  dsimp only
  (repeat' split) <;> simp

@[simp] theorem lineWatchExpires_frame (s : State) :
    (lineWatchExpires s).pending = s.pending ∧ (lineWatchExpires s).draws = s.draws ∧
    (lineWatchExpires s).estimators = s.estimators ∧ (lineWatchExpires s).settings = s.settings := by
  unfold lineWatchExpires
  (repeat' split) <;> simp

/-- What a delivered change of PROCEED leaves unchanged, an update of the flags leaves as setting them does. -/
theorem updateFlags_keeps {α : Type} (p : State → α) (h : ∀ n s, p (proceedChanged n s) = p s)
    (pr inc : Table Config.lines Bool) (s : State) :
    p (updateFlags pr inc s) = p (s.modSlotPath fun x => { x with proceed := pr, incoming := inc }) := by
  unfold updateFlags
  generalize s.modSlotPath _ = t
  induction proceedChanges s.slotPath.proceed pr generalizing t with
  | nil => rfl
  | cons n ns ih => rw [List.foldl_cons, ih, h]

@[simp] theorem updateFlags_frame (pr inc : Table Config.lines Bool) (s : State) :
    (updateFlags pr inc s).pending = s.pending ∧ (updateFlags pr inc s).draws = s.draws ∧
    (updateFlags pr inc s).control = s.control ∧ (updateFlags pr inc s).classifiers = s.classifiers ∧
    (updateFlags pr inc s).estimators = s.estimators ∧ (updateFlags pr inc s).settings = s.settings ∧
    (updateFlags pr inc s).plan = s.plan ∧ (updateFlags pr inc s).orders = s.orders := by
  refine ⟨?_, ?_, ?_, ?_, ?_, ?_, ?_, ?_⟩
  · exact updateFlags_keeps State.pending (by simp) pr inc s
  · exact updateFlags_keeps State.draws (by simp) pr inc s
  · exact updateFlags_keeps State.control (by simp) pr inc s
  · exact updateFlags_keeps State.classifiers (by simp) pr inc s
  · exact updateFlags_keeps State.estimators (by simp) pr inc s
  · exact updateFlags_keeps State.settings (by simp) pr inc s
  · exact updateFlags_keeps State.plan (by simp) pr inc s
  · exact updateFlags_keeps State.orders (by simp) pr inc s

@[simp] theorem frameFlags_frame (f : ReturnFrame) (s : State) :
    (frameFlags f s).pending = s.pending ∧ (frameFlags f s).draws = s.draws ∧
    (frameFlags f s).control = s.control ∧ (frameFlags f s).classifiers = s.classifiers ∧
    (frameFlags f s).estimators = s.estimators ∧ (frameFlags f s).settings = s.settings ∧
    (frameFlags f s).plan = s.plan ∧ (frameFlags f s).orders = s.orders := by
  simp [frameFlags]

@[simp] theorem returnFrameArrives_frame (f : ReturnFrame) (s : State) :
    (returnFrameArrives f s).pending = s.pending ∧ (returnFrameArrives f s).draws = s.draws ∧
    (returnFrameArrives f s).classifiers = s.classifiers ∧ (returnFrameArrives f s).estimators = s.estimators ∧
    (returnFrameArrives f s).settings = s.settings ∧ (returnFrameArrives f s).plan = s.plan ∧
    (returnFrameArrives f s).orders = s.orders := by
  unfold returnFrameArrives
  (repeat' split) <;> simp

@[simp] theorem loseReturnHighway_frame (s : State) :
    (loseReturnHighway s).pending = s.pending ∧ (loseReturnHighway s).draws = s.draws ∧
    (loseReturnHighway s).classifiers = s.classifiers ∧ (loseReturnHighway s).estimators = s.estimators ∧
    (loseReturnHighway s).settings = s.settings ∧ (loseReturnHighway s).plan = s.plan ∧
    (loseReturnHighway s).orders = s.orders := by
  simp [loseReturnHighway]

@[simp] theorem returnWatchExpires_frame (s : State) :
    (returnWatchExpires s).pending = s.pending ∧ (returnWatchExpires s).draws = s.draws ∧
    (returnWatchExpires s).classifiers = s.classifiers ∧ (returnWatchExpires s).estimators = s.estimators ∧
    (returnWatchExpires s).settings = s.settings ∧ (returnWatchExpires s).plan = s.plan ∧
    (returnWatchExpires s).orders = s.orders := by
  unfold returnWatchExpires
  (repeat' split) <;> simp

@[simp] theorem goOnScanning_frame (s : State) :
    (goOnScanning s).pending = s.pending ∧ (goOnScanning s).draws = s.draws ∧
    (goOnScanning s).control = s.control ∧ (goOnScanning s).slotPath = s.slotPath ∧
    (goOnScanning s).classifiers = s.classifiers ∧ (goOnScanning s).estimators = s.estimators ∧
    (goOnScanning s).lines = s.lines ∧ (goOnScanning s).settings = s.settings ∧
    (goOnScanning s).plan = s.plan ∧ (goOnScanning s).pool = s.pool ∧ (goOnScanning s).voices = s.voices ∧
    (goOnScanning s).writer = s.writer := by
  unfold goOnScanning
  (repeat' split) <;> simp

@[simp] theorem takeOrder_frame (i : Nat) (s : State) :
    (takeOrder i s).pending = s.pending ∧ (takeOrder i s).draws = s.draws ∧
    (takeOrder i s).control = s.control ∧ (takeOrder i s).slotPath = s.slotPath ∧
    (takeOrder i s).classifiers = s.classifiers ∧ (takeOrder i s).estimators = s.estimators ∧
    (takeOrder i s).lines = s.lines ∧ (takeOrder i s).settings = s.settings ∧ (takeOrder i s).plan = s.plan ∧
    (takeOrder i s).pool = s.pool ∧ (takeOrder i s).voices = s.voices ∧ (takeOrder i s).writer = s.writer := by
  simp [takeOrder]

@[simp] theorem orderMarkRead_frame (m : Word) (s : State) :
    (orderMarkRead m s).pending = s.pending ∧ (orderMarkRead m s).draws = s.draws ∧
    (orderMarkRead m s).control = s.control ∧ (orderMarkRead m s).slotPath = s.slotPath ∧
    (orderMarkRead m s).classifiers = s.classifiers ∧ (orderMarkRead m s).estimators = s.estimators ∧
    (orderMarkRead m s).lines = s.lines ∧ (orderMarkRead m s).settings = s.settings ∧
    (orderMarkRead m s).plan = s.plan ∧ (orderMarkRead m s).pool = s.pool ∧
    (orderMarkRead m s).voices = s.voices ∧ (orderMarkRead m s).writer = s.writer := by
  unfold orderMarkRead
  dsimp only
  (repeat' split) <;> simp

@[simp] theorem readBody_frame (s : State) :
    (readBody s).pending = s.pending ∧ (readBody s).draws = s.draws ∧ (readBody s).control = s.control ∧
    (readBody s).slotPath = s.slotPath ∧ (readBody s).classifiers = s.classifiers ∧
    (readBody s).estimators = s.estimators ∧ (readBody s).lines = s.lines ∧
    (readBody s).settings = s.settings ∧ (readBody s).plan = s.plan ∧ (readBody s).pool = s.pool ∧
    (readBody s).voices = s.voices ∧ (readBody s).writer = s.writer ∧ (readBody s).orders = s.orders := by
  unfold readBody
  (repeat' split) <;> simp

@[simp] theorem holdBody_frame (b : OrderBody) (s : State) :
    (holdBody b s).pending = s.pending ∧ (holdBody b s).draws = s.draws ∧ (holdBody b s).control = s.control ∧
    (holdBody b s).slotPath = s.slotPath ∧ (holdBody b s).classifiers = s.classifiers ∧
    (holdBody b s).estimators = s.estimators ∧ (holdBody b s).lines = s.lines ∧
    (holdBody b s).settings = s.settings ∧ (holdBody b s).plan = s.plan ∧ (holdBody b s).pool = s.pool ∧
    (holdBody b s).voices = s.voices ∧ (holdBody b s).writer = s.writer ∧ (holdBody b s).port = s.port := by
  simp [holdBody]

@[simp] theorem badParameter_frame (i : Nat) (s : State) :
    (badParameter i s).pending = s.pending ∧ (badParameter i s).draws = s.draws ∧
    (badParameter i s).control = s.control ∧ (badParameter i s).slotPath = s.slotPath ∧
    (badParameter i s).classifiers = s.classifiers ∧ (badParameter i s).estimators = s.estimators ∧
    (badParameter i s).lines = s.lines ∧ (badParameter i s).settings = s.settings ∧
    (badParameter i s).plan = s.plan ∧ (badParameter i s).pool = s.pool ∧
    (badParameter i s).voices = s.voices ∧ (badParameter i s).writer = s.writer := by
  simp [badParameter]

@[simp] theorem writeDone_frame (s : State) :
    (writeDone s).pending = s.pending ∧ (writeDone s).draws = s.draws ∧ (writeDone s).control = s.control ∧
    (writeDone s).slotPath = s.slotPath ∧ (writeDone s).classifiers = s.classifiers ∧
    (writeDone s).estimators = s.estimators ∧ (writeDone s).lines = s.lines ∧
    (writeDone s).settings = s.settings ∧ (writeDone s).plan = s.plan ∧ (writeDone s).pool = s.pool ∧
    (writeDone s).voices = s.voices ∧ (writeDone s).writer = s.writer ∧ (writeDone s).orders = s.orders := by
  unfold writeDone
  (repeat' split) <;> simp

@[simp] theorem orderDone_frame (s : State) :
    (orderDone s).pending = s.pending ∧ (orderDone s).draws = s.draws ∧ (orderDone s).slotPath = s.slotPath ∧
    (orderDone s).classifiers = s.classifiers ∧ (orderDone s).estimators = s.estimators ∧
    (orderDone s).lines = s.lines ∧ (orderDone s).settings = s.settings ∧ (orderDone s).plan = s.plan ∧
    (orderDone s).pool = s.pool ∧ (orderDone s).voices = s.voices ∧ (orderDone s).writer = s.writer := by
  unfold orderDone
  dsimp only
  (repeat' split) <;> simp

@[simp] theorem identify_frame (b : OrderBody) (s : State) :
    (identify b s).pending = s.pending ∧ (identify b s).draws = s.draws ∧
    (identify b s).slotPath = s.slotPath ∧ (identify b s).classifiers = s.classifiers ∧
    (identify b s).estimators = s.estimators ∧ (identify b s).lines = s.lines ∧
    (identify b s).settings = s.settings ∧ (identify b s).pool = s.pool ∧ (identify b s).voices = s.voices ∧
    (identify b s).writer = s.writer := by
  simp [identify]

@[simp] theorem readLine_frame (b : OrderBody) (s : State) :
    (readLine b s).pending = s.pending ∧ (readLine b s).draws = s.draws ∧
    (readLine b s).slotPath = s.slotPath ∧ (readLine b s).classifiers = s.classifiers ∧
    (readLine b s).estimators = s.estimators ∧ (readLine b s).lines = s.lines ∧
    (readLine b s).settings = s.settings ∧ (readLine b s).pool = s.pool ∧ (readLine b s).voices = s.voices ∧
    (readLine b s).writer = s.writer := by
  unfold readLine
  (repeat' split) <;> simp

@[simp] theorem recordWritten_frame (s : State) :
    (recordWritten s).pending = s.pending ∧ (recordWritten s).draws = s.draws ∧
    (recordWritten s).control = s.control ∧ (recordWritten s).slotPath = s.slotPath ∧
    (recordWritten s).classifiers = s.classifiers ∧ (recordWritten s).estimators = s.estimators ∧
    (recordWritten s).lines = s.lines ∧ (recordWritten s).settings = s.settings ∧
    (recordWritten s).pool = s.pool ∧ (recordWritten s).voices = s.voices ∧ (recordWritten s).writer = s.writer := by
  unfold recordWritten
  (repeat' split) <;> simp

@[simp] theorem applyEnable_frame (n : LineNo) (e : Bool) (s : State) :
    (applyEnable n e s).pending = s.pending ∧ (applyEnable n e s).draws = s.draws ∧
    (applyEnable n e s).control = s.control ∧ (applyEnable n e s).slotPath = s.slotPath ∧
    (applyEnable n e s).estimators = s.estimators ∧ (applyEnable n e s).settings = s.settings := by
  unfold applyEnable
  (repeat' split) <;> simp

@[simp] theorem applySetting_frame (n : LineNo) (x : LineSetting) (s : State) :
    (applySetting n x s).pending = s.pending ∧ (applySetting n x s).draws = s.draws ∧
    (applySetting n x s).control = s.control ∧ (applySetting n x s).slotPath = s.slotPath ∧
    (applySetting n x s).estimators = s.estimators := by
  simp [applySetting]

@[simp] theorem setLine_frame (b : OrderBody) (s : State) :
    (setLine b s).pending = s.pending ∧ (setLine b s).draws = s.draws ∧ (setLine b s).control = s.control ∧
    (setLine b s).slotPath = s.slotPath ∧ (setLine b s).estimators = s.estimators := by
  unfold setLine
  (repeat' split) <;> simp

@[simp] theorem loadProfile_frame (b : OrderBody) (s : State) :
    (loadProfile b s).pending = s.pending ∧ (loadProfile b s).draws = s.draws ∧
    (loadProfile b s).slotPath = s.slotPath ∧ (loadProfile b s).classifiers = s.classifiers ∧
    (loadProfile b s).estimators = s.estimators ∧ (loadProfile b s).lines = s.lines ∧
    (loadProfile b s).settings = s.settings ∧ (loadProfile b s).pool = s.pool ∧
    (loadProfile b s).voices = s.voices ∧ (loadProfile b s).writer = s.writer := by
  unfold loadProfile
  (repeat' split) <;> simp

@[simp] theorem installProfile_frame (i : ProfileNo) (r : List Byte) (s : State) :
    (installProfile i r s).pending = s.pending ∧ (installProfile i r s).draws = s.draws ∧
    (installProfile i r s).control = s.control ∧ (installProfile i r s).slotPath = s.slotPath ∧
    (installProfile i r s).classifiers = s.classifiers ∧ (installProfile i r s).estimators = s.estimators ∧
    (installProfile i r s).lines = s.lines ∧ (installProfile i r s).plan = s.plan ∧
    (installProfile i r s).pool = s.pool ∧ (installProfile i r s).voices = s.voices ∧
    (installProfile i r s).writer = s.writer := by
  unfold installProfile
  (repeat' split) <;> simp

@[simp] theorem profileRead_frame (r : ProfileBytes) (s : State) :
    (profileRead r s).pending = s.pending ∧ (profileRead r s).draws = s.draws ∧
    (profileRead r s).control = s.control ∧ (profileRead r s).slotPath = s.slotPath ∧
    (profileRead r s).classifiers = s.classifiers ∧ (profileRead r s).estimators = s.estimators ∧
    (profileRead r s).lines = s.lines ∧ (profileRead r s).plan = s.plan ∧ (profileRead r s).pool = s.pool ∧
    (profileRead r s).voices = s.voices ∧ (profileRead r s).writer = s.writer := by
  unfold profileRead
  (repeat' split) <;> simp

@[simp] theorem readToneEntry_frame (a : Word) (i : Nat) (s : State) :
    (readToneEntry a i s).pending = s.pending ∧ (readToneEntry a i s).draws = s.draws ∧
    (readToneEntry a i s).slotPath = s.slotPath ∧ (readToneEntry a i s).classifiers = s.classifiers ∧
    (readToneEntry a i s).estimators = s.estimators ∧ (readToneEntry a i s).lines = s.lines ∧
    (readToneEntry a i s).settings = s.settings ∧ (readToneEntry a i s).pool = s.pool ∧
    (readToneEntry a i s).voices = s.voices ∧ (readToneEntry a i s).writer = s.writer := by
  simp [readToneEntry]

@[simp] theorem loadTones_frame (b : OrderBody) (s : State) :
    (loadTones b s).pending = s.pending ∧ (loadTones b s).draws = s.draws ∧
    (loadTones b s).slotPath = s.slotPath ∧ (loadTones b s).classifiers = s.classifiers ∧
    (loadTones b s).estimators = s.estimators ∧ (loadTones b s).lines = s.lines ∧
    (loadTones b s).settings = s.settings ∧ (loadTones b s).pool = s.pool ∧ (loadTones b s).voices = s.voices ∧
    (loadTones b s).writer = s.writer := by
  simp [loadTones]

@[simp] theorem tonePassed_frame (a : Word) (p : List ToneFields) (s : State) :
    (tonePassed a p s).pending = s.pending ∧ (tonePassed a p s).draws = s.draws ∧
    (tonePassed a p s).slotPath = s.slotPath ∧ (tonePassed a p s).classifiers = s.classifiers ∧
    (tonePassed a p s).estimators = s.estimators ∧ (tonePassed a p s).lines = s.lines ∧
    (tonePassed a p s).pool = s.pool ∧ (tonePassed a p s).voices = s.voices ∧
    (tonePassed a p s).writer = s.writer := by
  unfold tonePassed
  (repeat' split) <;> simp

@[simp] theorem toneRead_frame (r : ToneBytes) (s : State) :
    (toneRead r s).pending = s.pending ∧ (toneRead r s).draws = s.draws ∧
    (toneRead r s).slotPath = s.slotPath ∧ (toneRead r s).classifiers = s.classifiers ∧
    (toneRead r s).estimators = s.estimators ∧ (toneRead r s).lines = s.lines ∧ (toneRead r s).pool = s.pool ∧
    (toneRead r s).voices = s.voices ∧ (toneRead r s).writer = s.writer := by
  unfold toneRead
  (repeat' split) <;> simp

@[simp] theorem readPlanEntry_frame (a : Word) (i : Nat) (s : State) :
    (readPlanEntry a i s).pending = s.pending ∧ (readPlanEntry a i s).draws = s.draws ∧
    (readPlanEntry a i s).slotPath = s.slotPath ∧ (readPlanEntry a i s).classifiers = s.classifiers ∧
    (readPlanEntry a i s).estimators = s.estimators ∧ (readPlanEntry a i s).lines = s.lines ∧
    (readPlanEntry a i s).settings = s.settings ∧ (readPlanEntry a i s).pool = s.pool ∧
    (readPlanEntry a i s).voices = s.voices ∧ (readPlanEntry a i s).writer = s.writer := by
  simp [readPlanEntry]

@[simp] theorem loadPlan_frame (b : OrderBody) (s : State) :
    (loadPlan b s).pending = s.pending ∧ (loadPlan b s).draws = s.draws ∧
    (loadPlan b s).slotPath = s.slotPath ∧ (loadPlan b s).classifiers = s.classifiers ∧
    (loadPlan b s).estimators = s.estimators ∧ (loadPlan b s).lines = s.lines ∧
    (loadPlan b s).settings = s.settings ∧ (loadPlan b s).pool = s.pool ∧ (loadPlan b s).voices = s.voices ∧
    (loadPlan b s).writer = s.writer := by
  unfold loadPlan
  dsimp only
  (repeat' split) <;> simp

@[simp] theorem stagePlan_frame (t : BankNo) (k : Nat) (s : State) :
    (stagePlan t k s).pending = s.pending ∧ (stagePlan t k s).draws = s.draws ∧
    (stagePlan t k s).control = s.control ∧ (stagePlan t k s).slotPath = s.slotPath ∧
    (stagePlan t k s).classifiers = s.classifiers ∧ (stagePlan t k s).estimators = s.estimators ∧
    (stagePlan t k s).lines = s.lines ∧ (stagePlan t k s).settings = s.settings ∧
    (stagePlan t k s).pool = s.pool ∧ (stagePlan t k s).voices = s.voices ∧ (stagePlan t k s).writer = s.writer := by
  simp [stagePlan]

@[simp] theorem takePlanEntry_frame (a : Word) (t : BankNo) (k : Nat) (r : List Byte) (s : State) :
    (takePlanEntry a t k r s).pending = s.pending ∧ (takePlanEntry a t k r s).draws = s.draws ∧
    (takePlanEntry a t k r s).slotPath = s.slotPath ∧ (takePlanEntry a t k r s).classifiers = s.classifiers ∧
    (takePlanEntry a t k r s).estimators = s.estimators ∧ (takePlanEntry a t k r s).lines = s.lines ∧
    (takePlanEntry a t k r s).settings = s.settings ∧ (takePlanEntry a t k r s).pool = s.pool ∧
    (takePlanEntry a t k r s).voices = s.voices ∧ (takePlanEntry a t k r s).writer = s.writer := by
  unfold takePlanEntry
  dsimp only
  (repeat' split) <;> simp

@[simp] theorem planRead_frame (r : PlanBytes) (s : State) :
    (planRead r s).pending = s.pending ∧ (planRead r s).draws = s.draws ∧
    (planRead r s).slotPath = s.slotPath ∧ (planRead r s).classifiers = s.classifiers ∧
    (planRead r s).estimators = s.estimators ∧ (planRead r s).lines = s.lines ∧
    (planRead r s).settings = s.settings ∧ (planRead r s).pool = s.pool ∧ (planRead r s).voices = s.voices ∧
    (planRead r s).writer = s.writer := by
  unfold planRead
  (repeat' split) <;> simp

@[simp] theorem switchPlan_frame (s : State) :
    (switchPlan s).pending = s.pending ∧ (switchPlan s).draws = s.draws ∧ (switchPlan s).control = s.control ∧
    (switchPlan s).slotPath = s.slotPath ∧ (switchPlan s).classifiers = s.classifiers ∧
    (switchPlan s).estimators = s.estimators ∧ (switchPlan s).lines = s.lines ∧
    (switchPlan s).settings = s.settings ∧ (switchPlan s).pool = s.pool ∧ (switchPlan s).voices = s.voices ∧
    (switchPlan s).writer = s.writer := by
  unfold switchPlan
  dsimp only
  (repeat' split) <;> simp

@[simp] theorem leaveSeized_frame (n : LineNo) (s : State) :
    (leaveSeized n s).pending = s.pending ∧ (leaveSeized n s).draws = s.draws ∧
    (leaveSeized n s).control = s.control ∧ (leaveSeized n s).slotPath = s.slotPath ∧
    (leaveSeized n s).classifiers = s.classifiers ∧ (leaveSeized n s).estimators = s.estimators ∧
    (leaveSeized n s).settings = s.settings ∧ (leaveSeized n s).plan = s.plan ∧
    (leaveSeized n s).pool = s.pool ∧ (leaveSeized n s).voices = s.voices ∧
    (leaveSeized n s).writer = s.writer ∧ (leaveSeized n s).orders = s.orders ∧ (leaveSeized n s).port = s.port := by
  unfold leaveSeized
  (repeat' split) <;> simp

@[simp] theorem acceptSendTones_frame (n : LineNo) (k : ServiceClass) (i : Nat) (x : List Tone) (s : State) :
    (acceptSendTones n k i x s).pending = s.pending ∧ (acceptSendTones n k i x s).draws = s.draws ∧
    (acceptSendTones n k i x s).control = s.control ∧ (acceptSendTones n k i x s).slotPath = s.slotPath ∧
    (acceptSendTones n k i x s).classifiers = s.classifiers ∧
    (acceptSendTones n k i x s).estimators = s.estimators ∧ (acceptSendTones n k i x s).settings = s.settings ∧
    (acceptSendTones n k i x s).plan = s.plan := by
  simp [acceptSendTones]

@[simp] theorem sendTonesOn_frame (n : LineNo) (k : ServiceClass) (x : List Tone) (s : State) :
    (sendTonesOn n k x s).pending = s.pending ∧ (sendTonesOn n k x s).draws = s.draws ∧
    (sendTonesOn n k x s).control = s.control ∧ (sendTonesOn n k x s).slotPath = s.slotPath ∧
    (sendTonesOn n k x s).classifiers = s.classifiers ∧ (sendTonesOn n k x s).estimators = s.estimators ∧
    (sendTonesOn n k x s).settings = s.settings ∧ (sendTonesOn n k x s).plan = s.plan := by
  unfold sendTonesOn
  dsimp only
  (repeat' split) <;> simp

@[simp] theorem sendTones_frame (b : OrderBody) (s : State) :
    (sendTones b s).pending = s.pending ∧ (sendTones b s).draws = s.draws ∧
    (sendTones b s).control = s.control ∧ (sendTones b s).slotPath = s.slotPath ∧
    (sendTones b s).classifiers = s.classifiers ∧ (sendTones b s).estimators = s.estimators ∧
    (sendTones b s).settings = s.settings ∧ (sendTones b s).plan = s.plan := by
  unfold sendTones
  (repeat' split) <;> simp

@[simp] theorem dropHead_frame (s : State) :
    (dropHead s).pending = s.pending ∧ (dropHead s).draws = s.draws ∧ (dropHead s).slotPath = s.slotPath ∧
    (dropHead s).classifiers = s.classifiers ∧ (dropHead s).estimators = s.estimators ∧
    (dropHead s).lines = s.lines ∧ (dropHead s).settings = s.settings ∧ (dropHead s).plan = s.plan ∧
    (dropHead s).pool = s.pool ∧ (dropHead s).voices = s.voices ∧ (dropHead s).orders = s.orders ∧
    (dropHead s).port = s.port := by
  simp [dropHead]

@[simp] theorem passFailed_frame (s : State) :
    (passFailed s).pending = s.pending ∧ (passFailed s).draws = s.draws ∧
    (passFailed s).slotPath = s.slotPath ∧ (passFailed s).classifiers = s.classifiers ∧
    (passFailed s).estimators = s.estimators ∧ (passFailed s).lines = s.lines ∧
    (passFailed s).settings = s.settings ∧ (passFailed s).plan = s.plan ∧ (passFailed s).pool = s.pool ∧
    (passFailed s).voices = s.voices ∧ (passFailed s).orders = s.orders := by
  unfold passFailed
  dsimp only
  (repeat' split) <;> simp

@[simp] theorem writeBody_frame (i : Nat) (s : State) :
    (writeBody i s).pending = s.pending ∧ (writeBody i s).draws = s.draws ∧
    (writeBody i s).control = s.control ∧ (writeBody i s).slotPath = s.slotPath ∧
    (writeBody i s).classifiers = s.classifiers ∧ (writeBody i s).estimators = s.estimators ∧
    (writeBody i s).lines = s.lines ∧ (writeBody i s).settings = s.settings ∧ (writeBody i s).plan = s.plan ∧
    (writeBody i s).pool = s.pool ∧ (writeBody i s).voices = s.voices ∧ (writeBody i s).orders = s.orders := by
  unfold writeBody
  (repeat' split) <;> simp

@[simp] theorem recordMarkRead_frame (m : Word) (s : State) :
    (recordMarkRead m s).pending = s.pending ∧ (recordMarkRead m s).draws = s.draws ∧
    (recordMarkRead m s).slotPath = s.slotPath ∧ (recordMarkRead m s).classifiers = s.classifiers ∧
    (recordMarkRead m s).estimators = s.estimators ∧ (recordMarkRead m s).lines = s.lines ∧
    (recordMarkRead m s).settings = s.settings ∧ (recordMarkRead m s).plan = s.plan ∧
    (recordMarkRead m s).pool = s.pool ∧ (recordMarkRead m s).voices = s.voices ∧
    (recordMarkRead m s).orders = s.orders := by
  unfold recordMarkRead
  dsimp only
  (repeat' split) <;> simp

@[simp] theorem writeFilled_frame (s : State) :
    (writeFilled s).pending = s.pending ∧ (writeFilled s).draws = s.draws ∧
    (writeFilled s).control = s.control ∧ (writeFilled s).slotPath = s.slotPath ∧
    (writeFilled s).classifiers = s.classifiers ∧ (writeFilled s).estimators = s.estimators ∧
    (writeFilled s).lines = s.lines ∧ (writeFilled s).settings = s.settings ∧ (writeFilled s).plan = s.plan ∧
    (writeFilled s).pool = s.pool ∧ (writeFilled s).voices = s.voices ∧ (writeFilled s).orders = s.orders := by
  simp [writeFilled]

@[simp] theorem recordFilled_frame (s : State) :
    (recordFilled s).pending = s.pending ∧ (recordFilled s).draws = s.draws ∧
    (recordFilled s).slotPath = s.slotPath ∧ (recordFilled s).classifiers = s.classifiers ∧
    (recordFilled s).estimators = s.estimators ∧ (recordFilled s).lines = s.lines ∧
    (recordFilled s).settings = s.settings ∧ (recordFilled s).plan = s.plan ∧ (recordFilled s).pool = s.pool ∧
    (recordFilled s).voices = s.voices ∧ (recordFilled s).orders = s.orders := by
  simp [recordFilled]

@[simp] theorem followTouched_frame (s : State) :
    (followTouched s).pending = s.pending ∧ (followTouched s).draws = s.draws ∧
    (followTouched s).control = s.control ∧ (followTouched s).slotPath = s.slotPath ∧
    (followTouched s).classifiers = s.classifiers ∧ (followTouched s).estimators = s.estimators ∧
    (followTouched s).lines = s.lines ∧ (followTouched s).settings = s.settings ∧
    (followTouched s).pool = s.pool ∧ (followTouched s).voices = s.voices ∧ (followTouched s).writer = s.writer := by
  unfold followTouched
  (repeat' split) <;> simp

@[simp] theorem setTouched_frame (w : Option WindowNo) (s : State) :
    (setTouched w s).pending = s.pending ∧ (setTouched w s).draws = s.draws ∧
    (setTouched w s).control = s.control ∧ (setTouched w s).slotPath = s.slotPath ∧
    (setTouched w s).classifiers = s.classifiers ∧ (setTouched w s).estimators = s.estimators ∧
    (setTouched w s).lines = s.lines ∧ (setTouched w s).settings = s.settings ∧
    (setTouched w s).plan = s.plan ∧ (setTouched w s).pool = s.pool ∧ (setTouched w s).voices = s.voices ∧
    (setTouched w s).writer = s.writer ∧ (setTouched w s).orders = s.orders := by
  unfold setTouched
  (repeat' split) <;> simp

@[simp] theorem touchedWritten_frame (w : Option WindowNo) (s : State) :
    (touchedWritten w s).pending = s.pending ∧ (touchedWritten w s).draws = s.draws ∧
    (touchedWritten w s).control = s.control ∧ (touchedWritten w s).slotPath = s.slotPath ∧
    (touchedWritten w s).classifiers = s.classifiers ∧ (touchedWritten w s).estimators = s.estimators ∧
    (touchedWritten w s).lines = s.lines ∧ (touchedWritten w s).settings = s.settings ∧
    (touchedWritten w s).pool = s.pool ∧ (touchedWritten w s).voices = s.voices ∧
    (touchedWritten w s).writer = s.writer := by
  simp [touchedWritten]

@[simp] theorem headerRead_frame (h : HeaderBytes) (s : State) :
    (headerRead h s).pending = s.pending ∧ (headerRead h s).draws = s.draws ∧
    (headerRead h s).estimators = s.estimators ∧ (headerRead h s).settings = s.settings ∧
    (headerRead h s).voices = s.voices := by
  unfold headerRead
  (repeat' split) <;> simp

@[simp] theorem startOnError_frame (s : State) :
    (startOnError s).pending = s.pending ∧ (startOnError s).draws = s.draws ∧
    (startOnError s).slotPath = s.slotPath ∧ (startOnError s).classifiers = s.classifiers ∧
    (startOnError s).estimators = s.estimators ∧ (startOnError s).lines = s.lines ∧
    (startOnError s).settings = s.settings ∧ (startOnError s).plan = s.plan ∧ (startOnError s).pool = s.pool ∧
    (startOnError s).voices = s.voices ∧ (startOnError s).writer = s.writer ∧
    (startOnError s).orders = s.orders ∧ (startOnError s).port = s.port := by
  simp [startOnError]

@[simp] theorem busError_frame (s : State) :
    (busError s).pending = s.pending ∧ (busError s).draws = s.draws ∧ (busError s).slotPath = s.slotPath ∧
    (busError s).estimators = s.estimators ∧ (busError s).settings = s.settings := by
  unfold busError
  (repeat' split) <;> simp

@[simp] theorem abandonedError_frame (w : Abandon) (s : State) :
    (abandonedError w s).pending = s.pending ∧ (abandonedError w s).draws = s.draws ∧
    (abandonedError w s).slotPath = s.slotPath ∧ (abandonedError w s).classifiers = s.classifiers ∧
    (abandonedError w s).estimators = s.estimators ∧ (abandonedError w s).lines = s.lines ∧
    (abandonedError w s).settings = s.settings ∧ (abandonedError w s).plan = s.plan ∧
    (abandonedError w s).pool = s.pool ∧ (abandonedError w s).voices = s.voices ∧
    (abandonedError w s).writer = s.writer ∧ (abandonedError w s).orders = s.orders ∧
    (abandonedError w s).port = s.port := by
  unfold abandonedError
  (repeat' split) <;> simp

@[simp] theorem hostBusError_frame (s : State) :
    (hostBusError s).pending = s.pending ∧ (hostBusError s).draws = s.draws ∧
    (hostBusError s).slotPath = s.slotPath ∧ (hostBusError s).estimators = s.estimators ∧
    (hostBusError s).settings = s.settings := by
  unfold hostBusError
  (repeat' split) <;> simp

end Sys2Proof.Machine
end

