-- ==== Sys2Proof/Laws/PoolLines.lean ====
section
/-! SUPPORT. What the generator pool's operations can do to a line context: mark the head of the queue as begun, run or
stop the generator-wait and proceed timers, and end a finished number. -/

namespace Sys2Proof.Machine

/-- R122: the line is SENDING and its decided number is all sent. -/
def LineCtx.finished (c : LineCtx) : Bool :=
  c.state == .sending && match c.decision with | some d => d.toSend ≤ d.sent | none => false

/-- All that the pool may change of a context. -/
structure PoolTouches (c d : LineCtx) : Prop where
  bound : d.bound = c.bound
  seizureId : d.seizureId = c.seizureId
  answered : d.answered = c.answered
  draftOpened : d.draftOpened = c.draftOpened
  escapePending : d.escapePending = c.escapePending
  escapedDigit : d.escapedDigit = c.escapedDigit
  number : d.number = c.number
  boundBank : d.boundBank = c.boundBank
  queue : d.queue.map QueueEntry.what = c.queue.map QueueEntry.what
  timers : ∀ k, k ≠ .generatorWait → k ≠ .proceed → k ≠ .quiet → d.timer k = c.timer k
  unfinished : c.finished = false →
    d.state = c.state ∧ d.decision = c.decision ∧ d.draft = c.draft ∧
    d.pendingUnrecorded = c.pendingUnrecorded ∧ d.timer .quiet = c.timer .quiet

namespace PoolTouches

theorem refl (c : LineCtx) : PoolTouches c c :=
  ⟨rfl, rfl, rfl, rfl, rfl, rfl, rfl, rfl, rfl, fun _ _ _ _ => rfl, fun _ => ⟨rfl, rfl, rfl, rfl, rfl⟩⟩

theorem trans {c d e : LineCtx} (h : PoolTouches c d) (k : PoolTouches d e) : PoolTouches c e where
  bound := k.bound.trans h.bound
  seizureId := k.seizureId.trans h.seizureId
  answered := k.answered.trans h.answered
  draftOpened := k.draftOpened.trans h.draftOpened
  escapePending := k.escapePending.trans h.escapePending
  escapedDigit := k.escapedDigit.trans h.escapedDigit
  number := k.number.trans h.number
  boundBank := k.boundBank.trans h.boundBank
  queue := k.queue.trans h.queue
  timers := fun t a b c => (k.timers t a b c).trans (h.timers t a b c)
  unfinished := fun f => by
    obtain ⟨h1, h2, h3, h4, h5⟩ := h.unfinished f
    obtain ⟨k1, k2, k3, k4, k5⟩ := k.unfinished (by simpa [LineCtx.finished, h1, h2] using f)
    exact ⟨k1.trans h1, k2.trans h2, k3.trans h3, k4.trans h4, k5.trans h5⟩

/-- Setting the generator-wait or the proceed timer is within what the pool may change. -/
theorem setTimer (c : LineCtx) (t : Timer) {k : TimerKind} (hk : k = .generatorWait ∨ k = .proceed) :
    PoolTouches c (c.setTimer k t) where
  bound := rfl
  seizureId := rfl
  answered := rfl
  draftOpened := rfl
  escapePending := rfl
  escapedDigit := rfl
  number := rfl
  boundBank := rfl
  queue := rfl
  timers := by
    intro j h1 h2 _
    rcases hk with rfl | rfl <;> cases j <;> simp_all [LineCtx.timer, LineCtx.setTimer, TimerKind.index, Table.get_set]
  unfinished := fun _ => by
    rcases hk with rfl | rfl <;> simp [LineCtx.timer, LineCtx.setTimer, TimerKind.index, Table.get_set]

theorem begun (c : LineCtx) (e : QueueEntry) (rest : List QueueEntry) (h : c.queue = e :: rest) :
    PoolTouches c { c with queue := { e with begun := true } :: rest } :=
  ⟨rfl, rfl, rfl, rfl, rfl, rfl, rfl, rfl, by simp [h, QueueEntry.what], fun _ _ _ _ => rfl,
    fun _ => ⟨rfl, rfl, rfl, rfl, rfl⟩⟩

end PoolTouches

/-- Every context of `t` is one of `s` as the pool may leave it. -/
def LinesTouched (s t : State) : Prop := ∀ m, PoolTouches (s.line m) (t.line m)

theorem LinesTouched.of_lines {s t : State} (h : t.lines = s.lines) : LinesTouched s t := fun m => by
  simp only [State.line_def, h]; exact .refl _

theorem LinesTouched.trans {s t u : State} (h : LinesTouched s t) (k : LinesTouched t u) : LinesTouched s u :=
  fun m => (h m).trans (k m)

theorem LinesTouched.after {s t u : State} (k : LinesTouched t u) (h : t.lines = s.lines) : LinesTouched s u :=
  .trans (.of_lines h) k

theorem LinesTouched.modLine {s t : State} {n : LineNo} {f : LineCtx → LineCtx} (h : t.lines = s.lines)
    (hf : PoolTouches (s.line n) (f (s.line n))) : LinesTouched s (t.modLine n f) := fun m => by
  simp only [State.line_def, State.modLine_lines, h, Table.get_set]
  split
  · next e => subst e; exact hf
  · exact .refl _

theorem startGeneratorWait_touches (n : LineNo) (k : ServiceClass) (s : State) :
    LinesTouched s (startGeneratorWait n k s) := by
  unfold startGeneratorWait
  split
  · exact .of_lines rfl
  · exact .modLine rfl (.setTimer _ _ (.inl rfl))

theorem joinWait_touches (n : LineNo) (k : ServiceClass) (p : Bool) (s : State) : LinesTouched s (joinWait n k p s) :=
  (startGeneratorWait_touches n k _).after rfl

theorem leaveWait_touches (n : LineNo) (s : State) : LinesTouched s (leaveWait n s) :=
  .modLine rfl (.setTimer _ _ (.inl rfl))

theorem reclassWaiting_touches (n : LineNo) (k : ServiceClass) (s : State) : LinesTouched s (reclassWaiting n k s) := by
  unfold reclassWaiting
  split
  · exact .of_lines rfl
  · dsimp only
    split
    · exact (startGeneratorWait_touches n k _).after rfl
    · split
      · exact .modLine rfl (.setTimer _ _ (.inl rfl))
      · exact .of_lines rfl

theorem formClassAfresh_touches (n : LineNo) (s : State) : LinesTouched s (formClassAfresh n s) :=
  .trans (reclassWaiting_touches n _ s) (.of_lines (reclassGen_frame n _ _).2.2.2.2.2.2.1)

theorem enterOn_touches (g : GenNo) (s : State) : LinesTouched s (enterOn g s) := by
  unfold enterOn
  split
  · exact .of_lines rfl
  · split
    · exact .of_lines rfl
    · next h => exact .modLine rfl (.begun _ _ _ h)

theorem releaseGen_touches (g : GenNo) (s : State) : LinesTouched s (releaseGen g s) := .of_lines rfl

theorem releaseOf_touches (n : LineNo) (s : State) : LinesTouched s (releaseOf n s) := .of_lines (by simp)

/-- A line whose number is finished may lose its decision, its draft and its quiet timer. -/
theorem endNumber_touches (n : LineNo) (s : State) (h : (s.line n).finished = true) : LinesTouched s (endNumber n s) := by
  intro m
  simp only [endNumber, State.line_def, State.modLine_lines, Table.get_set]
  by_cases e : n = m
  · subst e
    simp only [if_true]
    unfold closeDraft
    split <;> constructor <;> simp_all [LineCtx.stopTimer, LineCtx.setTimer, LineCtx.timer] <;>
      (intro k _ _ h3; cases k <;> simp_all [TimerKind.index, Table.get_set])
  · rw [if_neg e]
    unfold closeDraft
    split
    · exact .refl _
    · simp only [State.modLine_lines, Table.get_set, if_neg e]; exact .refl _
    · simp only [(joinFifo_frame _ _).2.2.2.2.2.2.1, State.modLine_lines, Table.get_set, if_neg e]; exact .refl _

theorem releaseEarly_touches (g : GenNo) (n : LineNo) (s : State) : LinesTouched s (releaseEarly g n s) := by
  unfold releaseEarly
  split
  · next h => exact .trans (releaseGen_touches g s) (endNumber_touches n _ h.2)
  · exact releaseGen_touches g s

theorem grant_touches (g : GenNo) (e : WaitEntry) (s : State) : LinesTouched s (grant g e s) :=
  .trans (leaveWait_touches e.line s) ((enterOn_touches g _).after rfl)

theorem arbitrate_touches (k : Nat) (s : State) : LinesTouched s (arbitrate k s) := by
  induction k generalizing s with
  | zero => exact .of_lines rfl
  | succ k ih =>
    rw [arbitrate]
    split
    · exact .trans (grant_touches _ _ s) (ih _)
    · exact .of_lines rfl

theorem preempt_touches (g : GenNo) (s : State) : LinesTouched s (preempt g s) := by
  unfold preempt
  split
  · exact releaseGen_touches g s
  · dsimp only
    split
    · exact .trans (releaseEarly_touches g _ s) (joinWait_touches _ _ _ _)
    · exact releaseEarly_touches g _ s

theorem preemptAll_touches (k : Nat) (s : State) : LinesTouched s (preemptAll k s) := by
  induction k generalizing s with
  | zero => exact .of_lines rfl
  | succ k ih =>
    rw [preemptAll]
    split
    · split
      · exact .trans (.trans (preempt_touches _ s) (arbitrate_touches _ _)) (ih _)
      · exact .of_lines rfl
    · exact .of_lines rfl

theorem poolRun_touches (s : State) : LinesTouched s (poolRun s) := by
  unfold poolRun
  split
  · exact .trans (arbitrate_touches _ s) (preemptAll_touches _ _)
  · exact .of_lines rfl

theorem wakeHold_touches (n : LineNo) (s : State) : LinesTouched s (wakeHold n s) := by
  unfold wakeHold
  split
  · split
    · exact enterOn_touches _ s
    · exact .of_lines rfl
  · exact .of_lines rfl

theorem withdrawIfNot_touches (n : LineNo) (s : State) : LinesTouched s (withdrawIfNot n s) := by
  unfold withdrawIfNot
  split
  · exact leaveWait_touches n s
  · exact .of_lines rfl

theorem raiseRequest_touches (n : LineNo) (s : State) : LinesTouched s (raiseRequest n s) := by
  unfold raiseRequest
  split
  · exact joinWait_touches _ _ _ s
  · exact .of_lines rfl

theorem watchProceed_touches (n : LineNo) (s : State) : LinesTouched s (watchProceed n s) := by
  unfold watchProceed
  split
  · split
    · exact .of_lines rfl
    · exact .modLine rfl (.setTimer _ _ (.inr rfl))
  · exact .modLine rfl (.setTimer _ _ (.inr rfl))

/-- What the checks after an event on a line, with the grants and preemptions they bring, can do to any line. -/
theorem afterEvent_touches (n : LineNo) (s : State) : LinesTouched s (afterEvent n s) := by
  unfold afterEvent
  split
  · exact .trans (.trans (.trans (.trans (wakeHold_touches n s) (withdrawIfNot_touches n _)) (raiseRequest_touches n _))
      (watchProceed_touches n _)) (poolRun_touches _)
  · exact .of_lines rfl

end Sys2Proof.Machine
end

