-- ==== Sys2Proof/Laws/PoolDetached.lean ====
section
/-! SUPPORT. A line with no generator, no claim and no symbol is left alone by the pool: the state a teardown leaves. -/

namespace Sys2Proof.Machine

/-- The line has no generator, no wait-list entry and an empty queue. -/
structure Detached (n : LineNo) (s : State) : Prop where
  gens : ∀ g, (s.gen g).attached ≠ some n
  waits : ∀ e ∈ s.pool.waitList, e.line ≠ n
  queue : (s.line n).queue = []

/-- `t` leaves the context of the detached line `n` as in `s`, and `n` detached. -/
structure LeavesAlone (n : LineNo) (s t : State) : Prop where
  detached : Detached n t
  line : t.line n = s.line n

namespace LeavesAlone

theorem trans {n : LineNo} {s t u : State} (h : LeavesAlone n s t) (k : LeavesAlone n t u) : LeavesAlone n s u :=
  ⟨k.detached, k.line.trans h.line⟩

theorem refl {n : LineNo} {s : State} (h : Detached n s) : LeavesAlone n s s := ⟨h, rfl⟩

/-- What keeps the attachments and the wait list off `n` and its context. -/
theorem of_parts {n : LineNo} {s t : State} (h : Detached n s) (hl : t.lines = s.lines)
    (hg : ∀ g, (t.gen g).attached = some n → ∃ g', (s.gen g').attached = some n)
    (hw : ∀ e ∈ t.pool.waitList, e.line = n → ∃ e' ∈ s.pool.waitList, e'.line = n) : LeavesAlone n s t where
  detached :=
    { gens := fun g e => by obtain ⟨g', e'⟩ := hg g e; exact h.gens g' e'
      waits := fun e he e' => by obtain ⟨x, hx, ex⟩ := hw e he e'; exact h.waits x hx ex
      queue := by simp only [State.line_def, hl]; exact h.queue }
  line := by simp only [State.line_def, hl]

/-- A change of another line's context. -/
theorem modLine {n m : LineNo} {s : State} (f : LineCtx → LineCtx) (h : Detached n s) (hm : m ≠ n) :
    LeavesAlone n s (s.modLine m f) where
  detached := ⟨h.gens, h.waits, by simp [Table.get_set, hm]; exact h.queue⟩
  line := by simp [Table.get_set, hm]

end LeavesAlone

namespace Detached

variable {n : LineNo} {s : State}

theorem genOf (h : Detached n s) : genOf s n = none := by
  simp only [Machine.genOf, List.find?_eq_none]
  intro g _
  simpa using h.gens g

theorem isWaiting (h : Detached n s) : isWaiting s n = false := by
  have : waitEntry s n = none := by
    simp only [waitEntry, List.find?_eq_none]
    intro e he
    simpa using h.waits e he
  simp [Machine.isWaiting, this]

theorem mem_insertWait {e x : WaitEntry} {l : List WaitEntry} (h : x ∈ insertWait e l) : x = e ∨ x ∈ l := by
  induction l with
  | nil => simpa [insertWait] using h
  | cons y ys ih =>
    rw [insertWait] at h
    split at h
    · simpa using h
    · rcases List.mem_cons.1 h with h | h
      · exact .inr (h ▸ List.mem_cons_self)
      · exact (ih h).imp_right (List.mem_cons_of_mem _)

theorem modGen (h : Detached n s) {g : GenNo} {f : Generator → Generator}
    (hf : (f (s.gen g)).attached ≠ some n) : LeavesAlone n s (s.modGen g f) where
  detached := by
    refine ⟨fun k e => ?_, h.waits, h.queue⟩
    simp only [State.gen_def, State.modGen_pool, Table.get_set] at e
    split at e
    · exact hf e
    · exact h.gens k e
  line := rfl

theorem startGeneratorWait (h : Detached n s) {m : LineNo} (k : ServiceClass) (hm : m ≠ n) :
    LeavesAlone n s (startGeneratorWait m k s) := by
  unfold Machine.startGeneratorWait
  split
  · exact .refl h
  · exact .modLine _ h hm

theorem joinWait (h : Detached n s) {m : LineNo} (k : ServiceClass) (p : Bool) (hm : m ≠ n) :
    LeavesAlone n s (joinWait m k p s) := by
  have base : ∀ x : WaitEntry, x.line = m → LeavesAlone n s
      (s.modPool fun q => { q with waitList := insertWait x q.waitList, joins := q.joins + 1 }) := fun x hx =>
    .of_parts h rfl (fun g e => ⟨g, e⟩) fun e he hl => by
      rcases mem_insertWait he with rfl | he
      · exact absurd (hx.symm.trans hl) hm
      · exact ⟨e, he, hl⟩
  have a := base { line := m, cls := k, entryTime := s.slotPath.runClock, preempted := p, join := s.pool.joins } rfl
  exact a.trans (startGeneratorWait a.detached k hm)

theorem leaveWait (h : Detached n s) {m : LineNo} (hm : m ≠ n) : LeavesAlone n s (leaveWait m s) := by
  have base : LeavesAlone n s (s.modPool fun p => { p with waitList := p.waitList.filter fun e => e.line != m }) :=
    .of_parts h rfl (fun g e => ⟨g, e⟩) fun e he hl => ⟨e, (List.mem_filter.1 he).1, hl⟩
  exact base.trans (.modLine _ base.detached hm)

theorem modVoice (h : Detached n s) (g : GenNo) (f : Voice → Voice) : LeavesAlone n s (s.modVoice g f) :=
  ⟨⟨h.gens, h.waits, h.queue⟩, rfl⟩

theorem enterOn (h : Detached n s) (g : GenNo) : LeavesAlone n s (enterOn g s) := by
  unfold Machine.enterOn
  split
  · exact .refl h
  · next m hm =>
    have hmn : m ≠ n := fun e => h.gens g (e ▸ hm)
    split
    · exact .refl h
    · have a := modGen h (g := g)
        (f := fun x => { x with state := .on, timer := .running 0 (s.boundProfile m).toneOnMs }) (h.gens g)
      exact (a.trans (modVoice a.detached g _)).trans (.modLine _ (modVoice a.detached g _).detached hmn)

theorem releaseGen (h : Detached n s) (g : GenNo) : LeavesAlone n s (releaseGen g s) := modGen h (by simp)

theorem closeDraft (h : Detached n s) {m : LineNo} (k : CloseCause) (hm : m ≠ n) :
    LeavesAlone n s (closeDraft m k s) := by
  unfold Machine.closeDraft
  split
  · exact .refl h
  · exact .modLine _ h hm
  · next d _ =>
    have a := LeavesAlone.modLine (fun c : LineCtx => { c.stopTimer .quiet with draft := .none }) h hm
    exact a.trans (.of_parts a.detached (by simp) (fun g e => ⟨g, by simpa using e⟩) fun x hx e => ⟨x, by simpa using hx, e⟩)

theorem endNumber (h : Detached n s) {m : LineNo} (hm : m ≠ n) : LeavesAlone n s (endNumber m s) :=
  (closeDraft h _ hm).trans (.modLine _ (closeDraft h _ hm).detached hm)

theorem releaseEarly (h : Detached n s) (g : GenNo) {m : LineNo} (hm : m ≠ n) :
    LeavesAlone n s (releaseEarly g m s) := by
  unfold Machine.releaseEarly
  split
  · exact (releaseGen h g).trans (endNumber (releaseGen h g).detached hm)
  · exact releaseGen h g

theorem grant (h : Detached n s) (g : GenNo) {e : WaitEntry} (he : e ∈ s.pool.waitList) :
    LeavesAlone n s (grant g e s) := by
  have hm := h.waits e he
  have a := leaveWait h hm
  have b := a.trans (modGen a.detached (g := g)
    (f := fun x => { x with attached := some e.line, served := some e.cls, clip := false }) (by simp [hm]))
  exact b.trans (enterOn b.detached g)

theorem arbitrate (h : Detached n s) (k : Nat) : LeavesAlone n s (arbitrate k s) := by
  induction k generalizing s with
  | zero => exact .refl h
  | succ k ih =>
    rw [Machine.arbitrate]
    split
    · next g _ _ he =>
      have a := grant h g (List.mem_of_find?_eq_some he)
      exact a.trans (ih a.detached)
    · exact .refl h

theorem preempt (h : Detached n s) (g : GenNo) : LeavesAlone n s (preempt g s) := by
  unfold Machine.preempt
  split
  · exact releaseGen h g
  · next m hm =>
    have hmn : m ≠ n := fun e => h.gens g (e ▸ hm)
    have a := releaseEarly h g hmn
    dsimp only
    split
    · exact a.trans (joinWait a.detached _ _ hmn)
    · exact a

theorem preemptAll (h : Detached n s) (k : Nat) : LeavesAlone n s (preemptAll k s) := by
  induction k generalizing s with
  | zero => exact .refl h
  | succ k ih =>
    rw [Machine.preemptAll]
    split
    · split
      · next g _ =>
        have a := preempt h g
        have b := a.trans (arbitrate a.detached Config.generators)
        exact b.trans (ih b.detached)
      · exact .refl h
    · exact .refl h

/-- Grants and preemptions leave a detached line alone. -/
theorem poolRun (h : Detached n s) : LeavesAlone n s (poolRun s) := by
  unfold Machine.poolRun
  split
  · exact (arbitrate h _).trans (preemptAll (arbitrate h _).detached _)
  · exact .refl h

/-- The checks after an event on a detached line stop its proceed timer and change nothing else of it. -/
theorem afterEvent (h : Detached n s) :
    Detached n (afterEvent n s) ∧
      (afterEvent n s).line n = if s.running then (s.line n).stopTimer .proceed else s.line n := by
  unfold Machine.afterEvent
  split
  · have w1 : wakeHold n s = s := by simp [wakeHold, h.genOf]
    have w2 : withdrawIfNot n s = s := by simp [withdrawIfNot, h.isWaiting]
    have q := h.queue
    simp only [State.line_def] at q
    have w3 : raiseRequest n s = s := by simp [raiseRequest, requests, q]
    have w4 : watchProceed n s = s.modLine n fun c => c.stopTimer .proceed := by
      simp [watchProceed, proceedWaits, q]
    have d : Detached n (s.modLine n fun c => c.stopTimer .proceed) :=
      ⟨h.gens, h.waits, by simpa [LineCtx.stopTimer, LineCtx.setTimer] using q⟩
    rw [w1, w2, w3, w4]
    exact ⟨(poolRun d).detached, (poolRun d).line.trans (by simp)⟩
  · exact ⟨h, rfl⟩

end Detached

end Sys2Proof.Machine
end

