-- ==== Sys2Proof/Laws/PoolLegal.lean ====
section
/-! SUPPORT. What the generator pool's operations keep of its invariant (R112, R114, R115): attachments are one to one, and
the wait list stands in grant order and names only lines that hold no generator and have symbols queued. -/

namespace Sys2Proof.Machine

/-! ### Grant order -/

theorem WaitEntry.before_or {a b : WaitEntry} (h : a.before b = false) (j : a.join ≠ b.join) : b.before a = true := by
  rcases a with ⟨_, ca, _, pa, ja⟩
  rcases b with ⟨_, cb, _, pb, jb⟩
  cases ca <;> cases cb <;> cases pa <;> cases pb <;> simp [WaitEntry.before, ServiceClass.rank] at h j ⊢ <;> omega

theorem WaitEntry.before_trans {a b c : WaitEntry} (h : a.before b = true) (k : b.before c = true) :
    a.before c = true := by
  rcases a with ⟨_, ca, _, pa, ja⟩
  rcases b with ⟨_, cb, _, pb, jb⟩
  rcases c with ⟨_, cc, _, pc, jc⟩
  cases ca <;> cases cb <;> cases pa <;> cases pb <;> simp [WaitEntry.before, ServiceClass.rank] at h <;>
    cases cc <;> cases pc <;> simp [WaitEntry.before, ServiceClass.rank] at k ⊢ <;> omega

theorem insertWait_perm (e : WaitEntry) (l : List WaitEntry) : (insertWait e l).Perm (e :: l) := by
  induction l with
  | nil => exact .refl _
  | cons x xs ih =>
    rw [insertWait]
    split
    · exact .refl _
    · exact (ih.cons x).trans (.swap e x xs)

theorem mem_insertWait {e x : WaitEntry} {l : List WaitEntry} : x ∈ insertWait e l ↔ x = e ∨ x ∈ l := by
  rw [(insertWait_perm e l).mem_iff, List.mem_cons]

/-- An entry of a join number of its own takes its place and the order stands. -/
theorem insertWait_ordered {e : WaitEntry} {l : List WaitEntry} (h : l.Pairwise fun a b => a.before b = true)
    (j : ∀ x ∈ l, e.join ≠ x.join) : (insertWait e l).Pairwise fun a b => a.before b = true := by
  induction l with
  | nil => simp [insertWait]
  | cons x xs ih =>
    rw [List.pairwise_cons] at h
    rw [insertWait]
    split
    · next b =>
      refine List.pairwise_cons.2 ⟨fun y hy => ?_, List.pairwise_cons.2 h⟩
      rcases List.mem_cons.1 hy with rfl | hy
      · exact b
      · exact WaitEntry.before_trans b (h.1 y hy)
    · next b =>
      refine List.pairwise_cons.2 ⟨fun y hy => ?_, ih h.2 fun y hy => j y (List.mem_cons_of_mem _ hy)⟩
      rcases mem_insertWait.1 hy with rfl | hy
      · exact WaitEntry.before_or (by simpa using b) (j x List.mem_cons_self)
      · exact h.1 y hy

/-- What a grant does to the pool. -/
theorem grant_pool (g : GenNo) (e : WaitEntry) (s : State) (hq : (s.line e.line).queue ≠ []) :
    (∀ k, (grant g e s).pool.gens.get k = if g = k then
        { state := .on, attached := some e.line, served := some e.cls,
          timer := .running 0 (s.boundProfile e.line).toneOnMs, clip := false }
      else s.pool.gens.get k) ∧
    (grant g e s).pool.waitList = s.pool.waitList.filter (fun x => x.line != e.line) ∧
    (grant g e s).pool.joins = s.pool.joins := by
  obtain ⟨q, rest, hq⟩ := List.exists_cons_of_ne_nil hq
  have hl : (((leaveWait e.line s).modGen g fun x =>
      { x with attached := some e.line, served := some e.cls, clip := false }).line e.line).queue = q :: rest := by
    simpa [leaveWait, Table.get_set, LineCtx.stopTimer, LineCtx.setTimer] using hq
  have hb : ((leaveWait e.line s).modGen g fun x =>
      { x with attached := some e.line, served := some e.cls, clip := false }).boundProfile e.line
        = s.boundProfile e.line := by
    simp [State.boundProfile, State.namedProfile, leaveWait, LineCtx.stopTimer, LineCtx.setTimer]
  have ha : (((leaveWait e.line s).modGen g fun x =>
      { x with attached := some e.line, served := some e.cls, clip := false }).gen g).attached = some e.line := by simp
  unfold grant enterOn
  simp only [ha, hl, hb]
  refine ⟨fun k => ?_, rfl, rfl⟩
  simp only [State.modLine_pool, State.modVoice_pool, State.modGen_pool, Table.get_set]
  split
  · simp
  · rfl

/-! ### The pool -/

/-- The pool's invariant; `queued` holds of the lines that have symbols queued. -/
structure Pool.Sound (p : Pool) (queued : LineNo → Prop) : Prop where
  one : ∀ g h n, (p.gens.get g).attached = some n → (p.gens.get h).attached = some n → g = h
  free : ∀ g, ((p.gens.get g).state = .free ↔ (p.gens.get g).attached = none) ∧
    ((p.gens.get g).attached = none ↔ (p.gens.get g).served = none)
  lines : (p.waitList.map WaitEntry.line).Nodup
  joins : (p.waitList.map WaitEntry.join).Nodup
  ordered : p.waitList.Pairwise fun a b => a.before b = true
  waits : ∀ e ∈ p.waitList, e.join < p.joins ∧ (∀ g, (p.gens.get g).attached ≠ some e.line) ∧ queued e.line

namespace Pool.Sound

variable {p : Pool} {queued : LineNo → Prop}

theorem mono {more : LineNo → Prop} (h : p.Sound queued) (k : ∀ e ∈ p.waitList, queued e.line → more e.line) :
    p.Sound more :=
  { h with waits := fun e he => ⟨(h.waits e he).1, (h.waits e he).2.1, k e he (h.waits e he).2.2⟩ }

/-- A generator changes with its attachment, its being FREE and its serving a class kept. -/
theorem keepGen (h : p.Sound queued) {g : GenNo} {x : Generator} (ha : x.attached = (p.gens.get g).attached)
    (hf : x.state = .free ↔ (p.gens.get g).state = .free) (hs : x.served = none ↔ (p.gens.get g).served = none) :
    ({ p with gens := p.gens.set g x } : Pool).Sound queued := by
  have a : ∀ k, ((p.gens.set g x).get k).attached = (p.gens.get k).attached := fun k => by
    rw [Table.get_set]; split
    · next e => rw [ha, e]
    · rfl
  refine { one := fun i j n => ?_, free := fun k => ?_, lines := h.lines, joins := h.joins, ordered := h.ordered,
           waits := fun e he => ⟨(h.waits e he).1, fun k => ?_, (h.waits e he).2.2⟩ }
  · rw [a, a]; exact h.one i j n
  · dsimp only
    rw [a, Table.get_set]
    split
    · next e => subst e; rw [hf, hs]; exact h.free g
    · exact h.free k
  · dsimp only; rw [a]; exact (h.waits e he).2.1 k

/-- R118: a generator is attached to a line that holds none and does not wait. -/
theorem attach (h : p.Sound queued) {q : Pool} {g : GenNo} {n : LineNo} {x : Generator} (hx : x.attached = some n)
    (hf : x.state ≠ .free) (hs : x.served ≠ none) (hn : ∀ k, (p.gens.get k).attached ≠ some n)
    (hw : ∀ e ∈ p.waitList, e.line ≠ n) (hq : ∀ k, q.gens.get k = if g = k then x else p.gens.get k)
    (hl : q.waitList = p.waitList) (hj : q.joins = p.joins) : q.Sound queued := by
  refine { one := fun i j m => ?_, free := fun k => ?_, lines := hl ▸ h.lines, joins := hl ▸ h.joins,
           ordered := hl ▸ h.ordered, waits := fun e he => ⟨?_, fun k => ?_, (h.waits e (hl ▸ he)).2.2⟩ }
  · rw [hq, hq]
    split <;> split <;> intro a b
    · next c d => exact c.symm.trans d
    · rw [hx] at a; exact absurd (b.trans a.symm) (hn j)
    · rw [hx] at b; exact absurd (a.trans b.symm) (hn i)
    · exact h.one i j m a b
  · rw [hq]
    split
    · simp [hx, hf, hs]
    · exact h.free k
  · rw [hj]; exact (h.waits e (hl ▸ he)).1
  · rw [hq]
    split
    · rw [hx]; exact fun c => hw e (hl ▸ he) (Option.some.inj c).symm
    · exact (h.waits e (hl ▸ he)).2.1 k

/-- R125: a generator is released. -/
theorem release (h : p.Sound queued) (g : GenNo) {x : Generator} (hx : x.attached = none) (hf : x.state = .free)
    (hs : x.served = none) : ({ p with gens := p.gens.set g x } : Pool).Sound queued := by
  refine { one := fun i j m => ?_, free := fun k => ?_, lines := h.lines, joins := h.joins, ordered := h.ordered,
           waits := fun e he => ⟨(h.waits e he).1, fun k => ?_, (h.waits e he).2.2⟩ }
  · simp only [Table.get_set]
    split <;> split
    · simp [hx]
    · simp [hx]
    · simp [hx]
    · exact h.one i j m
  · simp only [Table.get_set]
    split
    · simp [hx, hf, hs]
    · exact h.free k
  · simp only [Table.get_set]
    split
    · simp [hx]
    · exact (h.waits e he).2.1 k

/-- Entries leave the list. -/
theorem filter (h : p.Sound queued) (keep : WaitEntry → Bool) :
    ({ p with waitList := p.waitList.filter keep } : Pool).Sound queued where
  one := h.one
  free := h.free
  lines := h.lines.sublist ((List.filter_sublist).map _)
  joins := h.joins.sublist ((List.filter_sublist).map _)
  ordered := h.ordered.sublist List.filter_sublist
  waits := fun e he => h.waits e (List.mem_filter.1 he).1

/-- R114: an entry takes its place, for a line that does not wait, with a join number of its own. -/
theorem insert (h : p.Sound queued) {e : WaitEntry} {k : Nat} (hk : p.joins ≤ k) (hj : e.join < k)
    (hl : ∀ x ∈ p.waitList, x.line ≠ e.line) (hn : ∀ x ∈ p.waitList, x.join ≠ e.join)
    (hg : ∀ g, (p.gens.get g).attached ≠ some e.line) (hq : queued e.line) :
    ({ p with waitList := insertWait e p.waitList, joins := k } : Pool).Sound queued where
  one := h.one
  free := h.free
  lines := by
    refine (((insertWait_perm e p.waitList).map _).nodup_iff).2 ?_
    simp only [List.map_cons, List.nodup_cons, List.mem_map, not_exists, not_and]
    exact ⟨hl, h.lines⟩
  joins := by
    refine (((insertWait_perm e p.waitList).map _).nodup_iff).2 ?_
    simp only [List.map_cons, List.nodup_cons, List.mem_map, not_exists, not_and]
    exact ⟨hn, h.joins⟩
  ordered := insertWait_ordered h.ordered fun x hx => (hn x hx).symm
  waits := fun x hx => by
    rcases mem_insertWait.1 hx with rfl | hx
    · exact ⟨hj, hg, hq⟩
    · exact ⟨Nat.lt_of_lt_of_le (h.waits x hx).1 hk, (h.waits x hx).2.1, (h.waits x hx).2.2⟩

end Pool.Sound

/-- R112, R114, R115: the pool's invariant in a state, `but` for the queue of a line whose event is still being taken. -/
def State.PoolSound (but : LineNo → Prop) (s : State) : Prop := s.pool.Sound fun n => but n ∨ (s.line n).queue ≠ []

theorem State.poolLegal_iff (s : State) : s.PoolLegal ↔ (s.running = true → s.PoolSound fun _ => False) := by
  refine ⟨fun h r => ?_, fun h r => ?_⟩
  · obtain ⟨a, b, c, d, e, f⟩ := h r
    exact ⟨a, b, c, d, e, fun x hx => ⟨(f x hx).1, (f x hx).2.1, .inr (f x hx).2.2⟩⟩
  · obtain ⟨a, b, c, d, e, f⟩ := h r
    exact ⟨a, b, c, d, e, fun x hx => ⟨(f x hx).1, (f x hx).2.1, by simpa using (f x hx).2.2⟩⟩

namespace State.PoolSound

variable {but : LineNo → Prop} {s : State}

/-- The pool is as it was, and no queue of a waiting line is emptied. -/
theorem congr {but' : LineNo → Prop} {t : State} (h : s.PoolSound but) (hp : t.pool = s.pool)
    (hq : ∀ e ∈ s.pool.waitList, (s.line e.line).queue ≠ [] ∨ but e.line → but' e.line ∨ (t.line e.line).queue ≠ []) :
    t.PoolSound but' := by
  have k := Pool.Sound.mono (more := fun n => but' n ∨ (t.line n).queue ≠ []) h fun e he a => hq e he a.symm
  simpa only [State.PoolSound, hp] using k

/-- A context whose queue keeps its entries. -/
theorem touched {t : State} (h : s.PoolSound but) (hp : t.pool = s.pool) (hl : LinesTouched s t) : t.PoolSound but :=
  h.congr hp fun e _ a => a.symm.imp_right fun a c => a (by
    have q := (hl e.line).queue
    rw [c, List.map_nil] at q
    exact List.map_eq_nil_iff.1 q.symm)

theorem modLine_kept (h : s.PoolSound but) (n : LineNo) (f : LineCtx → LineCtx)
    (hf : (f (s.line n)).queue = (s.line n).queue) : (s.modLine n f).PoolSound but :=
  h.congr rfl fun e _ a => a.symm.imp_right fun a => by
    simp only [State.line_def, State.modLine_lines, Table.get_set] at hf a ⊢
    split
    · next c => rw [hf, c]; exact a
    · exact a

/-- A change of the line that is left out. -/
theorem modLine_at {n : LineNo} (h : s.PoolSound (· = n)) (f : LineCtx → LineCtx) : (s.modLine n f).PoolSound (· = n) :=
  h.congr rfl fun e _ a => by
    by_cases c : n = e.line
    · exact .inl c.symm
    · simp only [State.line_def, State.modLine_lines, Table.get_set, if_neg c] at a ⊢
      exact a.symm

theorem startGeneratorWait (h : s.PoolSound but) (n : LineNo) (k : ServiceClass) :
    (startGeneratorWait n k s).PoolSound but := h.touched (by simp) (startGeneratorWait_touches n k s)

theorem leaveWait (h : s.PoolSound but) (n : LineNo) : (leaveWait n s).PoolSound but :=
  State.PoolSound.touched (s := s.modPool fun p => { p with waitList := p.waitList.filter fun e => e.line != n })
    (Pool.Sound.filter h _) rfl (.modLine rfl (.setTimer _ _ (.inl rfl)))

theorem joinWait (h : s.PoolSound but) {n : LineNo} (k : ServiceClass) (p : Bool)
    (hg : ∀ g, (s.gen g).attached ≠ some n) (hw : ∀ e ∈ s.pool.waitList, e.line ≠ n) (hq : (s.line n).queue ≠ []) :
    (joinWait n k p s).PoolSound but :=
  .startGeneratorWait (s := s.modPool fun q =>
      { q with
        waitList :=
          insertWait { line := n, cls := k, entryTime := s.slotPath.runClock, preempted := p, join := q.joins } q.waitList,
        joins := q.joins + 1 })
    (Pool.Sound.insert (e := { line := n, cls := k, entryTime := s.slotPath.runClock, preempted := p, join := s.pool.joins })
      h (Nat.le_succ _) (Nat.lt_succ_self _) hw (fun e he => Nat.ne_of_lt (h.waits e he).1) hg (.inr hq)) n k

theorem enterOn (h : s.PoolSound but) {g : GenNo} (hf : (s.gen g).state ≠ .free) : (enterOn g s).PoolSound but := by
  unfold Machine.enterOn
  split
  · exact h
  · split
    · exact h
    · next n _ _ e rest hq =>
      have a : (s.modGen g fun x => { x with state := .on, timer := .running 0 (s.boundProfile n).toneOnMs }).PoolSound
          but := Pool.Sound.keepGen h rfl (by simpa using hf) .rfl
      refine State.PoolSound.touched a rfl (.modLine rfl ?_)
      exact .begun _ _ _ hq

theorem releaseGen (h : s.PoolSound but) (g : GenNo) : (releaseGen g s).PoolSound but :=
  Pool.Sound.release h g rfl rfl rfl

theorem releaseOf (h : s.PoolSound but) (n : LineNo) : (releaseOf n s).PoolSound but := by
  unfold Machine.releaseOf
  split
  · exact h.releaseGen _
  · exact h

theorem closeDraft (h : s.PoolSound but) (n : LineNo) (k : CloseCause) : (closeDraft n k s).PoolSound but := by
  unfold Machine.closeDraft
  split
  · exact h
  · exact h.modLine_kept n _ rfl
  · exact (h.modLine_kept n (fun c => { c.stopTimer .quiet with draft := .none }) rfl).congr (by simp) fun e _ a => by
      simpa [or_comm] using a

theorem endNumber (h : s.PoolSound but) (n : LineNo) : (endNumber n s).PoolSound but :=
  (h.closeDraft n .complete).modLine_kept n _ rfl

theorem releaseEarly (h : s.PoolSound but) (g : GenNo) (n : LineNo) : (releaseEarly g n s).PoolSound but := by
  unfold Machine.releaseEarly
  split
  · exact (h.releaseGen g).endNumber n
  · exact h.releaseGen g

/-- R118: a generator is granted to a waiting line. -/
theorem grant (h : s.PoolSound but) (g : GenNo) {e : WaitEntry} (he : e ∈ s.pool.waitList)
    (hq : (s.line e.line).queue ≠ []) : (grant g e s).PoolSound but := by
  obtain ⟨hg, hw, hj⟩ := grant_pool g e s hq
  have a := Pool.Sound.attach (Pool.Sound.filter h fun x => x.line != e.line) (q := (Machine.grant g e s).pool) (g := g)
    rfl (by simp) (by simp) (h.waits e he).2.1 (fun x hx => by simpa using (List.mem_filter.1 hx).2) hg hw hj
  refine a.mono fun x _ c => c.imp_right fun c d => c ?_
  have q := (grant_touches g e s x.line).queue
  rw [d, List.map_nil] at q
  exact List.map_eq_nil_iff.1 q.symm

theorem endSendTones (h : s.PoolSound but) (n : LineNo) (k : CloseCause) : (endSendTones n k s).PoolSound but := by
  have f := endSendTones_frame n k s
  exact h.touched f.2.2.2.2.2.2.2.2.2.1 (.of_lines f.2.2.2.2.2.2.1)

theorem unbindBank {n : LineNo} (h : s.PoolSound (· = n)) : (unbindBank n s).PoolSound (· = n) := by
  unfold Machine.unbindBank
  split
  · exact h
  · exact State.PoolSound.modLine_at (s := s.modBank _ _) h _

theorem reclassWaiting (h : s.PoolSound but) (n : LineNo) (k : ServiceClass) : (reclassWaiting n k s).PoolSound but := by
  unfold Machine.reclassWaiting
  split
  · exact h
  · next e he =>
    have hm : e ∈ s.pool.waitList := List.mem_of_find?_eq_some he
    have hn : e.line = n := by simpa using List.find?_some he
    have a : (s.modPool fun p =>
        { p with waitList := insertWait { e with cls := k } (p.waitList.filter fun x => x.line != n) }).PoolSound but := by
      refine Pool.Sound.insert (p := { s.pool with waitList := s.pool.waitList.filter fun x => x.line != n })
        (Pool.Sound.filter h _) (Nat.le_refl _) (h.waits e hm).1 (fun x hx => ?_) (fun x hx => ?_)
        (h.waits e hm).2.1 (h.waits e hm).2.2
      · have := (List.mem_filter.1 hx).2
        simpa [hn] using this
      · obtain ⟨hx, hl⟩ := List.mem_filter.1 hx
        intro c
        have : x = e := List.inj_on_of_nodup_map h.joins hx hm c
        rw [this, hn] at hl
        simp at hl
    dsimp only
    split
    · exact a.startGeneratorWait n k
    · split
      · exact a.modLine_kept n _ rfl
      · exact a

theorem reclassGen (h : s.PoolSound but) (n : LineNo) (k : ServiceClass) : (reclassGen n k s).PoolSound but := by
  unfold Machine.reclassGen
  split
  · exact h
  · next g hg =>
    have ha : (s.gen g).attached = some n := by simpa using List.find?_some hg
    refine Pool.Sound.keepGen h rfl .rfl ?_
    have := (h.free g).2
    simp only [State.gen_def] at ha
    simp [ha] at this
    simp [this]

theorem formClassAfresh (h : s.PoolSound but) (n : LineNo) : (formClassAfresh n s).PoolSound but :=
  (h.reclassWaiting n _).reclassGen n _

theorem wakeHold (h : s.PoolSound but) (n : LineNo) : (wakeHold n s).PoolSound but := by
  unfold Machine.wakeHold
  split
  · split
    · next c => exact h.enterOn (by rw [c.1]; decide)
    · exact h
  · exact h

/-- R112: once the line has been looked at, every waiting line has symbols queued. -/
theorem withdrawIfNot {n : LineNo} (h : s.PoolSound (· = n)) : (withdrawIfNot n s).PoolSound fun _ => False := by
  unfold Machine.withdrawIfNot
  split
  · refine (h.leaveWait n).congr rfl fun e he a => .inr (a.resolve_right fun c => ?_)
    have := (List.mem_filter.1 he).2
    simp [c] at this
  · next c =>
    refine h.congr rfl fun e he a => .inr (a.elim id fun d q => c ?_)
    have w : (waitEntry s n).isSome = true := List.find?_isSome.2 ⟨e, he, by simpa using d⟩
    rw [d] at q
    simp only [State.line_def] at q
    simp [isWaiting, w, q]

/-- A request's line holds no generator and does not wait (R112). -/
theorem joinRequest (h : s.PoolSound but) {n : LineNo} (k : ServiceClass) (p : Bool) (r : requests s n = true) :
    (Machine.joinWait n k p s).PoolSound but := by
  simp only [requests, Bool.and_eq_true, Bool.not_eq_true', Option.isNone_iff_eq_none, isWaiting, waitEntry,
    genOf, Option.isSome_eq_false_iff, List.find?_eq_none] at r
  refine h.joinWait k p (fun g => ?_) (fun e he => ?_) ?_
  · simpa using r.1.2 g (List.mem_finRange g)
  · simpa using r.2 e he
  · simpa using r.1.1.1.2

theorem raiseRequest (h : s.PoolSound but) (n : LineNo) : (raiseRequest n s).PoolSound but := by
  unfold Machine.raiseRequest
  split
  · next r => exact h.joinRequest _ _ r
  · exact h

theorem arbitrate (h : s.PoolSound fun _ => False) (k : Nat) : (arbitrate k s).PoolSound fun _ => False := by
  induction k generalizing s with
  | zero => exact h
  | succ k ih =>
    rw [Machine.arbitrate]
    split
    · next g e _ he =>
      have hm := List.mem_of_find?_eq_some he
      exact ih (h.grant g hm ((h.waits e hm).2.2.resolve_left id))
    · exact h

theorem preempt (h : s.PoolSound but) (g : GenNo) : (preempt g s).PoolSound but := by
  unfold Machine.preempt
  split
  · exact h.releaseGen g
  · dsimp only
    split
    · next r => exact (h.releaseEarly g _).joinRequest _ _ r
    · exact h.releaseEarly g _

theorem preemptAll (h : s.PoolSound fun _ => False) (k : Nat) : (preemptAll k s).PoolSound fun _ => False := by
  induction k generalizing s with
  | zero => exact h
  | succ k ih =>
    rw [Machine.preemptAll]
    split
    · split
      · exact ih ((h.preempt _).arbitrate _)
      · exact h
    · exact h

theorem poolRun (h : s.PoolSound fun _ => False) : (poolRun s).PoolSound fun _ => False := by
  unfold Machine.poolRun
  split
  · exact (h.arbitrate _).preemptAll _
  · exact h

end State.PoolSound

/-- R112: the checks after an event on a line leave the pool's invariant, even if the event emptied the line's queue. -/
theorem afterEvent_poolLegal {n : LineNo} {s : State} (h : s.running = true → s.PoolSound (· = n)) :
    (afterEvent n s).PoolLegal := by
  unfold afterEvent
  split
  · next r =>
    exact (State.poolLegal_iff _).2 fun _ =>
      (State.PoolSound.touched ((((h r).wakeHold n).withdrawIfNot).raiseRequest n) (by simp)
        (watchProceed_touches n _)).poolRun
  · next r => exact fun c => absurd c r

theorem cutByProceed_poolSound {but : LineNo → Prop} {s : State} (n : LineNo) (h : s.PoolSound but) :
    (cutByProceed n s).PoolSound but := by
  unfold cutByProceed
  split
  · exact h
  · split
    · exact (h.modLine_kept n (fun c => c.mapDraft Draft.countProceedLoss)
        (by unfold LineCtx.mapDraft; split <;> rfl)).releaseGen _
    · exact h.releaseEarly _ n

theorem proceedChanged_poolLegal {s : State} (n : LineNo) (h : s.PoolLegal) : (proceedChanged n s).PoolLegal := by
  have weak : s.running = true → s.PoolSound (· = n) := fun r =>
    ((State.poolLegal_iff s).1 h r).congr rfl fun _ _ a => .inr (a.resolve_right id)
  unfold proceedChanged
  split
  · next r =>
    split
    · exact afterEvent_poolLegal fun _ => cutByProceed_poolSound n (weak r)
    · exact afterEvent_poolLegal weak
  · exact h

/-- R82: a teardown leaves the pool's invariant. -/
theorem teardown_poolLegal {s : State} (n : LineNo) (k : CloseCause) (h : s.PoolLegal) : (teardown n k s).PoolLegal := by
  unfold teardown
  refine afterEvent_poolLegal fun r => ?_
  rw [State.running_def, State.modLine_control, (teardownSteps_frame n k s).2.2.1] at r
  have a : s.PoolSound (· = n) :=
    ((State.poolLegal_iff s).1 h r).congr rfl fun _ _ b => .inr (b.resolve_right id)
  have b := (((a.modLine_at fun c => { c with queue := [] }).leaveWait n).releaseOf n).endSendTones n k
  exact (((b.unbindBank.modLine_at _).closeDraft n k).modLine_at _).modLine_at _

end Sys2Proof.Machine
end

