-- ==== Sys2Proof/Laws/PoolRecords.lean ====
section
/-! SUPPORT. What closing drafts and the pool's operations do to the record writer's FIFO and to the memory port: a draft in
the FIFO stays there, and of the port only the record writer's waiting access can change. -/

namespace Sys2Proof.Machine

/-- Of the port, nothing but the record writer's waiting access differs. -/
def PortKept (s t : State) : Prop :=
  t.port.windows = s.port.windows ∧ t.port.inFlight = s.port.inFlight ∧ t.port.behind = s.port.behind ∧
  t.port.waitStart = s.port.waitStart ∧ t.port.waitOrder = s.port.waitOrder

theorem PortKept.of_port {s t : State} (h : t.port = s.port) : PortKept s t := by simp [PortKept, h]

theorem PortKept.trans {s t u : State} (h : PortKept s t) (k : PortKept t u) : PortKept s u := by
  obtain ⟨a1, a2, a3, a4, a5⟩ := h
  obtain ⟨b1, b2, b3, b4, b5⟩ := k
  exact ⟨b1.trans a1, b2.trans a2, b3.trans a3, b4.trans a4, b5.trans a5⟩

/-- Every draft in the FIFO stays, and the port is kept so far. -/
structure Records (s t : State) : Prop where
  fifo : ∀ d ∈ s.writer.fifo, d ∈ t.writer.fifo
  port : PortKept s t

theorem Records.of_frame {s t : State} (h : t.writer = s.writer) (k : t.port = s.port) : Records s t :=
  ⟨fun _ hd => by rw [h]; exact hd, .of_port k⟩

theorem Records.trans {s t u : State} (h : Records s t) (k : Records t u) : Records s u :=
  ⟨fun d hd => k.fifo d (h.fifo d hd), h.port.trans k.port⟩

theorem joinFifo_fifo (d : ClosedDraft) (s : State) : (joinFifo d s).writer.fifo = s.writer.fifo ++ [d] := by
  unfold joinFifo beginPass
  dsimp only
  (repeat' split) <;> simp

theorem joinFifo_port (d : ClosedDraft) (s : State) : PortKept s (joinFifo d s) := by
  unfold joinFifo beginPass PortKept
  dsimp only
  (repeat' split) <;> simp [readRecordMark]

theorem closeDraft_records (n : LineNo) (k : CloseCause) (s : State) : Records s (closeDraft n k s) := by
  unfold closeDraft
  split
  · exact .of_frame rfl rfl
  · exact .of_frame rfl rfl
  · exact ⟨fun d hd => by rw [joinFifo_fifo]; exact List.mem_append_left _ hd, (joinFifo_port _ _)⟩

/-- The open draft of the line, closed, stands in the FIFO. -/
theorem closeDraft_joins (n : LineNo) (k : CloseCause) (s : State) (d : Draft) (h : (s.line n).draft = .opened d) :
    ({ draft := d, closeTime := s.slotPath.runClock, p := (s.estimator n).p, cause := k } : ClosedDraft) ∈
      (closeDraft n k s).writer.fifo := by
  unfold closeDraft
  simp only [h]
  rw [joinFifo_fifo]
  simp

/-- What a close leaves of the line's context. -/
theorem closeDraft_line (n : LineNo) (k : CloseCause) (s : State) :
    (closeDraft n k s).line n =
      match (s.line n).draft with
      | .none => s.line n
      | .unrecorded =>
        { (s.line n).stopTimer .quiet with
          draft := .none, pendingUnrecorded := satSucc 255 (s.line n).pendingUnrecorded }
      | .opened _ => { (s.line n).stopTimer .quiet with draft := .none } := by
  unfold closeDraft
  split <;> simp_all

theorem releaseEarly_records (g : GenNo) (n : LineNo) (s : State) : Records s (releaseEarly g n s) := by
  unfold releaseEarly
  split
  · have a : Records s (releaseGen g s) := .of_frame rfl rfl
    exact .trans (a.trans (closeDraft_records n .complete _)) (.of_frame rfl rfl)
  · exact .of_frame rfl rfl

theorem preempt_records (g : GenNo) (s : State) : Records s (preempt g s) := by
  unfold preempt
  split
  · exact .of_frame rfl rfl
  · next n _ =>
    dsimp only
    split
    · exact .trans (t := releaseEarly g n s) (releaseEarly_records g n s) (.of_frame (by simp) (by simp))
    · exact releaseEarly_records g _ s

theorem preemptAll_records (k : Nat) (s : State) : Records s (preemptAll k s) := by
  induction k generalizing s with
  | zero => exact .of_frame rfl rfl
  | succ k ih =>
    rw [preemptAll]
    split
    · split
      · next g _ =>
        have a : Records (preempt g s) (arbitrate Config.generators (preempt g s)) := .of_frame (by simp) (by simp)
        exact .trans (.trans (preempt_records g s) a) (ih _)
      · exact .of_frame rfl rfl
    · exact .of_frame rfl rfl

theorem poolRun_records (s : State) : Records s (poolRun s) := by
  unfold poolRun
  split
  · exact .trans (t := arbitrate _ s) (.of_frame (by simp) (by simp)) (preemptAll_records _ _)
  · exact .of_frame rfl rfl

theorem afterEvent_records (n : LineNo) (s : State) : Records s (afterEvent n s) := by
  unfold afterEvent
  split
  · exact .trans (t := watchProceed n _) (.of_frame (by simp) (by simp)) (poolRun_records _)
  · exact .of_frame rfl rfl

end Sys2Proof.Machine
end

