-- ==== Sys2Proof/Tests/Slice0.lean ====
section
/-! SUPPORT. Tests: the ill-formed terms that WellFormed refuses, single steps against the manual's worked sequences and
tables, and for every statement with hypotheses a concrete state and operands that meet them. -/

open Sys2Proof Sys2Proof.Machine

namespace Sys2Proof.Tests

/-! ### Small states -/

/-- The next state of an outcome. -/
def after (o : Host.Outcome State Fault Refusal) : State :=
  match o with
  | .next t => t
  | .fault _ => .reset
  | .refused _ => .reset

/-- The part in a part state with RUN 1, every cause enabled, both highways present, and window 0 of 16 pages at 0x10000. -/
def inPart (p : PartState) : State :=
  { State.reset with
    control := { Control.powerOn with part := p, result := .ok, run := true, attentionMask := 0x3FE }
    slotPath := { SlotPath.reset with lineHw := Watch.reset.restore, retHw := Watch.reset.restore }
    port := { Port.reset with
      windows := Port.reset.windows.set 0 { base := 0x10000, pages := 16, access := true, write := true, touched := true } } }

/-- RUNNING. -/
def running : State := inPart .running

/-- A seized line under the default profile. -/
def seized : LineCtx := { LineCtx.reset with state := .seized, bound := some .default, seizureId := 1 }

/-- The draft of line 7's first dialling. -/
def callDraft : Draft :=
  { line := 7, seizureId := 1, follow := false, openTime := 3512, symbols := [], numberLen := 0, toSend := 0, sent := 0,
    glitch := 0, ignored := 0, proceedLoss := 0, unrecorded := 0, bank := none, entry := none, action := none,
    incoming := false, escapeUsed := false, emergency := false, unmatched := false, clipped := false, queueFull := false,
    listFull := false }

/-- A line with a draft open. -/
def drafted (st : LineState) : LineCtx := { seized with state := st, draft := .opened callDraft }

/-- A profile in EN_BLOC mode that bars what its plan does not hold (5.5). -/
def areaProfile : Profile := { Profile.default with mode := .enBloc, unmatchedAction := .bar }

/-- A classifier at work. -/
def loopAt (p : PulseState) (closed : Bool) (len : Nat) : Classifier :=
  { Classifier.reset with pulse := p, accepted := closed, interval := len, waiting := false }

/-- RUNNING with this context and classifier of line 7. -/
def withLoop (c : LineCtx) (k : Classifier) : State := (running.modLine 7 fun _ => c).modClassifier 7 fun _ => k

/-- RUNNING with this context of line 7 and its timer `k` just expired. -/
def expired (k : TimerKind) (c : LineCtx) : State :=
  running.modLine 7 fun _ => c.setTimer k (.running 50 50)

/-- RUNNING with G4 attached to line 7 in a state, its timer just expired. -/
def served (st : GenState) (c : LineCtx) : State :=
  (running.modLine 7 fun _ => c).modGen 4 fun _ =>
    { state := st, attached := some 7, served := some .b, timer := .running 70 70, clip := false }

/-- A queue entry of the subscriber's. -/
def dialled (t : Tone) : QueueEntry := { symbol := t, origin := .subscriber, begun := false }

/-- An access on the bus. -/
def onPort (p : Purpose) (s : State) : State :=
  s.modPort fun q =>
    { q with inFlight := some { purpose := p, addr := 0, length := 4, data := [], window := none, abandoned := none } }

/-- The order of slot 2, with what it is about. -/
def orderOf (w : OrderWork) : CurrentOrder :=
  { slot := 2, body := none, work := w, abort := false, result := none, progressed := false }

/-- `s` with four order slots, the order unit in a state, and an order current. -/
def ordering (st : UnitState) (w : OrderWork) (s : State) : State :=
  s.modOrders fun o => { o with state := st, slots := 4, examined := 3, sweepInterval := 10, current := some (orderOf w) }

/-- RUNNING with the body of the order in slot 2 being read. -/
def reading : State := onPort .bodyRead (ordering .taking .none running)

/-- An order body of these bytes from 0x04 on. -/
def bodyOf (bytes : List Byte) : OrderBody := Table.ofFn fun i => bytes.getD i.val 0

/-- A record of these bytes. -/
def bytesOf (n : Nat) (bytes : List Byte) : Table n Byte := Table.ofFn fun i => bytes.getD i.val 0

/-- A line frame with every loop in one state. -/
def flatFrame (closed : Bool) : LineFrame := Table.replicate _ { sample := 5, closed }

/-- A return frame with the same flags in every slot. -/
def flatReturn (proceed : Bool) : ReturnFrame := Table.replicate _ { sample := 0, proceed, incoming := false }

/-! ### WellFormed -/

theorem test_wellFormed_refuses_nop_code : (Instr.nop (bodyOf [0x02])).wellFormed = false := by decide
theorem test_wellFormed_refuses_identify_code : (Instr.identify (bodyOf [0x01])).wellFormed = false := by decide
theorem test_wellFormed_refuses_readLine_code : (Instr.readLine (bodyOf [0x04])).wellFormed = false := by decide
theorem test_wellFormed_refuses_setLine_code : (Instr.setLine (bodyOf [0x03])).wellFormed = false := by decide
theorem test_wellFormed_refuses_loadProfile_code : (Instr.loadProfile (bodyOf [0x06])).wellFormed = false := by decide
theorem test_wellFormed_refuses_loadTones_code : (Instr.loadTones (bodyOf [0x05])).wellFormed = false := by decide
theorem test_wellFormed_refuses_loadPlan_code : (Instr.loadPlan (bodyOf [0x08])).wellFormed = false := by decide
theorem test_wellFormed_refuses_switchPlan_code : (Instr.switchPlan (bodyOf [0x07])).wellFormed = false := by decide
theorem test_wellFormed_refuses_sendTones_code : (Instr.sendTones (bodyOf [0x00])).wellFormed = false := by decide
theorem test_wellFormed_refuses_known_as_unknown : (Instr.unknownOrder (bodyOf [0x09])).wellFormed = false := by decide
theorem test_wellFormed_accepts : (Instr.nop (bodyOf [0x01])).wellFormed = true := by decide

/-- The table gives bits to no row, so no word spells a command and the queue stays as it is. -/
theorem test_no_word_spells_a_command : State.reset.withFetchWord 32 1 = State.reset := rfl

/-! ### Loop signals (2.11, 2.12) -/

/-- 2.11, frame 24: the 25th closed frame is accepted. -/
theorem test_close_accepted_at_25 :
    ({ loopAt .steadyOpen false 100 with runCount := 24 }.flagFrame .default true true).change = true ∧
    ({ loopAt .steadyOpen false 100 with runCount := 23 }.flagFrame .default true true).change = false := by decide
/-- 2.11, frame 344: the seizure count reaches 320 frames. -/
theorem test_seizure_at_320 :
    ({ loopAt .steadyClosed true 319 with seizureCount := 319 }.flagFrame .default true true).bound = some .seizure ∧
    ({ loopAt .steadyClosed true 318 with seizureCount := 318 }.flagFrame .default true true).bound = none := by decide
/-- 2.11, frame 1024: the first break of the digit. -/
theorem test_first_break :
    ((after (exec (.loopChangeAccepted 7) (withLoop seized { loopAt .steadyClosed true 680 with change := true }))).classifier 7).pulse
      = .brk := by decide
/-- 2.11, frame 1520: an open of 496 frames is a pulse break, counted, with IDT in use 1200. -/
theorem test_pulse_break :
    let u := (after (exec (.loopChangeAccepted 7)
      ((withLoop seized { loopAt .brk false 496 with change := true }).modEstimator 7 fun _ => { p := 800, idt := 1200 }))).classifier 7
    u.pulse = .make ∧ u.pulseCount = 1 ∧ u.idtInUse = 1200 ∧ u.lastBreak = 496 := by decide
/-- 2.11, frame 3520: the digit completes at IDT in use 1200. -/
theorem test_digit_bound :
    ({ loopAt .make true 1199 with idtInUse := 1200 }.flagFrame .default false true).bound = some .digit ∧
    ({ loopAt .make true 1198 with idtInUse := 1200 }.flagFrame .default false true).bound = none := by decide
/-- 2.12, frame 2872: 1048 frames of open are LONG_OPEN. -/
theorem test_long_open_bound :
    ((loopAt .brk false 1047).flagFrame .default false false).bound = some .longOpen ∧
    ((loopAt .brk false 1046).flagFrame .default false false).bound = none := by decide
/-- 2.12, frame 2872: the count is dropped and the dropped mark set. -/
theorem test_long_open_entry :
    let u := (after (exec (.longOpenEntry 7)
      (withLoop seized { loopAt .brk false 1048 with pulseCount := 1, bound := some .longOpen }))).classifier 7
    u.pulse = .longOpen ∧ u.pulseCount = 0 ∧ u.dropped = true := by decide
/-- 2.12, frame 5024: an open of 3200 frames hands REJECT_OPEN for the dropped digit, then the flash, which sets escape
pending. -/
theorem test_reject_open_then_flash :
    let u := (after (exec (.loopChangeAccepted 7)
      (withLoop (drafted .converting) { loopAt .longOpen false 3200 with dropped := true, change := true }))).line 7
    u.escapePending = true ∧ u.draft = .opened { callDraft with symbols := [.rejectOpen] } := by decide +kernel
/-- 2.12: an open of 6400 frames is in the upper dead band. -/
theorem test_dead_band :
    let u := (after (exec (.loopChangeAccepted 7)
      (withLoop (drafted .converting) { loopAt .longOpen false 6400 with change := true }))).line 7
    u.escapePending = false ∧ u.draft = .opened { callDraft with symbols := [.rejectOpen] } := by decide +kernel
/-- 2.12: 7200 frames of open are a clear. -/
theorem test_clear_bound :
    ((loopAt .longOpen false 7199).flagFrame .default false false).bound = some .clear ∧
    ((loopAt .longOpen false 7198).flagFrame .default false false).bound = none := by decide

/-! ### Estimation (3.6) -/

/-- 3.6: samples 1, 2 and 5 of the slow dial: 800 to 886, 886 to 950 (a half to even), 1034 to 1062. -/
theorem test_period_moves :
    movePeriod .default 800 1144 = 886 ∧ movePeriod .default 886 1144 = 950 ∧ movePeriod .default 1034 1144 = 1062 := by
  decide
/-- 3.6: P 886 gives 1329, P 1129 the even 1694 of 1693.5, and a factor of 24 is held at 3200. -/
theorem test_threshold :
    idtOf .default 886 = 1329 ∧ idtOf .default 1129 = 1694 ∧ idtOf { Profile.default with idtFactor := 24 } 1118 = 3200 := by
  decide
/-- 3.6: the pair of 760 and 384 frames. -/
theorem test_pair_taken : Estimator.take .default 760 384 { p := 800, idt := 1200 } = { p := 886, idt := 1329 } := by decide +kernel
/-- 4.11, 1000: seizure loads P 800 and IDT 1200 and starts the first-digit timer of 10 s. -/
theorem test_seizure :
    let u := after (exec (.seizure 7)
      (withLoop { LineCtx.reset with state := .idle } { loopAt .steadyClosed true 320 with bound := some .seizure }))
    u.estimator 7 = { p := 800, idt := 1200 } ∧ (u.line 7).seizureId = 1 ∧ (u.line 7).state = .seized ∧
      (u.line 7).timer .firstDigit = .running 0 10000 := by decide +kernel

/-! ### Digits and calls (2.11, 4.11, R54) -/

/-- 4.11, 3512: the digit 4 of a direct line opens a CALL draft, is recorded, queued and granted G0. -/
theorem test_digit_converted :
    let u := after (exec (.digitComplete 7)
      ((withLoop seized { loopAt .make true 1200 with pulseCount := 4, bound := some .digit }).modSlotPath fun p =>
        { p with proceed := Table.replicate _ true }))
    (u.line 7).state = .converting ∧ (u.line 7).queue = [{ dialled 4 with begun := true }] ∧ genOf u 7 = some 0 := by
  decide +kernel
/-- R53: eleven pulses are a REJECT_COUNT; R54: a flash and 1 give STAR by the default table, and 0 is refused. -/
theorem test_digit_outcomes :
    digitOutcome .default 11 false false = .rejectCount ∧ digitOutcome .default 10 false false = .tone 0 ∧
    digitOutcome .default 1 false true = .tone 0xA ∧ digitOutcome .default 10 false true = .rejectEscape := by decide
/-- 4.11, 3582: ON expires, the symbol leaves the queue as sent, and the gap begins. -/
theorem test_on_expires :
    let u := after (exec (.onExpiry 4) (served .on { drafted .converting with queue := [dialled 4] }))
    (u.line 7).queue = [] ∧ (u.gen 4).state = .gap ∧ (u.line 7).draft = .opened { callDraft with sent := 1 } := by
  decide +kernel
/-- 4.11, 3652: GAP expires with the queue empty: HOLD for 300 ms. -/
theorem test_gap_expires :
    let u := after (exec (.gapExpiry 4) (served .gap (drafted .converting)))
    (u.gen 4).state = .hold ∧ (u.gen 4).timer = .running 0 300 := by decide +kernel
/-- 4.11, 3952: HOLD expires and the generator is released. -/
theorem test_hold_expires :
    let u := after (exec (.holdExpiry 4) (served .hold (drafted .converting)))
    (u.gen 4).state = .free ∧ genOf u 7 = none := by decide +kernel
/-- 4.11, 15252: the quiet timer's expiry closes the draft QUIET. -/
theorem test_quiet_expires :
    let u := after (exec (.quietTimerExpiry 7) (expired .quiet (drafted .converting)))
    (u.line 7).draft = .none ∧ u.writer.fifo.map (·.cause) = [.quiet] := by decide +kernel
/-- R73: the first-digit expiry of a line without a draft makes an empty NO_DIAL record. -/
theorem test_first_digit_expires :
    let u := after (exec (.firstDigitTimerExpiry 7) (expired .firstDigit seized))
    (u.line 7).state = .converting ∧ u.writer.fifo.map (fun d => (d.cause, d.draft.symbols)) = [(.noDial, [])] := by
  decide +kernel
/-- R77: the generator-wait expiry takes the line into LOCKOUT. -/
theorem test_generator_wait_expires :
    ((after (exec (.generatorWaitTimerExpiry 7) (expired .generatorWait { drafted .converting with queue := [dialled 4] }))).line 7).state
      = .lockout := by decide +kernel

/-! ### The plan (5.5) -/

/-- Digits of a number. -/
def digits (l : List Nat) : List Tone := l.map fun d => ⟨d % 16, Nat.mod_lt _ (by decide)⟩

/-- An entry of the worked plan; 10 stands for ANY. -/
def planRow (pattern : List Nat) (minLen maxLen : Nat) (action : PlanAction) (strip : Nat) (insert : List Nat)
    (cls : ServiceClass) : PlanEntry :=
  { pattern := pattern.map fun d => if d = 10 then .any else .tone ⟨d % 16, Nat.mod_lt _ (by decide)⟩, minLen, maxLen,
    action, strip, insert := digits insert, cls }

/-- The plan of 5.5, without its last entry. -/
def areaPlan : List PlanEntry :=
  [planRow [0] 1 1 .stripPrepend 1 [1, 4, 0, 0] .b, planRow [0, 1] 2 2 .stripPrepend 2 [1, 7, 7, 5] .a,
    planRow [0, 10] 6 16 .pass 0 [] .b, planRow [3, 10, 10, 10] 4 4 .prepend 0 [0, 5, 7, 2, 6] .c,
    planRow [4, 10, 10, 10] 4 4 .stripPrepend 1 [0, 5, 7, 2, 8, 3] .c, planRow [7, 10] 5 5 .prepend 0 [0, 5, 7, 2] .c,
    planRow [9] 1 1 .bar 0 [] .b]

/-- 5.5: 4 1 5 waits; 4 1 5 6 decides entry 4, which sends 0 5 7 2 8 3 1 5 6. -/
theorem test_plan_local :
    matchSymbol areaPlan .bar (digits [4, 1, 5]) = none ∧
    (selected areaPlan (digits [4, 1, 5, 6])).map (fun x => (x.1, x.2.sends (digits [4, 1, 5, 6])))
      = some (4, digits [0, 5, 7, 2, 8, 3, 1, 5, 6]) := by decide
/-- 5.5: 0 waits, entries 1 and 2 being open, and is decided as entry 0 at the expiry. -/
theorem test_plan_operator :
    matchSymbol areaPlan .bar (digits [0]) = none ∧
    (match matchExpiry areaPlan .bar (digits [0]) with | .entry i e => some (i, e.cls) | _ => none) = some (0, .b) := by
  decide
/-- 5.5: 0 1 decides entry 1, of class A, at once. -/
theorem test_plan_emergency :
    (match matchSymbol areaPlan .bar (digits [0, 1]) with | some (.entry i e) => some (i, e.cls) | _ => none)
      = some (1, .a) := by decide
/-- R95: a number no entry can match is barred at once by the unmatched action BAR, and waits under PASS. -/
theorem test_plan_unmatched :
    matchSymbol areaPlan .bar (digits [5]) = some .unmatchedBar ∧ matchSymbol areaPlan .pass (digits [5]) = none := by decide

/-- A bank in RUNNING with the area plan active. -/
def planned (c : LineCtx) : State :=
  (running.modBank 0 fun _ => { state := .active, entries := areaPlan, refCount := 1 }).modLine 7 fun _ => c

/-- A line collecting a number from bank 0. -/
def collecting (number : List Tone) : LineCtx :=
  { drafted .collecting with bound := some areaProfile, number, boundBank := some 0 }

/-- 5.5: the operator's 0 at the complete expiry: four symbols queued, SENDING, bank unbound. -/
theorem test_complete_expires :
    let u := after (exec (.completeTimerExpiry 7)
      (planned ((collecting (digits [0])).setTimer .complete (.running 5000 5000))))
    (u.line 7).state = .sending ∧ (u.line 7).queue.map (·.symbol) = digits [1, 4, 0, 0] ∧ (u.bank 0).refCount = 0 := by
  decide +kernel

/-! ### Tones (7.2, 7.6) -/

/-- 7.6: the derived values of symbol 1. -/
theorem test_derived_values :
    deriveTone 697 6000 = { silent := false, coefficient := 27980, start := 3123 } ∧
    deriveTone 1209 7500 = { silent := false, coefficient := 19073, start := 6099 } := by decide +kernel
/-- 7.6, index 3 of the low resonator: 9108 - 3123. -/
theorem test_resonator_sample :
    ({ silent := false, coefficient := 27980, start := 3123, y1 := 5333, y2 := 3123 } : Resonator).sample 3 = 5985 ∧
    ({ silent := false, coefficient := 19073, start := 6099, y1 := 6099, y2 := 0 } : Resonator).sample 2 = 7100 := by decide

/-! ### Registers, time and records -/

/-- R190: STATE of a RUNNING part with both highways present; R187: the mask keeps bits 1 to 9. -/
theorem test_state_word :
    readRegister running .state = 0x00030103 ∧
    readRegister (after (exec (.registerWrite .attentionMask 0xFFFFFFFF) running)) .attentionMask = 0x3FE := by decide
/-- R187: EMERGENCY (5) is read before ORDER_DONE (8). -/
theorem test_attention_priority :
    let u := after (exec .attentionRead (raise .orderDone (raise .emergency running)))
    u.control.readData = 5 ∧ readRegister u .attention = 8 := by decide
/-- R182: a write of STATION BASE in HALTED drops its low 12 bits; in RUNNING it is discarded. -/
theorem test_station_base :
    readRegister (after (exec (.stationBaseWrite 0x12345678) State.reset)) .stationBase = 0x12345000 ∧
    readRegister (after (exec (.stationBaseWrite 0x12345678) running)) .stationBase = 0 := by decide
/-- R8, R9: the frame count passes from 7 to 0 and a millisecond event falls due. -/
theorem test_frame_count_wraps :
    let u := after (exec (.lineFrame (flatFrame false)) (running.modSlotPath fun p => { p with frameCount := 7 }))
    u.slotPath.frameCount = 0 ∧ u.slotPath.msDue = true := by decide +kernel
/-- 1.8: the 32nd consecutive line frame restores the highway. -/
theorem test_line_highway_restored :
    let u := after (exec (.lineFrame (flatFrame false))
      (running.modSlotPath fun p => { p with lineHw := { present := false, restoreCount := 31, frameWatch := 0 } }))
    u.slotPath.lineHw.present = true ∧ u.control.attention.get 2 = true := by decide +kernel
/-- 1.8: the loss of the line highway tears a line down HIGHWAY_LOSS. -/
theorem test_line_highway_lost :
    let u := after (exec (.frameWatchExpiry .line) (withLoop (drafted .converting) (loopAt .steadyClosed true 100)))
    (u.line 7).state = .idle ∧ u.writer.fifo.map (·.cause) = [.highwayLoss] ∧ u.slotPath.frameCount = 4 := by decide +kernel
/-- R9: the run clock wraps. -/
theorem test_run_clock_wraps :
    (after (exec .millisecondEvent (running.modSlotPath fun p => { p with msDue := true, runClock := 0xFFFFFFFF }))).slotPath.runClock
      = 0 := by decide +kernel

/-- The draft of 4.11, closed at 15252. -/
def workedDraft : ClosedDraft :=
  { draft := { callDraft with line := 22, symbols := [.tone 4, .tone 7], sent := 2 }, closeTime := 15252, p := 800,
    cause := .quiet }

/-- R194, 4.11: the first 30 bytes of the record of the worked call, as record 17. -/
theorem test_record_body :
    (recordBody 17 workedDraft).take 30 =
      [0x11, 0, 0, 0, 0xB8, 0x0D, 0, 0, 0x94, 0x3B, 0, 0, 0x01, 0, 0x20, 0x03, 22, 2, 0, 0, 0x03, 0xFF, 0, 2, 0, 0, 0, 0,
        4, 7] ∧ (recordBody 17 workedDraft).length = 60 := by decide
/-- 8.6, 202510: a FREE slot 3 gets record 18, and the cursor moves to 0 with sequence 19. -/
theorem test_record_written :
    let w := running.modWriter fun w =>
      { w with fifo := [workedDraft], cursor := 3, sequence := 18, state := .writingMark, chosen := 3, slots := 4 }
    let u := (after (exec .recordMarkWriteDone (onPort .recordMarkWrite w))).writer
    u.cursor = 0 ∧ u.sequence = 19 ∧ u.fifo = [] ∧ u.state = .idle := by decide +kernel
/-- 8.6, 200004: the fourth FILLED mark parks the writer and raises RECORD_PARKED. -/
theorem test_writer_parks :
    let w := running.modWriter fun w =>
      { w with fifo := [workedDraft], cursor := 3, state := .searching, examined := 3, slots := 4 }
    let u := after (exec (.recordMarkReadDone 1) (onPort .recordMarkRead w))
    u.writer.state = .parked ∧ u.writer.cursor = 3 ∧ u.control.attention.get 5 = true := by decide +kernel

/-! ### Orders -/

/-- R197: the identification record. -/
theorem test_identification :
    identification.take 16 = [0x7C, 0x0A, 0x64, 0x0D, 1, 64, 16, 8, 128, 32, 24, 32, 64, 64, 1, 0] := by decide
/-- R193: an order code that does not exist is answered with its code at 0x3B. -/
theorem test_unknown_order :
    resultBytes { status := .unknownOrder, details := { order := 0x55 } }
      = [0x02, 0, 0, 0, 0, 0, 0, 0, 0, 0, 0, 0, 0, 0, 0, 0, 0, 0, 0, 0x55, 0, 0, 0, 0] := by decide
/-- R87: SET_LINE of line 9 to profile 3, class A. -/
theorem test_set_line :
    let u := after (exec (.setLine (bodyOf [0x04, 0, 0, 0, 9, 1, 3, 1])) reading)
    u.setting 9 = { enabled := true, profile := 3, cls := .a } ∧ (u.line 9).state = .idle ∧
      (u.classifier 9).waiting = true := by decide +kernel
/-- R128: SEND_TONES of 1 and 2 on a SEIZED line. -/
theorem test_send_tones :
    let u := after (exec (.sendTones (bodyOf [0x09, 0, 0, 0, 7, 2, 2, 0, 0, 0, 0, 0, 1, 2]))
      (reading.modLine 7 fun _ => seized))
    (u.line 7).state = .converting ∧ (u.line 7).queue.map (·.symbol) = digits [1, 2] ∧ u.orders.state = .inProgress := by
  decide +kernel
/-- 5.9, step 10: a pattern that an entry already written has is refused, naming the pattern. -/
theorem test_plan_repeat_refused :
    firstFailure (planChecks [1, 9, 0, 0, 0, 0, 0, 0, 0, 1, 1, 4, 0, 0, 0, 0, 0, 0, 0, 0, 0, 0, 2] areaPlan) = some 1 ∧
    firstFailure (planChecks [1, 8, 0, 0, 0, 0, 0, 0, 0, 1, 1, 4, 0, 0, 0, 0, 0, 0, 0, 0, 0, 0, 2] areaPlan) = none := by
  decide
/-- 5.9, step 4: SWITCH_PLAN. -/
theorem test_switch_plan :
    let u := after (exec (.switchPlan (bodyOf [0x08]))
      ((reading.modBank 0 fun b => { b with state := .active, refCount := 2 }).modBank 1 fun b => { b with state := .staged }))
    u.plan.active = 1 ∧ (u.bank 0).state = .inactiveLoaded ∧ (u.bank 1).state = .active := by decide +kernel
/-- R175: DONE moves the cursor beyond the slot and raises ORDER_DONE. -/
theorem test_order_done :
    let u := after (exec .orderDoneWriteDone (onPort .doneWrite (ordering .completing .none running)))
    u.orders.cursor = 3 ∧ u.orders.current = none ∧ u.control.attention.get 7 = true := by decide +kernel
/-- R92, R186: a host-bus error on the result write of a LOAD_PLAN that reached STAGED leaves its bank STAGED. -/
theorem test_staged_bank_survives_error :
    let s := (ordering .completing (.loadPlan 0 1 1) running).modBank 1 fun b => { b with state := .staged, entries := areaPlan }
    let u := (after (exec .hostBusError (onPort .resultWrite s))).bank 1
    u.state = .staged ∧ u.entries = areaPlan := by decide +kernel
/-- R4: at the loss of the line highway the last frame's trunk frame leaves, and a silent one after it. -/
theorem test_last_frame_leaves_at_loss :
    (after (exec (.frameWatchExpiry .line) (running.modSlotPath fun p =>
      { p with trunkLeaving := some (Table.replicate _ { sample := 5, offHook := true }) }))).slotPath.trunkOut
      = [Table.replicate _ { sample := 5, offHook := true }, silentFrame] := by decide +kernel
/-- R12, R179: a line enabled while the line highway is lost shows STEADY_OPEN. -/
theorem test_enabled_while_lost :
    let s := reading.modSlotPath fun p => { p with lineHw := Watch.reset }
    let u := after (exec (.setLine (bodyOf [0x04, 0, 0, 0, 9, 1, 3, 1]))
      (s.modClassifier 9 fun c => { c with pulse := .steadyClosed }))
    (u.line 9).state = .idle ∧ (u.classifier 9).pulse = .steadyOpen := by decide +kernel

/-! ### Witnesses: states and operands that meet the hypotheses of each statement -/

theorem witness_StepRunsTheFrontCommand :
    ({ State.reset with pending := [.attentionRead] } : State).pending = .attentionRead :: [] ∧
    State.reset.pending = [] ∧ dueEvents State.reset = [] ∧ State.reset.slotPath.frameInHand = none := by
  decide +kernel

theorem witness_EpilogueInRunning : running.running = true ∧ running.slotPath.frameInHand = none := by decide

/-- The state after reset meets every invariant, and takes a step. -/
theorem witness_invariants : State.reset.control.Legal ∧ State.reset.slotPath.Legal ∧ State.reset.PortLegal ∧
    State.reset.FifoLegal ∧ step State.reset = .next (idle State.reset) := by
  refine ⟨?_, ?_, ?_, ?_, rfl⟩
  · unfold Control.Legal; decide
  · unfold SlotPath.Legal; decide
  · simp [State.PortLegal, State.Dormant, State.reset, Control.powerOn, Port.reset, Orders.reset]
  · refine ⟨by decide, ?_⟩
    intro n d h
    simp [State.line, State.reset, LineCtx.reset] at h

/-- G4 serves line 7 in ON, and line 9 waits at class C within the reserve. -/
def contended : State :=
  ((served .on { drafted .converting with queue := [dialled 4] }).modLine 9 fun _ =>
    { drafted .converting with queue := [dialled 5] }).modPool fun p =>
    { p with
      reserve := 15, joins := 3,
      waitList := [{ line := 9, cls := .c, entryTime := 0, preempted := false, join := 2 }] }

/-- A running part with a generator attached and a claim waiting meets the pool's invariant and takes a step. -/
theorem witness_PoolLegal : contended.PoolLegal ∧ contended.running = true ∧ (contended.gen 4).attached = some 7 ∧
    isWaiting contended 9 = true ∧ (contended.control.part == .running) = true := by
  unfold State.PoolLegal
  decide +kernel

theorem witness_StepKeepsStoreLegal : State.reset.StoreLegal := by
  refine ⟨fun i => ?_, fun i => ?_, fun n => ?_⟩
  · simp only [State.reset, Settings.reset, Table.get_replicate]
    unfold Profile.Legal
    decide
  · fin_cases i <;> exact ⟨rfl, rfl⟩
  · simp [State.estimator, State.reset]

theorem witness_BaseAndMaskChangeOnlyAsStated :
    exec .attentionRead running = .next (readAttention running) ∧ running.control.part ≠ .resetHeld ∧
    running.control.part ≠ .halted ∧ (.attentionRead : Instr) ≠ .powerOn ∧
    ∀ v, (.attentionRead : Instr) ≠ .registerWrite .attentionMask v := by
  refine ⟨rfl, by decide, by decide, by decide, fun v h => by cases h⟩

theorem witness_OnlyReleaseLeavesResetHeld :
    (holdReset State.reset).PortLegal ∧ (holdReset State.reset).control.part = .resetHeld ∧
    (holdReset State.reset).control.holdReset = true ∧
    (after (exec (.holdResetRelease false true) (holdReset State.reset))).control.part ≠ .resetHeld := by
  refine ⟨?_, by decide, by decide, by decide⟩
  simp [State.PortLegal, State.Dormant, holdReset, State.reset, Control.inReset, Port.reset, Orders.reset, resetPort]

/-- A line in MAKE after a pulse break of 760 frames, whose loop opens after 384 frames. -/
def opening (p : PulseState) (pulse : Bool) : State :=
  (withLoop (drafted .converting)
    { loopAt p true 384 with lastBreak := 760, lastBreakPulse := pulse, pulseCount := 1, change := true }).modEstimator 7
    fun _ => { p := 800, idt := 1200 }

/-- An IDLE line whose close has lasted the seizure time, INCOMING set or clear. -/
def answering (incoming : Bool) : State :=
  (withLoop { LineCtx.reset with state := .idle } { loopAt .steadyClosed true 320 with bound := some .seizure }).modSlotPath
    fun p => { p with incoming := Table.replicate _ incoming }

theorem witness_InterDigitThreshold :
    isDue (.seizure 7) (answering false) = true ∧ isDue (.loopChange 7) (opening .make true) = true ∧
    ((opening .make true).line 7).state.seizedOn = true ∧ ((opening .make true).classifier 7).accepted = true ∧
    ((opening .make true).classifier 7).pulse = .make ∧ ((opening .make true).classifier 7).lastBreakPulse = true := by
  decide +kernel

theorem witness_PeriodMovesTowardSample : 1 ≤ Profile.default.weightShift ∧ movePeriod .default 950 1144 = 998 := by decide

theorem witness_SelectedEntry :
    (planRow [0, 10] 6 16 .pass 0 [] .b).candidate (digits [0] ++ digits [5]) = true ∧
    (planRow [0, 10] 6 16 .pass 0 [] .b).pattern[1]? = some .any ∧ (digits [0, 5])[1]? = some 5 ∧
    areaPlan[4]? = some (planRow [4, 10, 10, 10] 4 4 .stripPrepend 1 [0, 5, 7, 2, 8, 3] .c) := by decide

/-- An entry of 1 to 24 symbols. -/
def longRow : PlanEntry := planRow [1] 1 24 .pass 0 [] .b

theorem witness_DecisionAtASymbol :
    (∀ e ∈ areaPlan, e.candidate (digits [5]) = false) ∧
    selected areaPlan (digits [4, 1, 5, 6]) = some (4, planRow [4, 10, 10, 10] 4 4 .stripPrepend 1 [0, 5, 7, 2, 8, 3] .c) ∧
    (∀ f ∈ areaPlan, f.candidate (digits [4, 1, 5, 6]) = true → f.pattern.length ≤ (digits [4, 1, 5, 6]).length) ∧
    selected [longRow] (List.replicate 24 1) = some (0, longRow) ∧ selected [longRow] (List.replicate 24 2) = none ∧
    (∃ e ∈ areaPlan, e.candidate (digits [4, 1]) = true) ∧ selected areaPlan (digits [4, 1]) = none ∧
    (digits [4, 1]).length ≠ 24 := by decide +kernel

theorem witness_DecisionAtCompleteExpiry :
    (selected areaPlan (digits [0])).map Prod.fst = some 0 ∧
    (selected areaPlan (digits [0, 5])).map (fun x => (x.1, x.2.minLen)) = some (2, 6) ∧
    (∃ e ∈ areaPlan, e.candidate (digits [0, 5]) = true) ∧ (∀ e ∈ areaPlan, e.candidate (digits [5]) = false) ∧
    isDue (.timer .complete 7) (planned ((collecting (digits [0])).setTimer .complete (.running 5000 5000))) = true ∧
    ((planned ((collecting (digits [0])).setTimer .complete (.running 5000 5000))).line 7).state = .collecting := by
  decide +kernel

/-- A collected number at its complete expiry, under an unmatched action. -/
def completing (u : UnmatchedAction) (number : List Tone) : State :=
  planned { (collecting number).setTimer .complete (.running 5000 5000) with
    bound := some { areaProfile with unmatchedAction := u } }

theorem witness_CompleteExpiryActsOnTheDecision :
    isDue (.timer .complete 7) (completing .pass (digits [5])) = true ∧
    matchExpiry (boundEntries (completing .pass (digits [5])) 7) ((completing .pass (digits [5])).boundProfile 7).unmatchedAction
      ((completing .pass (digits [5])).line 7).number = .unmatchedPass ∧
    ((completing .pass (digits [5])).line 7).number ≠ [] ∧ ((completing .pass (digits [5])).line 7).queue = [] ∧
    ((completing .pass (digits [5])).line 7).state = .collecting ∧
    isDue (.timer .complete 7) (completing .bar (digits [0, 5])) = true ∧
    ((completing .bar (digits [0, 5])).line 7).state = .collecting ∧
    matchExpiry (boundEntries (completing .bar (digits [0, 5])) 7) ((completing .bar (digits [0, 5])).boundProfile 7).unmatchedAction
      ((completing .bar (digits [0, 5])).line 7).number = .incomplete := by decide +kernel

/-- Entries that send and that send none, and a line bound to bank 0 with a draft open. -/
theorem witness_DecisionActedOn :
    (planRow [0] 1 1 .stripPrepend 1 [1, 4] .a).action ≠ .bar ∧ (planRow [0] 1 1 .stripPrepend 1 [1, 4] .a).cls = .a ∧
    (planRow [0] 1 1 .stripPrepend 1 [1, 4] .a).sends ((planned (collecting (digits [0]))).line 7).number ≠ [] ∧
    (planRow [0] 1 1 .stripPrepend 1 [] .b).sends ((planned (collecting (digits [0]))).line 7).number = [] ∧
    (planRow [0] 1 1 .stripPrepend 1 [] .b).cls ≠ .a ∧
    ((planned (collecting (digits [0]))).line 7).draft = .opened callDraft ∧
    ((planned (collecting (digits [0]))).line 7).boundBank = some 0 ∧ (planRow [9] 1 1 .bar 0 [] .b).action = .bar := by
  decide +kernel

theorem witness_DecisionSends :
    (planRow [7, 10] 5 5 .prepend 0 [0, 5, 7, 2] .c).action = .prepend ∧
    (planRow [9] 1 1 .pass 0 [] .b).action = .pass ∧
    (planRow [4, 10, 10, 10] 4 4 .stripPrepend 1 [0, 5, 7, 2, 8, 3] .c).action = .stripPrepend ∧
    (planRow [4, 10, 10, 10] 4 4 .stripPrepend 1 [0, 5, 7, 2, 8, 3] .c).strip ≤ 4 ∧ (digits [4, 1, 5, 6]).length = 4 := by
  decide

theorem witness_DerivedValuesInRange :
    toneCoefficient 100 = 32667 ∧ toneCoefficient 3900 = -32667 ∧ toneStart 2000 32767 = 32767 ∧ toneStart 100 0 = 0 ∧
    toneCoefficient (3899 + 1) < toneCoefficient 3899 := by
  decide +kernel

/-! #### Registers -/

theorem witness_HoldResetRelease :
    (holdReset State.reset).control.holdReset = true ∧ (holdReset State.reset).control.part = .resetHeld ∧
    (holdReset State.reset).control.run = false ∧ (holdReset State.reset).port.inFlight = none := by decide

/-- The part in a state with RUN 0. -/
def runOff (p : PartState) : State := (inPart p).modControl fun c => { c with run := false }

theorem witness_RunWritten1 :
    State.reset.control.part = .halted ∧ State.reset.control.holdReset = false ∧ State.reset.control.run = false ∧
    State.reset.port.inFlight = none ∧ (inPart .startFailed).control.part ≠ .stopping ∧
    (inPart .startFailed).control.run = true ∧ (runOff .stopping).control.part = .stopping ∧
    (runOff .stopping).control.holdReset = false ∧ (runOff .stopping).control.run = false := by decide

theorem witness_RunWritten0 :
    (∀ p ∈ [PartState.starting, .startFailed, .running],
      (inPart p).control.part = p ∧ (inPart p).control.holdReset = false ∧ (inPart p).control.run = true) ∧
    State.reset.control.part = .halted ∧ State.reset.control.run = false ∧
    (after (exec .runWritten0 (inPart .running))).control.stopTornDown = true := by decide +kernel

/-- A SEND_TONES of one symbol in progress on line 7. -/
def toning : State :=
  ordering .inProgress (.sendTones 7 .b 1 0 false) <| running.modLine 7 fun _ =>
    { drafted .converting with queue := [{ symbol := 1, origin := .order 2, begun := false }] }

/-- The same order with its entry begun. -/
def begunToning : State :=
  toning.modLine 7 fun c => { c with queue := [{ symbol := 1, origin := .order 2, begun := true }] }

/-- An access of the order unit that waits for the port. -/
def waitingOrder (purpose : Purpose) (s : State) : State :=
  s.modPort fun p => { p with waitOrder := some (writeAccess s purpose 0 [0x02, 0x00, 0x00, 0x00]) }

/-- The current order where RUN written 0 finds it: none, with an access in flight, with none, in progress, COMPLETING; and
with no order current the lines are torn down in the same step. -/
theorem witness_RunWritten0_orders :
    running.orders.current = none ∧
    (∀ s ∈ [ordering .executing (.loadPlan 0 1 5) running, onPort .takenWrite (ordering .taking .none running), toning,
        ordering .completing .none running],
      s.control.part = .running ∧ s.control.holdReset = false ∧ s.control.run = true) ∧
    (ordering .executing (.loadPlan 0 1 5) running).orders.current = some (orderOf (.loadPlan 0 1 5)) ∧
    (ordering .executing (.loadPlan 0 1 5) running).port.orderInFlight = false ∧
    (ordering .executing (.loadPlan 0 1 5) running).port.takenWaits = false ∧
    (onPort .takenWrite (ordering .taking .none running)).port.orderInFlight = true ∧
    (waitingOrder .takenWrite (ordering .taking .none running)).port.takenWaits = true ∧
    toning.orders.state = .inProgress ∧ (ordering .completing .none running).orders.state = .completing ∧
    (after (exec .runWritten0 (withLoop (drafted .converting) (loopAt .brk false 9)))).orders.current = none ∧
    ((after (exec .runWritten0 (withLoop (drafted .converting) (loopAt .brk false 9)))).line 7).state = .idle := by
  decide +kernel

/-- A TOUCHED write in flight with an order's write behind it, and a SEND_TONES that a second ABORT finds fixed. -/
theorem witness_AbortOrder_touched :
    ((ordering .executing .none running).modPort fun p =>
      { p with inFlight := some (touchedAccess 0 0 (p.windows.get 0)),
               behind := some (writeAccess running .identifyWrite 0 identification) }).port.orderInFlight = true ∧
    ((ordering .inProgress (.sendTones 7 .b 1 0 true) begunToning).line 7).queue.filter (fun e => e.isOrder && e.begun) ≠ [] ∧
    (ordering .inProgress (.sendTones 7 .b 1 0 true) begunToning).orders.current
      = some (orderOf (.sendTones 7 .b 1 0 true)) := by decide +kernel

theorem witness_AbortOrder :
    running.orders.current = none ∧
    (onPort .takenWrite (ordering .taking .none running)).orders.current = some (orderOf .none) ∧
    (onPort .takenWrite (ordering .taking .none running)).port.orderInFlight = true ∧
    (ordering .executing (.loadPlan 0 1 5) running).orders.current = some (orderOf (.loadPlan 0 1 5)) ∧
    (ordering .executing (.loadPlan 0 1 5) running).port.orderInFlight = false ∧
    (ordering .executing (.loadPlan 0 1 5) running).port.takenWaits = false ∧
    toning.orders.current = some (orderOf (.sendTones 7 .b 1 0 false)) ∧ toning.orders.state = .inProgress ∧
    (toning.line 7).queue.filter (fun e => e.isOrder && e.begun) = [] ∧
    (waitingOrder .takenWrite (ordering .taking .none running)).port.takenWaits = true ∧
    (begunToning.line 7).queue.filter (fun e => e.isOrder && e.begun) ≠ [] ∧
    begunToning.orders.current = some (orderOf (.sendTones 7 .b 1 0 false)) ∧
    begunToning.orders.state = .inProgress := by decide +kernel

theorem witness_AttnEnableGatesTheLine : running.control.holdReset = false := by decide

theorem witness_StationBaseWrite :
    (holdReset State.reset).control.part = .resetHeld ∧ State.reset.control.part = .halted ∧
    running.control.part ≠ .resetHeld ∧ running.control.part ≠ .halted := by decide

theorem witness_AttentionFlags :
    (∀ i, State.reset.control.attention.get i = false) ∧
    (raise .memoryError running).control.attention.get 0 = true ∧
    (raise .recordWritten running).control.attention.get 8 = true ∧
    ∀ j, j < (8 : Fin 9) → (raise .recordWritten running).control.attention.get j = false := by decide

theorem witness_RegisterWrite :
    (holdReset State.reset).control.holdReset = true ∧ running.control.holdReset = false ∧
    (2 : Word).getLsbD 1 = true ∧ (9 : Word).getLsbD 1 = false ∧ (9 : Word).getLsbD 2 = false ∧
    (9 : Word).getLsbD 0 = running.control.run ∧ (5 : Word).getLsbD 2 = true ∧ (5 : Word).getLsbD 0 = running.control.run ∧
    (8 : Word).getLsbD 0 = false ∧ running.control.run = true ∧ State.reset.control.run = false ∧
    State.reset.control.holdReset = false ∧ (4 : Word).getLsbD 1 = false ∧ (4 : Word).getLsbD 2 = true ∧
    (4 : Word).getLsbD 0 ≠ running.control.run ∧ (1 : Word).getLsbD 0 = true ∧ 1 ∉ [0x00, 0x04, 0x08, 0x0C, 0x10] := by
  decide

/-! #### Highways and time -/

theorem witness_LineFramePassThrough :
    State.reset.control.part ≠ .running ∧ State.reset.control.part ≠ .stopping ∧
    State.reset.slotPath.frameInHand = none ∧
    (State.reset.modSlotPath fun p => { p with trunkLeaving := some silentFrame }).slotPath.trunkLeaving = some silentFrame ∧
    ((running.modSlotPath fun p => { p with frameInHand := some (.line (flatFrame true)) }).line 63).state = .disabled := by
  decide +kernel

/-- A frame in hand, G4 attached to line 7 in a state. -/
def concluding (st : GenState) : State :=
  (served st (drafted .converting)).modSlotPath fun p => { p with frameInHand := some (.line (flatFrame true)) }

/-- A frame in hand, line 7 without a generator, with this classifier. -/
def unserved (c : LineCtx) (k : Classifier) : State :=
  (withLoop c k).modSlotPath fun p => { p with frameInHand := some (.line (flatFrame true)) }

theorem witness_TrunkSlotOfAnEnabledLine :
    genOf (concluding .on) 7 = some 4 ∧ ((concluding .on).gen 4).state = .on ∧ (concluding .on).running = true ∧
    ((concluding .on).line 7).state ≠ .disabled ∧ genOf (concluding .gap) 7 = some 4 ∧
    ((concluding .gap).gen 4).state ≠ .on ∧ genOf (unserved seized (loopAt .brk false 3)) 7 = none ∧
    ((unserved seized (loopAt .brk false 3)).classifier 7).pulse.inProgress = true ∧
    (((unserved (seized.startTimer .muteTail 60) (loopAt .steadyClosed true 3)).line 7).timer .muteTail).isRunning = true ∧
    ((unserved seized (loopAt .steadyClosed true 3)).classifier 7).pulse.inProgress = false ∧
    (((unserved seized (loopAt .steadyClosed true 3)).line 7).timer .muteTail).isRunning = false := by decide +kernel

theorem witness_LineFrameInRunning :
    let s := withLoop (drafted .converting) { loopAt .steadyClosed true 3 with runCount := 24 }
    s.running = true ∧ s.slotPath.lineHw.present = true ∧ dueEvents s = [] ∧ s.slotPath.frameInHand = none ∧
    s.slotPath.msDue = false ∧ s.slotPath.frameCount < 8 ∧ (s.line 0).state = .disabled ∧
    (s.classifier 7).waiting = false ∧ 0 < (s.classifier 7).runCount ∧
    ((flatFrame true).get 7).closed = (s.classifier 7).accepted ∧ (s.line 7).draft = .opened callDraft ∧
    ((withLoop seized Classifier.reset).classifier 7).waiting = true := by decide +kernel

/-- The line highway lost for `k` frames of a run, line 7 enabled and waiting. -/
def restoring (k : Nat) : State :=
  (withLoop { LineCtx.reset with state := .idle } Classifier.reset).modSlotPath fun q =>
    { q with lineHw := { present := false, restoreCount := k, frameWatch := 2 } }

theorem witness_LineFrameWhileLost :
    (∀ s ∈ [restoring 0, restoring 30, restoring 31], s.running = true ∧ s.slotPath.lineHw.present = false ∧
      dueEvents s = [] ∧ s.slotPath.frameInHand = none ∧ s.slotPath.msDue = false ∧ s.slotPath.frameCount < 8 ∧
      (s.line 7).state ≠ .disabled ∧ (s.classifier 7).waiting = true ∧ (s.line 0).state = .disabled) ∧
    (restoring 30).slotPath.lineHw.restoreCount < 31 ∧ (restoring 31).slotPath.lineHw.restoreCount = 31 := by
  decide +kernel

/-- The line highway lost. -/
def lineLost (p : PartState) (count : Nat) : State :=
  (inPart p).modSlotPath fun q => { q with lineHw := Watch.reset, frameCount := count }

theorem witness_ReferenceFrameTime :
    (lineLost .running 7).running = true ∧ (lineLost .running 0).slotPath.lineHw.present = false ∧
    dueEvents (lineLost .running 0) = [] ∧ (lineLost .running 0).slotPath.frameInHand = none ∧
    (lineLost .running 0).slotPath.msDue = false ∧ (lineLost .running 7).slotPath.frameCount < 8 ∧
    (lineLost .stopping 7).stopping = true ∧ dueEvents (lineLost .stopping 7) = [] ∧
    running.slotPath.lineHw.present = true ∧ (lineLost .halted 0).running = false ∧
    (lineLost .halted 0).stopping = false := by decide +kernel

/-- The return highway lost, with a restore count. -/
def returnLost (k : Nat) : State :=
  running.modSlotPath fun p => { p with retHw := { present := false, restoreCount := k, frameWatch := 0 } }

theorem witness_ReturnFrameArrives :
    running.slotPath.retHw.present = true ∧ (returnLost 31).slotPath.retHw.present = false ∧
    (returnLost 31).slotPath.retHw.restoreCount = 31 ∧ (returnLost 30).slotPath.retHw.restoreCount < 31 := by decide

theorem witness_ProceedClearingCutsTheTone :
    let s := served .on (drafted .converting)
    let t := served .on { drafted .converting with bound := some { Profile.default with waitProceed := false } }
    s.running = true ∧ s.slotPath.proceed.get 7 = false ∧ s.serves 4 7 ∧ (s.gen 4).state = .on ∧ s.noEmergency = true ∧
    isWaiting s 7 = false ∧ (s.boundProfile 7).waitProceed = true ∧ (s.line 7).draft = .opened callDraft ∧
    t.serves 4 7 ∧ (t.boundProfile 7).waitProceed = false := by
  unfold State.serves
  decide +kernel

/-- Line 7 CONVERTING with one symbol queued and none of its own generators, PROCEED set, at a class; the generators are in
one state, G4 attached to line 9 and the rest to lines 20 to 35, serving a class. -/
def claiming (own : ServiceClass) (st : GenState) (cls : ServiceClass) (queue : List QueueEntry) : State :=
  let s := (running.modLine 7 fun _ => { drafted .converting with queue := [dialled 4] }).modLine 9 fun _ =>
    { drafted .converting with queue }
  { s with
    slotPath := { s.slotPath with proceed := Table.replicate _ true }
    settings := { s.settings with lines := s.settings.lines.set 7 { enabled := true, profile := 0, cls := own } }
    pool :=
      { s.pool with
        gens := Table.ofFn fun g =>
          { state := if g = 3 then .hold else st, attached := some (if g = 4 then 9 else ⟨20 + g.val, Nat.lt_of_lt_of_le (Nat.add_lt_add_left g.isLt 20) (by decide)⟩),
            served := some cls, timer := .running 0 70, clip := false } } }

/-- One generator is FREE there. -/
def oneFree (s : State) : State := s.modGen 5 fun _ => Generator.reset

/-- R112 to R119: a request that is granted at once, ones that wait, and ones that preempt. -/
theorem witness_PoolClaims :
    (∀ s ∈ [oneFree (claiming .b .on .b []), claiming .b .on .b [], oneFree (claiming .c .on .b []), claiming .a .on .b []],
      s.running = true ∧ requests s 7 = true ∧ s.pool.waitList = []) ∧
    firstFree (oneFree (claiming .b .on .b [])) = some 5 ∧ requestClass (oneFree (claiming .b .on .b [])) 7 = .b ∧
    firstFree (claiming .b .on .b []) = none ∧ requestClass (claiming .b .on .b []) 7 ≠ .a ∧
    requestClass (oneFree (claiming .c .on .b [])) 7 = .c ∧
    freeCount ((oneFree (claiming .c .on .b [])).modPool fun p => { p with reserve := 1 }) ≤ 1 ∧
    freeCount (oneFree (claiming .c .on .b [])) = 1 ∧ requestClass (claiming .a .on .b []) 7 = .a ∧
    victim ((claiming .a .on .b []).modGen 3 fun x => { x with state := .on }) = none ∧
    victim (claiming .a .on .b []) = some 3 ∧ ((claiming .a .on .b []).line 23).queue = [] := by decide +kernel

/-- R119, R120: class C victims, the lowest of which serves line 9. -/
theorem witness_PoolPreempts :
    let s := (claiming .a .on .b [dialled 6]).modPool fun p =>
      { p with gens := Table.ofFn fun g =>
          { (p.gens.get g) with state := .on, served := some (if g.val < 4 then .b else .c) } }
    s.running = true ∧ requests s 7 = true ∧ s.pool.waitList = [] ∧ requestClass s 7 = .a ∧ firstFree s = none ∧
    victim s = some 4 ∧ s.serves 4 9 ∧ (s.gen 4).state = .on ∧ (s.line 9).state.mayRequest = true ∧
    permitted s 9 = true ∧ (s.line 9).queue ≠ [] ∧ s.preemptable 4 ∧ (∀ h, (s.gen h).state ≠ .hold) ∧
    (∀ h, h < 4 → ¬ s.preemptable h) := by
  unfold State.serves State.preemptable
  decide +kernel

/-- R114, R116, R117: entries in grant order, a claim eligible and one not, and a grant to each. -/
theorem witness_PoolGrants :
    ({ line := 1, cls := .a, entryTime := 0, preempted := false, join := 9 } : WaitEntry).before
      { line := 2, cls := .b, entryTime := 0, preempted := true, join := 1 } = true ∧
    ({ line := 1, cls := .b, entryTime := 0, preempted := true, join := 9 } : WaitEntry).before
      { line := 2, cls := .b, entryTime := 0, preempted := false, join := 1 } = true ∧
    (contended.line 9).queue ≠ [] ∧ contended.pool.waitList.find? (eligible contended) = none ∧
    (∀ e ∈ contended.pool.waitList, eligible contended e = false) ∧ firstFree contended = some 0 ∧
    ((contended.modPool fun p => { p with reserve := 14 }).pool.waitList.find?
      (eligible (contended.modPool fun p => { p with reserve := 14 }))).map WaitEntry.line = some 9 := by decide +kernel

theorem witness_FrameWatchExpiry :
    running.slotPath.retHw.present = true ∧ (returnLost 5).slotPath.retHw.present = false ∧
    running.slotPath.lineHw.present = true ∧ running.control.attentionMask.getLsbD 3 = true ∧ running.running = true ∧
    (lineLost .running 0).slotPath.lineHw.present = false ∧ dueEvents running = [] ∧
    running.slotPath.frameInHand = none := by decide +kernel

/-- A millisecond event due. -/
def ticking (p : PartState) (sweep : Nat) : State :=
  ((inPart p).modSlotPath fun q => { q with msDue := true }).modOrders fun o =>
    { o with sweepInterval := 10, sweepTimer := sweep }

theorem witness_MillisecondEvent :
    (ticking .running 8).slotPath.msDue = true ∧ (ticking .running 8).running = true ∧
    (ticking .running 8).orders.sweepTimer + 1 < (ticking .running 8).orders.sweepInterval ∧
    (ticking .running 9).orders.sweepInterval ≤ (ticking .running 9).orders.sweepTimer + 1 ∧
    (ticking .stopping 0).slotPath.msDue = true ∧ (ticking .stopping 0).stopping = true ∧
    running.slotPath.msDue = false := by decide

/-! #### Lines -/

theorem witness_OpenAccepted :
    ∀ s ∈ [opening .steadyClosed true, opening .make true, opening .make false],
      isDue (.loopChange 7) s = true ∧ (s.line 7).state.seizedOn = true ∧ (s.classifier 7).accepted = true := by
  decide +kernel

/-- A line whose open of `len` frames in a pulse state just ends. -/
def closing (c : LineCtx) (p : PulseState) (len : Nat) : State := withLoop c { loopAt p false len with change := true }

/-- Without escapes. -/
def plain (c : LineCtx) : LineCtx := { c with bound := some { Profile.default with escapeEnable := false } }

theorem witness_CloseAccepted :
    (∀ s ∈ [closing seized .brk 160, closing seized .brk 159, closing seized .longOpen 1599, closing seized .longOpen 5608,
        closing seized .longOpen 1600, closing (drafted .converting) .longOpen 5607, closing (plain seized) .longOpen 1600,
        closing (plain (drafted .collecting)) .longOpen 1600],
      isDue (.loopChange 7) s = true ∧ (s.line 7).state.seizedOn = true ∧ (s.classifier 7).accepted = false ∧
      8 * (s.boundProfile 7).breakMin = 160 ∧ 8 * (s.boundProfile 7).flashMin = 1600 ∧
      8 * (s.boundProfile 7).flashMax + 7 = 5607 ∧ (s.classifier 7).dropped = false) ∧
    isDue (.loopChange 7) (closing { LineCtx.reset with state := .idle } .steadyOpen 9) = true ∧
    ((closing { LineCtx.reset with state := .idle } .steadyOpen 9).line 7).state = .idle := by decide +kernel

theorem witness_LongOpenEntry :
    (loopAt .brk false 1047).pulse = .brk ∧ (loopAt .longOpen false 1048).pulse = .longOpen ∧
    isDue (.longOpen 7) (withLoop seized { loopAt .brk false 1048 with pulseCount := 1, bound := some .longOpen }) = true ∧
    isDue (.longOpen 7) (withLoop seized { loopAt .brk false 1048 with bound := some .longOpen }) = true := by
  decide +kernel

theorem witness_Seizure :
    isDue (.seizure 7) (answering false) = true ∧ (answering false).slotPath.incoming.get 7 = false ∧
    isDue (.seizure 7) (answering true) = true ∧ (answering true).slotPath.incoming.get 7 = true ∧
    (loopAt .steadyClosed true 3).accepted = true ∧
    (({ loopAt .steadyClosed true 319 with seizureCount := 319 } : Classifier).flagFrame .default true true).change = false ∧
    8 * Profile.default.seizeMs ≤ 319 + 1 := by decide +kernel

/-- The clear of line 7, with G4 attached and a SEND_TONES in progress. -/
def clearing : State :=
  ((toning.modLine 7 fun c => { c with boundBank := some 1 }).modClassifier 7 fun _ =>
      { loopAt .longOpen false 7200 with bound := some .clear }).modGen 4 fun _ =>
    { state := .gap, attached := some 7, served := some .b, timer := .running 0 70, clip := false }

theorem witness_Clear :
    isDue (.clear 7) clearing = true ∧
    (∀ g h, (clearing.gen g).attached = some 7 → (clearing.gen h).attached = some 7 → g = h) ∧
    (clearing.line 7).boundBank = some 1 ∧ (clearing.line 7).draft = .opened callDraft ∧
    clearing.orders.current = some (orderOf (.sendTones 7 .b 1 0 false)) ∧ clearing.orders.state = .inProgress ∧
    (loopAt .longOpen false 7199).pulse = .longOpen ∧
    8 * Profile.default.clearMs ≤ ((loopAt .longOpen false 7199).flagFrame .default false false).interval := by
  decide +kernel

/-- A digit of `count` pulses complete. -/
def digitAt (c : LineCtx) (count : Nat) (corrupt : Bool) : State :=
  withLoop c { loopAt .make true 1200 with pulseCount := count, corrupt, bound := some .digit }

/-- A converting line with a full queue. -/
def fullQueue : LineCtx := { drafted .converting with queue := List.replicate 32 (dialled 5) }

theorem witness_DigitComplete :
    (∀ s ∈ [digitAt (drafted .converting) 10 true, digitAt seized 11 false, digitAt seized 1 false,
        digitAt (drafted .converting) 10 false, digitAt fullQueue 10 false,
        digitAt { seized with bound := some areaProfile } 4 false, digitAt (collecting (digits [4, 1])) 5 false],
      isDue (.digit 7) s = true ∧ (s.line 7).escapedDigit = false ∧ (s.line 7).state ≠ .sending) ∧
    ((digitAt seized 1 false).boundProfile 7).translation.get 0 = some 1 ∧
    ((digitAt seized 10 false).boundProfile 7).translation.get 9 = some 0 ∧ fullQueue.queue.length = 32 ∧
    matchSymbol (planned seized |>.bank 0).entries .bar [4] = none ∧
    matchSymbol areaPlan .bar (digits [4, 1] ++ [5]) = none ∧ (loopAt .make true 1199).pulse = .make ∧
    ((loopAt .make true 1199).flagFrame .default false true).change = false := by decide +kernel

/-- A digit of `count` pulses complete on a line of the area plan. -/
def plannedDigit (c : LineCtx) (count : Nat) : State :=
  ((planned c).modClassifier 7 fun _ => { loopAt .make true 1200 with pulseCount := count, bound := some .digit })

/-- R95: 9 at a SEIZED EN_BLOC line and the last 6 of 4 1 5 6 are decided at the symbol. -/
theorem witness_DigitDecides :
    (∀ s ∈ [plannedDigit { drafted .seized with bound := some areaProfile } 9, plannedDigit (collecting (digits [4, 1, 5])) 6],
      isDue (.digit 7) s = true ∧ (s.line 7).escapedDigit = false ∧ (s.line 7).draft = .opened callDraft) ∧
    (matchSymbol ((planned seized).bank (planned seized).plan.active).entries areaProfile.unmatchedAction [9]).isSome = true ∧
    (matchSymbol (boundEntries (plannedDigit (collecting (digits [4, 1, 5])) 6) 7) areaProfile.unmatchedAction
      (digits [4, 1, 5] ++ [6])).isSome = true := by decide +kernel

/-- A line with an escaped digit in progress. -/
def escaped (c : LineCtx) : LineCtx := { c with escapePending := true, escapedDigit := true }

/-- R54, R55: escaped digits: 1 is STAR, 0 has no symbol, and one of eleven pulses. -/
theorem witness_DigitEscaped :
    (∀ s ∈ [digitAt (escaped (drafted .converting)) 1 false, digitAt (escaped (drafted .seized)) 10 false,
        digitAt (escaped (drafted .converting)) 11 false, digitAt (escaped (collecting (digits [4]))) 2 false],
      isDue (.digit 7) s = true ∧ (s.line 7).escapedDigit = true ∧ (s.line 7).state ≠ .sending) ∧
    Profile.default.translation.get 0 = some 1 ∧ Profile.default.escape.get 1 = some 0xA ∧
    Profile.default.translation.get 9 = some 0 ∧ Profile.default.escape.get 0 = none ∧
    matchSymbol (boundEntries (digitAt (escaped (collecting (digits [4]))) 2 false) 7) .pass (digits [4] ++ [0xB]) = none ∧
    ((digitAt (escaped (drafted .converting)) 1 false).line 7).queue.length < 32 := by decide +kernel

theorem witness_SymbolIgnored :
    ((digitAt (drafted .sending) 1 false).line 7).state = .sending ∧
    ((digitAt (drafted .sending) 1 false).line 7).draft = .opened callDraft ∧
    isDue (.digit 7) (digitAt (drafted .sending) 1 false) = true ∧
    ((digitAt { seized with state := .lockout } 10 false).line 7).state = .lockout ∧
    isDue (.digit 7) (digitAt { seized with state := .lockout } 10 false) = true ∧
    CloseCause.barred.stateAfter = .lockout := by decide +kernel

theorem witness_CallTimerExpiries :
    isDue (.timer .firstDigit 7) (expired .firstDigit seized) = true ∧
    ((expired .firstDigit seized).line 7).draft = .none ∧ closedWaiting (expired .firstDigit seized) 7 = false ∧
    isDue (.timer .firstDigit 7) (expired .firstDigit (drafted .seized)) = true ∧
    isDue (.timer .quiet 7) (expired .quiet (drafted .converting)) = true ∧
    ((expired .quiet (drafted .converting)).line 7).state = .converting ∧
    isDue (.timer .proceed 7) (expired .proceed (drafted .sending)) = true ∧
    isDue (.timer .generatorWait 7) (expired .generatorWait (drafted .sending)) = true ∧
    ((expired .generatorWait (drafted .sending)).line 7).draft = .opened callDraft := by decide +kernel

theorem witness_SlotTimerExpiries :
    (∀ k ∈ [TimerKind.escape, .muteTail, .flashOut], isDue (.timer k 7) (expired k (drafted .seized)) = true) ∧
    ((expired .escape { drafted .seized with escapedDigit := true }).line 7).escapedDigit = true ∧
    isDue (.timer .escape 7) (expired .escape { drafted .seized with escapedDigit := true }) = true ∧
    ((expired .escape (drafted .seized)).line 7).escapedDigit = false ∧
    ((expired .escape (drafted .converting)).line 7).state = .converting ∧
    (∀ c ∈ [drafted .sending, collecting (digits [4]), { seized with state := .lockout }],
      isDue (.timer .escape 7) (expired .escape c) = true ∧ ((expired .escape c).line 7).escapedDigit = false) ∧
    (expired .escape (drafted .sending)).noEmergency = true ∧
    ((expired .escape (drafted .sending)).line 7).draft = .opened callDraft := by decide +kernel

/-! #### Generators -/

/-- A decided number of `k` symbols on line 7, `sent` of them sent. -/
def deciding (k sent : Nat) (queue : List QueueEntry) : LineCtx :=
  { drafted .sending with decision := some { cls := .b, toSend := k, sent }, queue }

/-- The last symbol of a SEND_TONES in ON. -/
def lastTone : State :=
  ordering .inProgress (.sendTones 7 .b 1 0 false)
    (served .on { drafted .converting with queue := [{ symbol := 1, origin := .order 2, begun := true }] })

theorem witness_OnExpiry :
    (∀ s ∈ [served .on (deciding 2 1 [dialled 3]), lastTone],
      isDue (.onExpiry 4) s = true ∧ ((s.gen 4).attached = some 7 ∧ ∀ h, (s.gen h).attached = some 7 → h = 4) ∧
      s.noEmergency = true ∧ isWaiting s 7 = false ∧ (s.line 7).queue ≠ []) ∧
    (served .on (deciding 2 1 [dialled 3])).gen 4 = (served .on seized).gen 4 ∧
    lastTone.orders.current = some (orderOf (.sendTones 7 .b 1 0 false)) ∧
    (lastTone.line 7).queue = { symbol := 1, origin := .order 2, begun := true } :: [] := by decide +kernel

/-- A converting line that does not hold its generator. -/
def noHold : LineCtx := { drafted .converting with bound := some { Profile.default with genHoldMs := 0 } }

theorem witness_GapAndHoldExpiry :
    (∀ s ∈ [served .gap (deciding 2 2 []), served .gap (deciding 2 1 [dialled 3]), served .gap (drafted .converting),
        served .gap noHold],
      isDue (.gapExpiry 4) s = true ∧ ((s.gen 4).attached = some 7 ∧ ∀ h, (s.gen h).attached = some 7 → h = 4) ∧
      s.noEmergency = true ∧ isWaiting s 7 = false) ∧
    0 < ((served .gap (drafted .converting)).boundProfile 7).genHoldMs ∧
    ((served .gap noHold).boundProfile 7).genHoldMs = 0 ∧
    isDue (.holdExpiry 4) (served .hold (drafted .converting)) = true ∧
    ((served .hold (drafted .converting)).line 7).queue = [] := by decide +kernel

theorem witness_ResonatorSample : Resonator.reset.silent = false ∧ ({ Resonator.reset with silent := true }).silent = true := by
  decide

/-! #### Orders -/

/-- A scan in progress, `k` marks examined. -/
def scanning (k : Nat) : State :=
  onPort .orderMarkRead (running.modOrders fun o => { o with state := .scanning, slots := 4, examined := k })

/-- A sweep event due. -/
def sweeping (u : UnitState) (w : WriterState) : State :=
  (running.modOrders fun o => { o with state := u, slots := 4, sweepDue := true }).modWriter fun x =>
    { x with state := w, fifo := [workedDraft], slots := 4 }

theorem witness_SweepAndMarkRead :
    isDue .sweep (sweeping .idle .parked) = true ∧ (sweeping .idle .parked).orders.state = .idle ∧
    (sweeping .idle .parked).writer.state = .parked ∧ (sweeping .idle .parked).writer.fifo ≠ [] ∧
    isDue .sweep (sweeping .executing .idle) = true ∧ (sweeping .executing .idle).orders.state ≠ .idle ∧
    (sweeping .executing .idle).writer.state ≠ .parked ∧ (scanning 2).onBus .orderMarkRead = true ∧
    (scanning 2).running = true ∧ (scanning 2).orders.examined + 1 < (scanning 2).orders.slots ∧
    (scanning 3).orders.slots ≤ (scanning 3).orders.examined + 1 := by decide +kernel

/-- What every order's execution needs holds of `reading`. -/
theorem reading_executing : reading.executing (orderOf .none) :=
  ⟨by decide, by decide, by decide, by decide⟩

theorem witness_TakenNopAndUnknown :
    (onPort .takenWrite (ordering .taking .none running)).onBus .takenWrite = true ∧
    (onPort .takenWrite (ordering .taking .none running)).orders.current = some (orderOf .none) ∧
    (orderOf .none).abort = false ∧ ({ orderOf .none with abort := true }).work = .none ∧
    (bodyOf [0x01]).code = 0x01 ∧ (bodyOf [0x00]).code = 0 ∧ 9 < (bodyOf [0x0A]).code := by decide +kernel

theorem witness_IdentifyAndReadLine :
    (bodyOf [0x02, 0, 0, 0, 0xC0, 0xFF, 0, 0]).code = 0x02 ∧
    accessAllowed reading.port.windows (paramAddress (bodyOf [0x02, 0, 0, 0, 0xC0, 0xFF, 0, 0]) 0x08) 64 true = true ∧
    accessAllowed reading.port.windows (paramAddress (bodyOf [0x02, 0, 0, 0, 0xC1, 0xFF, 0, 0]) 0x08) 64 true = false ∧
    (bodyOf [0x03, 0, 0, 0, 63]).code = 0x03 ∧ param (bodyOf [0x03, 0, 0, 0, 63]) 0x08 = (63 : LineNo).val ∧
    accessAllowed reading.port.windows (paramAddress (bodyOf [0x03, 0, 0, 0, 63]) 0x0C) 64 true = true ∧
    accessAllowed reading.port.windows (paramAddress (bodyOf [0x03, 0, 0, 0, 0, 0, 0, 0, 0, 0, 0x10]) 0x0C) 64 true = false ∧
    64 ≤ param (bodyOf [0x03, 0, 0, 0, 64]) 0x08 ∧ isWaiting running 9 = false ∧
    contended.pool.waitList[0]?.map WaitEntry.line = some 9 ∧ waitPosition contended 9 = 1 := by decide +kernel

theorem witness_OrderWritesDone :
    (∀ p ∈ [Purpose.identifyWrite, .readLineWrite, .resultWrite, .doneWrite],
      (onPort p (ordering .completing .none running)).onBus p = true ∧
      (onPort p (ordering .completing .none running)).running = true ∧
      (onPort p (ordering .completing .none running)).orders.current = some (orderOf .none)) ∧
    (ordering .completing .none running).orders.examined < (ordering .completing .none running).orders.slots ∧
    (running.modOrders fun o => { o with slots := 4, examined := 4 }).orders.slots ≤ 4 ∧
    (orderOf .none).progressed = false := by decide +kernel

theorem witness_SetLine :
    (bodyOf [0x04]).code = 0x04 ∧ 64 ≤ param (bodyOf [0x04, 0, 0, 0, 64]) 0x08 ∧
    1 < param (bodyOf [0x04, 0, 0, 0, 63, 2]) 0x09 ∧ 8 ≤ param (bodyOf [0x04, 0, 0, 0, 63, 1, 8]) 0x0A ∧
    classOfCode (param (bodyOf [0x04, 0, 0, 0, 63, 1, 7, 4]) 0x0B) = none ∧
    classOfCode (param (bodyOf [0x04, 0, 0, 0, 63, 0, 7, 3]) 0x0B) = some .c ∧
    param (bodyOf [0x04, 0, 0, 0, 63, 0, 7, 3]) 0x08 = (63 : LineNo).val ∧
    param (bodyOf [0x04, 0, 0, 0, 63, 0, 7, 3]) 0x0A = (7 : ProfileNo).val ∧ (reading.line 63).state = .disabled ∧
    ((reading.modLine 63 fun _ => drafted .converting).line 63).state ≠ .disabled ∧
    param (bodyOf [0x04, 0, 0, 0, 63, 1, 7, 3]) 0x09 = 1 ∧
    (onPort .bodyRead (ordering .taking .none (lineLost .running 0))).slotPath.lineHw.present = false := by decide +kernel

theorem witness_LoadsBegin :
    (bodyOf [0x05]).code = 0x05 ∧ 8 ≤ param (bodyOf [0x05, 0, 0, 0, 8]) 0x08 ∧
    param (bodyOf [0x05, 0, 0, 0, 7]) 0x08 = (7 : ProfileNo).val ∧ (bodyOf [0x06]).code = 0x06 ∧
    accessAllowed reading.port.windows (paramAddress (bodyOf [0x05]) 0x0C) 64 false = true ∧
    accessAllowed reading.port.windows (paramAddress (bodyOf [0x06, 0, 0, 0, 0, 0, 0, 0, 0, 0, 0x10]) 0x0C) 8 false = false ∧
    (bodyOf [0x07]).code = 0x07 ∧ (1 : BankNo) ≠ reading.plan.active ∧ paramHalf (bodyOf [0x07]) 0x08 = 0 ∧
    128 < paramHalf (bodyOf [0x07, 0, 0, 0, 129]) 0x08 ∧ paramHalf (bodyOf [0x07, 0, 0, 0, 128]) 0x08 = 128 ∧
    (reading.bank 1).refCount = 0 ∧ 0 < ((reading.modBank 1 fun b => { b with refCount := 1 }).bank 1).refCount ∧
    accessAllowed reading.port.windows (paramAddress (bodyOf [0x07, 0, 0, 0, 128]) 0x0C) 32 false = true := by
  decide +kernel

/-- The default profile as a record (R195). -/
def defaultRecord : ProfileBytes :=
  bytesOf 64 [3, 40, 0, 20, 130, 200, 0, 0xBC, 0x02, 0x84, 0x03, 100, 2, 12, 100, 0, 0x90, 0x01, 1, 2, 3, 4, 5, 6, 7, 8, 9,
    0, 0xFF, 0xA, 0xB, 0xC, 0xD, 0xE, 0xF, 0xFF, 0xFF, 0xFF, 0, 0, 1, 0xD0, 0x07, 10, 0x88, 0x13, 0x10, 0x27, 1, 0xB8,
    0x0B, 0x88, 0x13, 70, 70, 0x2C, 0x01, 250, 0, 60]

/-- R85, R195: the record of the defaults passes every check and is the default profile. -/
theorem test_default_record :
    firstFailure (profileChecks defaultRecord.toList) = none ∧ profileOf defaultRecord.toList = .default := by
  decide +kernel

theorem witness_TableReadsDone :
    (∀ w ∈ [OrderWork.loadProfile 7, .loadTones 0 [], .loadPlan 0 1 1],
      (ordering .executing w running).orders.current = some (orderOf w) ∧ (orderOf w).abort = false) ∧
    (onPort .profileRead running).onBus .profileRead = true ∧ (onPort .toneRead running).onBus .toneRead = true ∧
    (onPort .planRead running).onBus .planRead = true ∧
    firstFailure (profileChecks (bytesOf 64 [16]).toList) = some 0 ∧
    firstFailure (profileChecks defaultRecord.toList) = none ∧
    firstFailure (toneChecks (bytesOf 8 [99, 0]).toList) = some 0 ∧
    firstFailure (toneChecks (bytesOf 8 [100, 0, 0x3C, 0x0F, 0xFF, 0x7F]).toList) = none ∧
    firstFailure (planChecks (bytesOf 32 [1, 0x1E, 0, 0, 0, 0, 0, 0, 0, 1, 24, 1, 0, 0, 0, 0, 0, 0, 0, 0, 0, 0, 3]).toList [])
      = none ∧
    firstFailure (planChecks (bytesOf 32 [9]).toList []) = some 0 ∧
    accessAllowed running.port.windows (0xFFF8 + BitVec.ofNat 32 (8 * (0 + 1))) 8 false = false ∧
    accessAllowed running.port.windows (0xFFE0 + BitVec.ofNat 32 (32 * (0 + 1))) 32 false = false := by decide +kernel

theorem witness_SwitchPlan :
    (bodyOf [0x08]).code = 0x08 ∧ (1 : BankNo) ≠ reading.plan.active ∧ (reading.bank 1).state ≠ .staged ∧
    ((reading.modBank 1 fun b => { b with state := .staged }).bank 1).state = .staged ∧
    ((reading.modBank 0 fun b => { b with state := .active }).bank 0).state = .active := by decide +kernel

/-- A SEND_TONES of two symbols for line 7 at class B. -/
def sendBody : OrderBody := bodyOf [0x09, 0, 0, 0, 7, 2, 2, 0, 0, 0, 0, 0, 0x0F, 2]

theorem witness_SendTones :
    sendBody.code = 0x09 ∧ param sendBody 0x08 = (7 : LineNo).val ∧ classOfCode (param sendBody 0x09) = some .b ∧
    param sendBody 0x0A = 2 ∧ sendSymbols sendBody 2 = [(15 : Tone), 2].map some ∧
    64 ≤ param (bodyOf [0x09, 0, 0, 0, 64]) 0x08 ∧ classOfCode (param (bodyOf [0x09, 0, 0, 0, 63, 0]) 0x09) = none ∧
    param (bodyOf [0x09, 0, 0, 0, 63, 1, 0]) 0x0A = 0 ∧ 24 < param (bodyOf [0x09, 0, 0, 0, 63, 3, 25]) 0x0A ∧
    16 ≤ param (bodyOf [0x09, 0, 0, 0, 63, 3, 1, 0, 0, 0, 0, 0, 16]) (0x10 + 0) ∧ (reading.line 7).state = .disabled ∧
    ((reading.modLine 7 fun _ => drafted .collecting).line 7).state = .collecting ∧
    ((reading.modLine 7 fun _ => { drafted .converting with queue := List.replicate 31 (dialled 5) }).line 7).queue.length = 31 ∧
    ((reading.modLine 7 fun _ => { seized with queue := List.replicate 30 (dialled 5) }).line 7).queue.length + 2 = 32 := by
  decide +kernel

/-! #### Records and the memory port -/

/-- A search for a slot in a part state, `k` of 4 marks examined. -/
def searching (p : PartState) (k : Nat) (retry : Bool) : State :=
  onPort .recordMarkRead ((inPart p).modWriter fun w =>
    { w with fifo := [workedDraft, workedDraft], state := .searching, examined := k, slots := 4, retry })

theorem witness_RecordWrites :
    (∀ s ∈ [searching .running 2 false, searching .running 3 true, searching .stopping 3 false],
      s.onBus .recordMarkRead = true ∧ s.writer.fifo = workedDraft :: [workedDraft]) ∧
    (searching .running 2 false).writer.examined + 1 < 4 ∧ (searching .running 3 false).writer.slots ≤ 3 + 1 ∧
    (searching .running 3 false).writer.retry = false ∧ (searching .stopping 3 false).stopping = true ∧
    (onPort .recordBodyWrite running).onBus .recordBodyWrite = true ∧
    (onPort .recordMarkWrite (running.modWriter fun w => { w with fifo := [workedDraft] })).onBus .recordMarkWrite = true := by
  decide +kernel

/-- A header with one window of 16 pages, 4 order slots at 0 and 4 record slots at 0x1000. -/
def goodHeader : HeaderBytes :=
  bytesOf 160 [0x51, 0x0A, 0xC4, 0xD6, 1, 0, 0, 0, 0, 0, 0, 0, 4, 0, 4, 0, 0, 0x10, 0, 0, 10, 2, 0, 0, 0, 0, 0, 0, 0, 0, 0, 0,
    0, 0, 1, 0, 16, 0, 3, 0]

/-- R167: the header passes, and one whose signature differs fails by name. -/
theorem test_header_checks :
    headerFailure goodHeader.toList = none ∧ headerFailure (bytesOf 160 [0x50]).toList = some .badSignature := by
  decide +kernel

/-- A TOUCHED write through window 0 with a data write behind it. -/
def touching : State :=
  running.modPort fun p =>
    { p with inFlight := some (touchedAccess 0 0 (p.windows.get 0)), behind := some (writeAccess running .doneWrite 0 [3]) }

theorem witness_TouchedAndHeader :
    touching.port.inFlight = some (touchedAccess 0 0 (running.port.windows.get 0)) ∧
    (touchedAccess 0 0 (running.port.windows.get 0)).purpose = .touchedWrite ∧
    (touchedAccess 0 0 (running.port.windows.get 0)).abandoned = none ∧
    (touchedAccess 0 0 (running.port.windows.get 0)).window = some 0 ∧ abortWaits touching = false ∧
    touching.port.behind = some (writeAccess running .doneWrite 0 [3]) ∧
    (onPort .headerRead (inPart .starting)).onBus .headerRead = true ∧ headerFailure goodHeader.toList = none ∧
    (onPort .headerRead (lineLost .starting 0)).slotPath.lineHw.present = false ∧
    (({ reading with settings := { reading.settings with lines := reading.settings.lines.set 7 { enabled := true, profile := 0, cls := .b } } } : State).setting 7).enabled
      = true ∧
    headerFailure (bytesOf 160 [0x50]).toList = some .badSignature := by decide +kernel

theorem witness_HostBusError :
    running.port.inFlight = none ∧
    (∀ p ∈ [PartState.starting, .running, .stopping],
      (onPort .headerRead (inPart p)).port.inFlight
        = some { purpose := .headerRead, addr := 0, length := 4, data := [], window := none, abandoned := none } ∧
      (inPart p).control.part = p) ∧
    running.control.attentionMask.getLsbD 1 = true ∧ running.control.attentionMask.getLsbD 7 = true ∧
    running.writer.fifo.length ≤ 255 ∧ (running.bank 0).state ≠ .loading ∧
    (∀ why ∈ [Abandon.byReset, .byRunCleared],
      ((onPort .headerRead State.reset).modPort fun p =>
        { p with inFlight := p.inFlight.map fun a => { a with abandoned := some why } }).port.inFlight
        = some { purpose := .headerRead, addr := 0, length := 4, data := [], window := none, abandoned := some why }) := by
  decide +kernel

end Sys2Proof.Tests
end

section
/-! What the part's events and the end of every step leave unchanged of the slot path, and the slot path's invariant
over every step (O6). -/

namespace Sys2Proof.Machine

/-! ### What only the highway commands, a start and a reset change -/

/-- The watches, the effective flags and the frame count of the slot path are as they were. -/
structure HighwaysKept (s t : State) : Prop where
  lineHw : t.slotPath.lineHw = s.slotPath.lineHw
  retHw : t.slotPath.retHw = s.slotPath.retHw
  proceed : t.slotPath.proceed = s.slotPath.proceed
  incoming : t.slotPath.incoming = s.slotPath.incoming
  frameCount : t.slotPath.frameCount = s.slotPath.frameCount

/-- Of the slot path only the frame in hand and the trunk frames change. -/
structure FramesOnly (s t : State) : Prop extends HighwaysKept s t where
  runClock : t.slotPath.runClock = s.slotPath.runClock
  msDue : t.slotPath.msDue = s.slotPath.msDue

namespace HighwaysKept

theorem of_slotPath {s t : State} (h : t.slotPath = s.slotPath) : HighwaysKept s t := by
  constructor <;> rw [h]

theorem refl (s : State) : HighwaysKept s s := of_slotPath rfl

theorem trans {s t u : State} (h : HighwaysKept s t) (k : HighwaysKept t u) : HighwaysKept s u where
  lineHw := k.lineHw.trans h.lineHw
  retHw := k.retHw.trans h.retHw
  proceed := k.proceed.trans h.proceed
  incoming := k.incoming.trans h.incoming
  frameCount := k.frameCount.trans h.frameCount

theorem legal {s t : State} (h : HighwaysKept s t) (hs : s.slotPath.Legal) : t.slotPath.Legal := by
  unfold SlotPath.Legal
  rw [h.lineHw, h.retHw, h.proceed, h.incoming, h.frameCount]
  exact hs

end HighwaysKept

/-! ### The events of the part -/

/-- R9: the millisecond event is the one event of the part that reaches the slot path. -/
theorem takeMillisecond_slotPath (s : State) :
    (takeMillisecond s).slotPath = { s.slotPath with runClock := s.slotPath.runClock + 1, msDue := false } := by
  unfold takeMillisecond
  dsimp only
  split <;> simp

theorem takeDue_slotPath {e : Due} (he : e ≠ .millisecond) (s : State) : (takeDue e s).slotPath = s.slotPath := by
  cases e <;> simp_all [takeDue]

theorem takeDue_highwaysKept (e : Due) (s : State) : HighwaysKept s (takeDue e s) := by
  by_cases he : e = .millisecond
  · subst he
    constructor <;> simp [takeDue, takeMillisecond_slotPath]
  · exact .of_slotPath (takeDue_slotPath he s)

/-! ### The end of every step -/

theorem SlotPath.leaveTime_kept (p : SlotPath) :
    p.leaveTime = { p with runClock := p.leaveTime.runClock, msDue := false } := by
  unfold SlotPath.leaveTime
  split
  · rfl
  · next h => rw [← Bool.eq_false_iff.2 h]

/-- R186, R9: a stop that goes on keeps the slot path, or leaves STOPPING with the time a due millisecond event makes. -/
theorem stopAdvance_slotPath (s : State) :
    (stopAdvance s).slotPath = s.slotPath ∨ (stopAdvance s).slotPath = s.slotPath.leaveTime := by
  have leave : ∀ t, (leaveStopping t).slotPath = t.slotPath.leaveTime := fun t => by
    unfold leaveStopping
    dsimp only
    split <;> simp
  unfold stopAdvance
  split
  · dsimp only
    split <;> split <;> simp [leave]
  · exact .inl rfl

theorem advance_slotPath (s : State) :
    (advance s).slotPath = s.slotPath ∨ (advance s).slotPath = s.slotPath.leaveTime := by
  simpa [advance] using stopAdvance_slotPath s

theorem advance_highwaysKept (s : State) : HighwaysKept s (advance s) := by
  rcases advance_slotPath s with h | h
  · exact .of_slotPath h
  · constructor <;> rw [h, SlotPath.leaveTime_kept]

theorem conclude_framesOnly (s : State) : FramesOnly s (conclude s) := by
  unfold conclude
  split <;> refine ⟨⟨?_, ?_, ?_, ?_, ?_⟩, ?_, ?_⟩ <;> simp

theorem concludeIfQuiet_framesOnly (s : State) : FramesOnly s (concludeIfQuiet s) := by
  have none : FramesOnly s s := ⟨.refl s, rfl, rfl⟩
  unfold concludeIfQuiet
  split
  · exact none
  · split
    · exact conclude_framesOnly s
    · exact none

theorem epilogue_highwaysKept (s : State) : HighwaysKept s (epilogue s) :=
  (advance_highwaysKept s).trans (concludeIfQuiet_framesOnly _).toHighwaysKept

/-! ### A frame moment -/

theorem takeOne_highwaysKept (s : State) : HighwaysKept s (takeOne s) := by
  unfold takeOne
  split
  · refine HighwaysKept.trans ?_ ((takeDue_highwaysKept _ _).trans (advance_highwaysKept _))
    split
    · exact .refl s
    · exact .of_slotPath (by simp)
  · exact .refl s

theorem settle_highwaysKept (k : Nat) (s : State) : HighwaysKept s (settle k s) := by
  induction k generalizing s with
  | zero => exact .refl s
  | succ k ih =>
    rw [settle]
    split
    · exact .refl s
    · exact (takeOne_highwaysKept s).trans (ih _)

theorem settleFrame_highwaysKept (s : State) : HighwaysKept s (settleFrame s) :=
  (settle_highwaysKept 1024 s).trans (concludeIfQuiet_framesOnly _).toHighwaysKept

theorem enterMoment_highwaysKept (s : State) : HighwaysKept s (enterMoment s) := by
  have first : HighwaysKept s (beginMoment s) := by constructor <;> simp [beginMoment]
  have last : ∀ t, HighwaysKept t (sendTrunk t) := fun t => by constructor <;> simp [sendTrunk]
  exact (first.trans (settleFrame_highwaysKept _)).trans (last _)

/-! ### Updates of the slot path that keep it legal -/

namespace SlotPath.Legal

variable {p : SlotPath}

theorem line_le (h : p.Legal) : p.lineHw.restoreCount ≤ 32 := h.2.1

theorem ret_le (h : p.Legal) : p.retHw.restoreCount ≤ 32 := h.2.2.1

theorem flags_clear (h : p.Legal) (lost : p.retHw.present = false) (n : LineNo) :
    p.proceed.get n = false ∧ p.incoming.get n = false := h.2.2.2 lost n

theorem countFrame (h : p.Legal) : p.countFrame.Legal := by
  obtain ⟨count, line, ret, flags⟩ := h
  unfold SlotPath.countFrame
  split
  · exact ⟨Nat.zero_lt_succ 7, line, ret, flags⟩
  · exact ⟨by dsimp only; omega, line, ret, flags⟩

/-- R10: any change of the line highway's watch that keeps its restore count in range. -/
theorem setLineHw (h : p.Legal) {w : Watch} (hw : w.restoreCount ≤ 32) : { p with lineHw := w }.Legal := by
  obtain ⟨count, -, ret, flags⟩ := h
  exact ⟨count, hw, ret, flags⟩

/-- R3, R14: new flags with a new watch of the return highway: lost, only with the flags clear. -/
theorem setRetHw (h : p.Legal) {w : Watch} {pr inc : Table Config.lines Bool} (hw : w.restoreCount ≤ 32)
    (flags : w.present = false → ∀ n, pr.get n = false ∧ inc.get n = false) :
    { p with retHw := w, proceed := pr, incoming := inc }.Legal := by
  obtain ⟨count, line, -, -⟩ := h
  exact ⟨count, line, hw, flags⟩

theorem reset : SlotPath.reset.Legal := by
  refine ⟨by decide, by decide, by decide, fun _ n => ?_⟩
  simp [SlotPath.reset]

end SlotPath.Legal

theorem Watch.countRestore_le {w : Watch} (h : w.restoring = false) : w.countRestore.restoreCount ≤ 32 := by
  simp only [Watch.restoring, Config.restoreFrames, decide_eq_false_iff_not] at h
  simp only [Watch.countRestore]
  omega

/-! ### Effects that keep the slot path legal -/

/-- An effect that takes a legal slot path to a legal one. -/
def KeepsSlotPathLegal (k : State → State) : Prop := ∀ s, s.slotPath.Legal → (k s).slotPath.Legal

namespace KeepsSlotPathLegal

variable {j k : State → State}

theorem of_slotPath (h : ∀ s, (k s).slotPath = s.slotPath) : KeepsSlotPathLegal k := fun s hs => by rwa [h s]

theorem of_kept (h : ∀ s, HighwaysKept s (k s)) : KeepsSlotPathLegal k := fun s hs => (h s).legal hs

theorem comp (hk : KeepsSlotPathLegal k) (hj : KeepsSlotPathLegal j) : KeepsSlotPathLegal fun s => k (j s) :=
  fun s hs => hk _ (hj s hs)

theorem epilogue (hk : KeepsSlotPathLegal k) : KeepsSlotPathLegal fun s => epilogue (k s) :=
  (of_kept epilogue_highwaysKept).comp hk

theorem whenDue (e : Due) (hk : KeepsSlotPathLegal k) : KeepsSlotPathLegal (whenDue e k) := fun s hs => by
  unfold Machine.whenDue
  split
  · exact hk.epilogue s hs
  · exact hs

theorem whenDone (p : Purpose) (hk : KeepsSlotPathLegal k) : KeepsSlotPathLegal (whenDone p k) := fun s hs => by
  have freed : (freeBus s).slotPath.Legal := by simpa using hs
  unfold Machine.whenDone
  split
  · exact hs
  · split
    · split
      · exact (epilogue_highwaysKept _).legal freed
      · exact hk.epilogue _ freed
    · exact hs

theorem unlessAborted (hk : KeepsSlotPathLegal k) : KeepsSlotPathLegal (unlessAborted k) := fun s hs => by
  unfold Machine.unlessAborted
  split
  · simpa using hs
  · exact hk s hs

theorem whenBody (c : Instr) (b : OrderBody) (hk : KeepsSlotPathLegal k) : KeepsSlotPathLegal (whenBody c b k) :=
  fun s hs => by
    have held : KeepsSlotPathLegal (holdBody b) := of_slotPath (by simp)
    unfold Machine.whenBody
    split
    · exact ((hk.comp held).unlessAborted.whenDone .bodyRead) s hs
    · exact hs

end KeepsSlotPathLegal

/-! ### The highways -/

theorem raise_slotPath (k : Cause) (s : State) : (raise k s).slotPath = s.slotPath := by simp

theorem frameTime_legal : KeepsSlotPathLegal frameTime := fun s hs => by
  unfold frameTime
  split
  · exact hs.countFrame
  · exact hs

theorem useFrame_legal (f : LineFrame) : KeepsSlotPathLegal (useFrame f) := fun s hs => by
  have counted : ((frameTime s).modSlotPath fun p => { p with frameInHand := some (.line f) }).slotPath.Legal :=
    frameTime_legal s hs
  unfold useFrame
  dsimp only
  split
  · simpa only [classifyFrame_frame] using counted
  · exact counted

theorem lineFrameArrives_legal (f : LineFrame) : KeepsSlotPathLegal (lineFrameArrives f) := fun s hs => by
  unfold lineFrameArrives
  split
  · exact useFrame_legal f _ (hs.setLineHw hs.line_le)
  · split
    · refine useFrame_legal f _ ?_
      rw [raise_slotPath]
      exact hs.setLineHw (Nat.le_refl 32)
    · next hr => exact hs.setLineHw (Watch.countRestore_le (by simpa using hr))

theorem referenceTime_legal : KeepsSlotPathLegal referenceTime := fun s hs => by
  have counted := frameTime_legal s hs
  unfold referenceTime
  dsimp only
  split
  · exact counted
  · exact counted

theorem owedFrameTimes_legal : KeepsSlotPathLegal owedFrameTimes :=
  referenceTime_legal.comp (frameTime_legal.comp (frameTime_legal.comp frameTime_legal))

/-- R11: the loss of the line highway up to the frame times owed with it: the watch, the cause and, in RUNNING, the
lines. -/
def declareLineLoss (s : State) : State :=
  let t := raise .lineHighway (s.modSlotPath fun p => { p with lineHw := p.lineHw.lose })
  if s.running then loseLines t else t

/-- R8, R11: the loss is declared, and in RUNNING and STOPPING the frame times owed are counted. -/
theorem loseLineHighway_eq (s : State) :
    loseLineHighway s
      = if s.running || s.stopping then owedFrameTimes (declareLineLoss s) else declareLineLoss s := rfl

theorem declareLineLoss_slotPath (s : State) :
    (declareLineLoss s).slotPath = { s.slotPath with lineHw := s.slotPath.lineHw.lose } := by
  unfold declareLineLoss
  dsimp only
  split <;> simp

theorem lineWatchExpires_legal : KeepsSlotPathLegal lineWatchExpires := fun s hs => by
  unfold lineWatchExpires
  split
  · have lost : (declareLineLoss s).slotPath.Legal := by
      rw [declareLineLoss_slotPath]
      exact hs.setLineHw (Nat.zero_le 32)
    rw [loseLineHighway_eq]
    split
    · exact owedFrameTimes_legal _ lost
    · exact lost
  · exact hs.setLineHw (Nat.zero_le 32)

/-- R3: an update of the flags sets them and changes nothing else of the slot path. -/
theorem updateFlags_slotPath (pr inc : Table Config.lines Bool) (s : State) :
    (updateFlags pr inc s).slotPath = { s.slotPath with proceed := pr, incoming := inc } :=
  updateFlags_keeps State.slotPath (by simp) pr inc s

theorem returnFrameArrives_legal (f : ReturnFrame) : KeepsSlotPathLegal (returnFrameArrives f) := fun s hs => by
  unfold returnFrameArrives frameFlags
  split
  · next present =>
    rw [updateFlags_slotPath]
    exact hs.setRetHw hs.ret_le fun lost => absurd lost (by simp [present])
  · split
    · rw [updateFlags_slotPath, raise_slotPath]
      exact hs.setRetHw (Nat.le_refl 32) (by simp [Watch.restore])
    · next lost hr =>
      exact hs.setRetHw (Watch.countRestore_le (by simpa using hr)) fun _ => hs.flags_clear (by simpa using lost)

theorem returnWatchExpires_legal : KeepsSlotPathLegal returnWatchExpires := fun s hs => by
  unfold returnWatchExpires
  split
  · unfold loseReturnHighway
    rw [updateFlags_slotPath, raise_slotPath]
    exact hs.setRetHw (Nat.zero_le 32) (by simp)
  · next lost => exact hs.setRetHw (Nat.zero_le 32) fun _ => hs.flags_clear (by simpa using lost)

/-! ### Starts and resets -/

theorem holdReset_legal : KeepsSlotPathLegal holdReset := fun _ _ => SlotPath.Legal.reset

theorem headerRead_legal (h : HeaderBytes) : KeepsSlotPathLegal (headerRead h) := fun s hs => by
  unfold headerRead
  split
  · simpa using hs
  · obtain ⟨-, line, ret, flags⟩ := hs
    have entered : (enterRunning (installHeader h.toList s)).slotPath
        = { s.slotPath with frameCount := 0, runClock := 0, msDue := false } := by
      simp [enterRunning]
    rw [entered]
    exact ⟨Nat.zero_lt_succ 7, line, ret, flags⟩

theorem writeRegister_legal (r : Register) (v : Word) : KeepsSlotPathLegal (writeRegister r v) := fun s hs => by
  cases r with
  | control =>
    simp only [writeRegister, writeControl]
    split
    · split
      · exact hs
      · simpa using hs
    · split
      · exact holdReset_legal s hs
      · (repeat' split) <;> simpa using hs
  | state => exact hs
  | stationBase => simpa [writeRegister] using hs
  | attention => exact hs
  | attentionMask => simpa [writeRegister] using hs

/-! ### Every command -/

/-- Every command has one effect, which keeps the slot path legal. -/
theorem exec_keepsSlotPathLegal (c : Instr) :
    ∃ k : State → State, (∀ s, exec c s = .next (k s)) ∧ KeepsSlotPathLegal k := by
  cases c with
  | powerOn => exact ⟨_, fun _ => rfl, fun _ _ => .reset⟩
  | holdReset => exact ⟨_, fun _ => rfl, holdReset_legal.epilogue⟩
  | holdResetRelease run attn => exact ⟨_, fun _ => rfl, .epilogue (.of_slotPath (by simp))⟩
  | runWritten1 => exact ⟨_, fun _ => rfl, .epilogue (.of_slotPath (by simp))⟩
  | runWritten0 => exact ⟨_, fun _ => rfl, .epilogue (.of_slotPath (by simp))⟩
  | abortOrder => exact ⟨_, fun _ => rfl, .epilogue (.of_slotPath (by simp))⟩
  | attnEnable v => exact ⟨_, fun _ => rfl, .of_slotPath (by simp)⟩
  | stationBaseWrite v => exact ⟨_, fun _ => rfl, .of_slotPath (by simp)⟩
  | attentionRead => exact ⟨_, fun _ => rfl, .of_slotPath (by simp)⟩
  | registerWrite r v => exact ⟨_, fun _ => rfl, (writeRegister_legal r v).epilogue⟩
  | lineFrame f =>
    exact ⟨_, fun _ => rfl, ((lineFrameArrives_legal f).comp (.of_kept enterMoment_highwaysKept)).epilogue⟩
  | referenceFrameTime =>
    refine ⟨_, fun _ => rfl, fun s hs => ?_⟩
    split
    · exact (referenceTime_legal.comp (.of_kept enterMoment_highwaysKept)).epilogue s hs
    · exact hs
  | returnFrame f => exact ⟨_, fun _ => rfl, (returnFrameArrives_legal f).epilogue⟩
  | frameWatchExpiry h =>
    cases h with
    | line => exact ⟨_, fun _ => rfl, (lineWatchExpires_legal.comp (.of_kept enterMoment_highwaysKept)).epilogue⟩
    | ret => exact ⟨_, fun _ => rfl, returnWatchExpires_legal.epilogue⟩
  | millisecondEvent => exact ⟨_, fun _ => rfl, .whenDue _ (.of_kept (takeDue_highwaysKept .millisecond))⟩
  | loopChangeAccepted n => exact ⟨_, fun _ => rfl, .whenDue _ (.of_slotPath (by simp))⟩
  | longOpenEntry n => exact ⟨_, fun _ => rfl, .whenDue _ (.of_slotPath (by simp))⟩
  | seizure n => exact ⟨_, fun _ => rfl, .whenDue _ (.of_slotPath (by simp))⟩
  | clear n => exact ⟨_, fun _ => rfl, .whenDue _ (.of_slotPath (by simp))⟩
  | digitComplete n => exact ⟨_, fun _ => rfl, .whenDue _ (.of_slotPath (by simp))⟩
  | firstDigitTimerExpiry n => exact ⟨_, fun _ => rfl, .whenDue _ (.of_slotPath (by simp))⟩
  | completeTimerExpiry n => exact ⟨_, fun _ => rfl, .whenDue _ (.of_slotPath (by simp))⟩
  | quietTimerExpiry n => exact ⟨_, fun _ => rfl, .whenDue _ (.of_slotPath (by simp))⟩
  | proceedTimerExpiry n => exact ⟨_, fun _ => rfl, .whenDue _ (.of_slotPath (by simp))⟩
  | generatorWaitTimerExpiry n => exact ⟨_, fun _ => rfl, .whenDue _ (.of_slotPath (by simp))⟩
  | escapeTimerExpiry n => exact ⟨_, fun _ => rfl, .whenDue _ (.of_slotPath (by simp))⟩
  | muteTailExpiry n => exact ⟨_, fun _ => rfl, .whenDue _ (.of_slotPath (by simp))⟩
  | flashOutExpiry n => exact ⟨_, fun _ => rfl, .whenDue _ (.of_slotPath (by simp))⟩
  | onExpiry g => exact ⟨_, fun _ => rfl, .whenDue _ (.of_slotPath (by simp))⟩
  | gapExpiry g => exact ⟨_, fun _ => rfl, .whenDue _ (.of_slotPath (by simp))⟩
  | holdExpiry g => exact ⟨_, fun _ => rfl, .whenDue _ (.of_slotPath (by simp))⟩
  | sweepEvent => exact ⟨_, fun _ => rfl, .whenDue _ (.of_slotPath (by simp))⟩
  | orderMarkReadDone m => exact ⟨_, fun _ => rfl, .whenDone _ (.of_slotPath (by simp))⟩
  | takenWriteDone => exact ⟨_, fun _ => rfl, .whenDone _ (.unlessAborted (.of_slotPath (by simp)))⟩
  | unknownOrder b => exact ⟨_, fun _ => rfl, .whenBody _ b (.of_slotPath (by simp))⟩
  | nop b => exact ⟨_, fun _ => rfl, .whenBody _ b (.of_slotPath (by simp))⟩
  | identify b => exact ⟨_, fun _ => rfl, .whenBody _ b (.of_slotPath (by simp))⟩
  | identifyWriteDone => exact ⟨_, fun _ => rfl, .whenDone _ (.of_slotPath (by simp))⟩
  | readLine b => exact ⟨_, fun _ => rfl, .whenBody _ b (.of_slotPath (by simp))⟩
  | readLineWriteDone => exact ⟨_, fun _ => rfl, .whenDone _ (.of_slotPath (by simp))⟩
  | setLine b => exact ⟨_, fun _ => rfl, .whenBody _ b (.of_slotPath (by simp))⟩
  | loadProfile b => exact ⟨_, fun _ => rfl, .whenBody _ b (.of_slotPath (by simp))⟩
  | profileReadDone r => exact ⟨_, fun _ => rfl, .whenDone _ (.unlessAborted (.of_slotPath (by simp)))⟩
  | loadTones b => exact ⟨_, fun _ => rfl, .whenBody _ b (.of_slotPath (by simp))⟩
  | toneEntryReadDone r => exact ⟨_, fun _ => rfl, .whenDone _ (.unlessAborted (.of_slotPath (by simp)))⟩
  | loadPlan b => exact ⟨_, fun _ => rfl, .whenBody _ b (.of_slotPath (by simp))⟩
  | planEntryReadDone r => exact ⟨_, fun _ => rfl, .whenDone _ (.unlessAborted (.of_slotPath (by simp)))⟩
  | switchPlan b => exact ⟨_, fun _ => rfl, .whenBody _ b (.of_slotPath (by simp))⟩
  | sendTones b => exact ⟨_, fun _ => rfl, .whenBody _ b (.of_slotPath (by simp))⟩
  | orderResultWriteDone => exact ⟨_, fun _ => rfl, .whenDone _ (.of_slotPath (by simp))⟩
  | orderDoneWriteDone => exact ⟨_, fun _ => rfl, .whenDone _ (.of_slotPath (by simp))⟩
  | touchedWriteDone => exact ⟨fun s => whenDone .touchedWrite (touchedWritten (windowInFlight s)) s, fun _ => rfl,
      fun s => KeepsSlotPathLegal.whenDone _ (.of_slotPath (by simp)) s⟩
  | recordMarkReadDone m => exact ⟨_, fun _ => rfl, .whenDone _ (.of_slotPath (by simp))⟩
  | recordBodyWriteDone => exact ⟨_, fun _ => rfl, .whenDone _ (.of_slotPath (by simp))⟩
  | recordMarkWriteDone => exact ⟨_, fun _ => rfl, .whenDone _ (.of_slotPath (by simp))⟩
  | headerReadDone h => exact ⟨_, fun _ => rfl, .whenDone _ (headerRead_legal h)⟩
  | hostBusError => exact ⟨_, fun _ => rfl, .epilogue (.of_slotPath (by simp))⟩

/-- Settles O6: each command's effect keeps the slot path legal, and so does the event an idle part takes. -/
theorem stepKeepsSlotPathLegal : Obligations.StepKeepsSlotPathLegal := by
  intro s t hs ht
  unfold step at ht
  split at ht
  · cases ht
    exact ((takeOne_highwaysKept s).trans (concludeIfQuiet_framesOnly _).toHighwaysKept).legal hs
  · next c rest _ =>
    obtain ⟨k, hk, keeps⟩ := exec_keepsSlotPathLegal c
    rw [hk] at ht
    cases ht
    exact keeps _ hs

end Sys2Proof.Machine
end

section
/-! What follows a command's own effect in RUNNING (O3), the trunk frame of a line frame (O29, O30), and the frame moment
at which nothing is due. -/

namespace Sys2Proof.Machine

/-! ### The CLIP indicators and CLIPPED flags -/

/-- R146: CLIPPED set in a draft. -/
def Draft.setClipped (d : Draft) : Draft := { d with clipped := true }

theorem LineCtx.mapDraft_mapDraft (f g : Draft → Draft) (c : LineCtx) :
    (c.mapDraft f).mapDraft g = c.mapDraft (g ∘ f) := by
  unfold LineCtx.mapDraft
  cases h : c.draft <;> simp [h]

theorem LineCtx.mapDraft_kept (f : Draft → Draft) (c : LineCtx) :
    (c.mapDraft f).state = c.state ∧ (c.mapDraft f).queue = c.queue ∧ (c.mapDraft f).timers = c.timers := by
  unfold LineCtx.mapDraft
  split <;> simp

theorem LineCtx.mapDraft_draft_opened {f : Draft → Draft} {c : LineCtx} {d : Draft} (h : c.draft = .opened d) :
    (c.mapDraft f).draft = .opened (f d) := by
  simp [LineCtx.mapDraft, h]

theorem LineCtx.draft_of_mapDraft {f : Draft → Draft} {c : LineCtx} {e : Draft} (h : (c.mapDraft f).draft = .opened e) :
    ∃ d, c.draft = .opened d ∧ f d = e := by
  unfold LineCtx.mapDraft at h
  split at h
  · next d hd => exact ⟨d, hd, by injection h⟩
  · next hd => rw [hd] at h; cases h
  · next hd => rw [hd] at h; cases h

/-- R145, R146: of the pool and the lines only CLIP indicators and CLIPPED flags change. -/
structure OnlyClips (s t : State) : Prop where
  waitList : t.pool.waitList = s.pool.waitList
  joins : t.pool.joins = s.pool.joins
  reserve : t.pool.reserve = s.pool.reserve
  gens : ∀ g, (t.gen g).state = (s.gen g).state ∧ (t.gen g).attached = (s.gen g).attached ∧
    (t.gen g).served = (s.gen g).served ∧ (t.gen g).timer = (s.gen g).timer
  lines : ∀ n, (t.line n).mapDraft Draft.setClipped = (s.line n).mapDraft Draft.setClipped

namespace OnlyClips

theorem of_blocks {s t : State} (hp : t.pool = s.pool) (hl : t.lines = s.lines) : OnlyClips s t := by
  constructor <;> simp [hp, hl]

theorem refl (s : State) : OnlyClips s s := of_blocks rfl rfl

theorem trans {s t u : State} (h : OnlyClips s t) (k : OnlyClips t u) : OnlyClips s u where
  waitList := k.waitList.trans h.waitList
  joins := k.joins.trans h.joins
  reserve := k.reserve.trans h.reserve
  gens := fun g => by
    obtain ⟨h1, h2, h3, h4⟩ := h.gens g
    obtain ⟨k1, k2, k3, k4⟩ := k.gens g
    exact ⟨k1.trans h1, k2.trans h2, k3.trans h3, k4.trans h4⟩
  lines := fun n => (k.lines n).trans (h.lines n)

/-- The line's state, queue and timers are none of what a clip changes. -/
theorem line {s t : State} (h : OnlyClips s t) (n : LineNo) :
    (t.line n).state = (s.line n).state ∧ (t.line n).queue = (s.line n).queue ∧
      (t.line n).timers = (s.line n).timers := by
  obtain ⟨t1, t2, t3⟩ := LineCtx.mapDraft_kept Draft.setClipped (t.line n)
  obtain ⟨s1, s2, s3⟩ := LineCtx.mapDraft_kept Draft.setClipped (s.line n)
  rw [← t1, ← t2, ← t3, ← s1, ← s2, ← s3, h.lines n]
  exact ⟨rfl, rfl, rfl⟩

/-- A draft that is open stays open, the same but for CLIPPED. -/
theorem draft {s t : State} (h : OnlyClips s t) {n : LineNo} {d : Draft} (hd : (s.line n).draft = .opened d) :
    ∃ e, (t.line n).draft = .opened e ∧ e.setClipped = d.setClipped := by
  apply LineCtx.draft_of_mapDraft
  rw [h.lines n, LineCtx.mapDraft_draft_opened hd]

theorem setClip (g : GenNo) (s : State) : OnlyClips s (setClip g s) := by
  have indicator : OnlyClips s (s.modGen g fun x => { x with clip := true }) := by
    refine ⟨rfl, rfl, rfl, fun h => ?_, fun _ => rfl⟩
    simp only [State.gen_def, State.modGen_pool, Table.get_set]
    split
    · next e => subst e; exact ⟨rfl, rfl, rfl, rfl⟩
    · exact ⟨rfl, rfl, rfl, rfl⟩
  have flag : ∀ n t, OnlyClips t (inDraft n Draft.setClipped t) := fun n t => by
    refine ⟨rfl, rfl, rfl, fun _ => ⟨rfl, rfl, rfl, rfl⟩, fun m => ?_⟩
    simp only [inDraft, State.line_def, State.modLine_lines, Table.get_set]
    split
    · next e => subst e; exact LineCtx.mapDraft_mapDraft _ _ _
    · rfl
  unfold Machine.setClip
  dsimp only
  split
  · exact indicator.trans (flag _ _)
  · exact indicator

theorem synthesize (g : GenNo) (s : State) : OnlyClips s (synthesize g s) := by
  unfold Machine.synthesize
  dsimp only
  split
  · split
    · exact (of_blocks rfl rfl : OnlyClips s (s.modVoice g Voice.advance)).trans (setClip g _)
    · exact of_blocks rfl rfl
  · exact refl s

theorem synthesizeAll (s : State) : OnlyClips s (synthesizeAll s) := by
  unfold Machine.synthesizeAll
  split
  · generalize List.finRange Config.generators = gs
    induction gs generalizing s with
    | nil => exact refl s
    | cons g gs ih => exact (synthesize g s).trans (ih _ (by simpa using ‹s.running = true›))
  · exact refl s

end OnlyClips

/-! ### Concluding a frame -/

theorem conclude_none {s : State} (h : s.slotPath.frameInHand = none) : conclude s = s := by
  unfold conclude
  rw [h]

theorem conclude_line {s : State} {f : LineFrame} (h : s.slotPath.frameInHand = some (.line f)) :
    conclude s = (synthesizeAll s).modSlotPath fun p =>
      { p with frameInHand := none, trunkLeaving := some (trunkFrame s f) } := by
  unfold conclude
  rw [h]

theorem conclude_reference {s : State} (h : s.slotPath.frameInHand = some .reference) :
    conclude s = (synthesizeAll s).modSlotPath fun p =>
      { p with frameInHand := none, trunkOut := if s.running then p.trunkOut ++ [silentFrame] else p.trunkOut } := by
  unfold conclude
  rw [h]

theorem conclude_control (s : State) : (conclude s).control = s.control := by simp

theorem conclude_port (s : State) : (conclude s).port = s.port := by simp

theorem conclude_onlyClips (s : State) : OnlyClips s (conclude s) := by
  have frames : ∀ f, OnlyClips s ((synthesizeAll s).modSlotPath f) := fun f =>
    (OnlyClips.synthesizeAll s).trans (.of_blocks rfl rfl)
  unfold conclude
  split
  · exact .refl s
  · exact frames _
  · exact frames _

theorem concludeIfQuiet_of_none {s : State} (h : s.slotPath.frameInHand = none) : concludeIfQuiet s = s := by
  unfold concludeIfQuiet
  rw [h]

theorem concludeIfQuiet_of_quiet {s : State} (h : dueEvents s = []) : concludeIfQuiet s = conclude s := by
  unfold concludeIfQuiet
  split
  · next e => exact (conclude_none e).symm
  · rw [h]; rfl

theorem concludeIfQuiet_or (s : State) : concludeIfQuiet s = s ∨ concludeIfQuiet s = conclude s := by
  unfold concludeIfQuiet
  split
  · exact .inl rfl
  · split
    · exact .inr rfl
    · exact .inl rfl

theorem concludeIfQuiet_onlyClips (s : State) : OnlyClips s (concludeIfQuiet s) := by
  rcases concludeIfQuiet_or s with h | h
  · rw [h]; exact .refl s
  · rw [h]; exact conclude_onlyClips s

/-! ### What follows every step -/

theorem stopAdvance_of_not_stopping {s : State} (h : s.stopping = false) : stopAdvance s = s := by
  unfold stopAdvance
  rw [h]
  rfl

theorem portServe_slotPath (s : State) : (portServe s).slotPath = s.slotPath := by simp

theorem epilogue_of_not_stopping {s : State} (h : s.stopping = false) :
    epilogue s = concludeIfQuiet (portServe s) := by
  rw [epilogue, advance, stopAdvance_of_not_stopping h]

theorem stopping_of_running {s : State} (h : s.running = true) : s.stopping = false := by
  simp_all

theorem epilogue_of_running {s : State} (h : s.running = true) : epilogue s = concludeIfQuiet (portServe s) :=
  epilogue_of_not_stopping (stopping_of_running h)

theorem epilogue_onlyClips {s : State} (h : s.running = true) : OnlyClips s (epilogue s) := by
  rw [epilogue_of_running h]
  exact (OnlyClips.of_blocks (by simp) (by simp) : OnlyClips s (portServe s)).trans (concludeIfQuiet_onlyClips _)

theorem epilogue_framesOnly {s : State} (h : s.running = true) : FramesOnly s (epilogue s) := by
  have k := concludeIfQuiet_framesOnly (portServe s)
  rw [epilogue_of_running h]
  exact ⟨(HighwaysKept.of_slotPath (by simp)).trans k.toHighwaysKept, by simpa using k.runClock, by simpa using k.msDue⟩

/-- R171: in RUNNING what follows a step leaves every block but the pool, the lines, the voices and the slot path as the
free port's service does. -/
theorem epilogue_running_frame {s : State} (h : s.running = true) :
    (epilogue s).pending = s.pending ∧ (epilogue s).draws = s.draws ∧ (epilogue s).control = s.control ∧
    (epilogue s).classifiers = s.classifiers ∧ (epilogue s).estimators = s.estimators ∧
    (epilogue s).settings = s.settings ∧ (epilogue s).plan = s.plan ∧ (epilogue s).writer = s.writer ∧
    (epilogue s).orders = s.orders ∧ (epilogue s).port = servePort s.control.stationBase s.port := by
  rw [epilogue_of_running h]
  simp [portServe]

theorem epilogue_running_classifier {s : State} (h : s.running = true) (n : LineNo) :
    (epilogue s).classifier n = s.classifier n := by
  obtain ⟨-, -, -, classifiers, -⟩ := epilogue_running_frame h
  simp only [State.classifier_def, classifiers]

/-- Settles O3: in RUNNING no stop goes on, so only the port's service and the frame in hand follow. -/
theorem epilogueInRunning : Obligations.EpilogueInRunning := by
  intro u h
  obtain ⟨e1, e2, e3, e4, e5, e6, e7, e8, e9, e10⟩ := epilogue_running_frame h
  have clips := epilogue_onlyClips h
  have frames := epilogue_framesOnly h
  refine ⟨e1, e2, e3, e4, e5, e6, e7, e8, e9, clips.waitList, clips.gens, clips.lines, clips.joins, clips.reserve,
    frames.lineHw, frames.retHw, frames.msDue, frames.frameCount, frames.runClock, frames.proceed, frames.incoming,
    e10, fun none => ?_⟩
  rw [epilogue_of_running h, concludeIfQuiet_of_none (by simpa using none)]

/-! ### The trunk frame of a line frame -/

theorem trunkFrame_get_passThrough {s : State} {n : LineNo} (h : s.running = false ∨ (s.line n).state = .disabled)
    (f : LineFrame) : (trunkFrame s f).get n = { sample := (f.get n).sample, offHook := (f.get n).closed } := by
  rw [trunkFrame, Table.get_ofFn, trunkSlot, if_pos h]
  rfl

theorem trunkFrame_get_enabled {s : State} {n : LineNo} (hr : s.running = true) (hn : (s.line n).state ≠ .disabled)
    (f : LineFrame) :
    (trunkFrame s f).get n = { sample := slotSample s n (f.get n), offHook := cleanedHook s n } := by
  rw [trunkFrame, Table.get_ofFn, trunkSlot, if_neg (by simp_all)]

/-- R6: with a generator attached the slot carries its sample in ON, and 0 in GAP and HOLD. -/
theorem slotSample_of_genOf {s : State} {n : LineNo} {g : GenNo} (h : genOf s n = some g) (x : LineSlot) :
    slotSample s n x = if (s.gen g).state = .on then BitVec.ofInt 16 (s.voices.get g).sample else 0 := by
  unfold slotSample
  rw [h]

/-- R6, R80: with none the slot carries 0 while the line is muted, else the line sample. -/
theorem slotSample_of_no_gen {s : State} {n : LineNo} (h : genOf s n = none) (x : LineSlot) :
    slotSample s n x
      = if (s.classifier n).pulse.inProgress || ((s.line n).timer .muteTail).isRunning then 0 else x.sample := by
  unfold slotSample muted
  rw [h]
  simp

/-- Settles O30. -/
theorem trunkSlotOfAnEnabledLine : Obligations.TrunkSlotOfAnEnabledLine := by
  intro f s n inHand hr hn
  refine ⟨trunkFrame s f, by rw [conclude_line inHand]; rfl, ?_⟩
  rw [trunkFrame_get_enabled hr hn]
  refine ⟨rfl, ?_, ?_, ?_, ?_⟩
  · intro g hg on
    simp only [slotSample_of_genOf hg, if_pos on]
  · intro g hg off
    simp only [slotSample_of_genOf hg, if_neg off]
  · intro none mute
    simp only [slotSample_of_no_gen none, Bool.or_eq_true, if_pos mute]
  · intro none pulse tail
    simp only [slotSample_of_no_gen none, pulse, tail]
    rfl

/-! ### A frame moment at which nothing is due -/

/-- Outside RUNNING and STOPPING no event of the part is due. -/
theorem dueEvents_of_inactive {s : State} (hr : s.running = false) (hs : s.stopping = false) : dueEvents s = [] := by
  rw [dueEvents, List.filter_eq_nil_iff]
  intro e _
  cases e <;> simp only [isDue, boundDue, genDue, eventsOpen, hr, hs] <;> simp

/-- Of the slot path only the mark of a due millisecond event says what is due. -/
theorem dueEvents_modSlotPath {s : State} {f : SlotPath → SlotPath} (h : (f s.slotPath).msDue = s.slotPath.msDue) :
    dueEvents (s.modSlotPath f) = dueEvents s := by
  have same : ∀ e, isDue e (s.modSlotPath f) = isDue e s := fun e => by
    cases e <;> simp [isDue, boundDue, genDue, eventsOpen, h]
  simp only [dueEvents, same]

/-- The port's accesses do not say what is due. -/
theorem dueEvents_portServe (s : State) : dueEvents (portServe s) = dueEvents s := by
  have same : ∀ e, isDue e (portServe s) = isDue e s := fun e => by
    cases e <;> simp [isDue, boundDue, genDue, eventsOpen]
  simp only [dueEvents, same]

theorem settle_of_quiet {s : State} (h : dueEvents s = []) (k : Nat) : settle k s = s := by
  cases k with
  | zero => rfl
  | succ k => rw [settle, h]; rfl

theorem enterMoment_of_quiet {s : State} (h : dueEvents s = []) :
    enterMoment s = sendTrunk (conclude (beginMoment s)) := by
  have quiet : dueEvents (beginMoment s) = [] := by rw [beginMoment, dueEvents_modSlotPath rfl, h]
  rw [enterMoment, settleFrame, settle_of_quiet quiet, concludeIfQuiet_of_quiet quiet]

/-- R4: the slot path once the trunk frame that waited for this moment has left. -/
def SlotPath.trunkSent (p : SlotPath) : SlotPath :=
  { p with trunkLeaving := none, trunkOut := p.trunkLeaving.toList }

/-- R4: with the last frame done, a frame moment begins with that frame's trunk frame leaving. -/
theorem enterMoment_of_done {s : State} (h : dueEvents s = []) (k : s.slotPath.frameInHand = none) :
    enterMoment s = s.modSlotPath SlotPath.trunkSent := by
  rw [enterMoment_of_quiet h, conclude_none (by simpa [beginMoment] using k)]
  simp [sendTrunk, beginMoment, State.modSlotPath, SlotPath.trunkSent]

/-! ### A line frame outside RUNNING and STOPPING -/

theorem synthesizeAll_of_not_running {s : State} (h : s.running = false) : synthesizeAll s = s := by
  unfold synthesizeAll
  rw [h]
  rfl

namespace BlocksKept

theorem trans {s t u : State} (h : BlocksKept s t) (k : BlocksKept t u) : BlocksKept s u := by
  obtain ⟨h1, h2, h3, h4, h5, h6, h7, h8, h9, h10⟩ := h
  obtain ⟨k1, k2, k3, k4, k5, k6, k7, k8, k9, k10⟩ := k
  exact ⟨k1.trans h1, k2.trans h2, k3.trans h3, k4.trans h4, k5.trans h5, k6.trans h6, k7.trans h7, k8.trans h8,
    k9.trans h9, k10.trans h10⟩

theorem modSlotPath (s : State) (f : SlotPath → SlotPath) : BlocksKept s (s.modSlotPath f) := by
  simp [BlocksKept]

theorem portServe (s : State) : BlocksKept s (portServe s) := by
  simp [BlocksKept]

theorem conclude {s : State} (h : s.running = false) : BlocksKept s (conclude s) := by
  unfold Machine.conclude
  rw [synthesizeAll_of_not_running h]
  split <;> simp [BlocksKept]

end BlocksKept

/-- R187: raising a cause sets flags of ATTENTION only. -/
theorem raise_control (k : Cause) (s : State) :
    (raise k s).control = { s.control with attention := (raise k s).control.attention } := by
  unfold raise
  simp only [State.modControl_control]
  split <;> rfl

theorem raise_part (k : Cause) (s : State) : (raise k s).control.part = s.control.part := by
  rw [raise_control]

theorem raise_raised (k : Cause) (s : State) : Raised k s.control (raise k s).control := by
  unfold Raised raise Control.enabled
  simp only [State.modControl_control]
  split <;> rfl

/-- R2, R4: outside RUNNING and STOPPING an arriving line frame is put in hand, and of the rest only the watch of the line
highway and the attention flags change. -/
theorem lineFrameArrives_of_inactive {s : State} (hr : s.running = false) (hs : s.stopping = false) (f : LineFrame) :
    BlocksKept s (lineFrameArrives f s) ∧ (lineFrameArrives f s).control.part = s.control.part ∧
      ∃ w, (lineFrameArrives f s).slotPath = { s.slotPath with lineHw := w, frameInHand := some (.line f) } := by
  have used : ∀ t : State, t.control.part = s.control.part →
      useFrame f t = t.modSlotPath fun p => { p with frameInHand := some (.line f) } := fun t ht => by
    have tr : t.running = false := by simpa [ht] using hr
    have ts : t.stopping = false := by simpa [ht] using hs
    simp only [useFrame, frameTime, tr, ts]
    rfl
  have part := raise_part .lineHighway (s.modSlotPath fun p => { p with lineHw := p.lineHw.restore })
  unfold lineFrameArrives
  split
  · rw [used _ (by simp)]
    exact ⟨by simp [BlocksKept], rfl, _, rfl⟩
  · split
    · rw [used _ part]
      exact ⟨by simp [BlocksKept], part, _, by rw [State.modSlotPath_slotPath, raise_slotPath]; rfl⟩
    · rw [hr]
      exact ⟨by simp [BlocksKept], rfl, _, rfl⟩

/-- R4: outside RUNNING and STOPPING a frame moment begins with no frame waiting to leave and the blocks as they were. -/
theorem enterMoment_of_inactive {s : State} (hr : s.running = false) (hs : s.stopping = false) :
    BlocksKept s (enterMoment s) ∧ (enterMoment s).control = s.control ∧
      (enterMoment s).slotPath.runClock = s.slotPath.runClock := by
  have kept : BlocksKept (beginMoment s) (conclude (beginMoment s)) := .conclude (by simpa using hr)
  rw [enterMoment_of_quiet (dueEvents_of_inactive hr hs)]
  refine ⟨((BlocksKept.modSlotPath s _).trans kept).trans (.modSlotPath _ _), by simp, ?_⟩
  exact (conclude_framesOnly (beginMoment s)).runClock

/-- R4, R5: outside RUNNING and STOPPING the step that put a line frame in hand builds its trunk frame. -/
theorem epilogue_of_inactive {s : State} (hr : s.running = false) (hs : s.stopping = false) :
    epilogue s = conclude (portServe s) := by
  rw [epilogue_of_not_stopping hs, concludeIfQuiet_of_quiet]
  rw [dueEvents_portServe, dueEvents_of_inactive hr hs]

/-- Settles O29. -/
theorem lineFramePassThrough : Obligations.LineFramePassThrough := by
  refine ⟨fun f s notRunning notStopping => ?_, fun f s n inHand h => ?_⟩
  · have hr : s.running = false := by simpa using notRunning
    have hs : s.stopping = false := by simpa using notStopping
    obtain ⟨mKept, mControl, mClock⟩ := enterMoment_of_inactive hr hs
    have mCount := (enterMoment_highwaysKept s).frameCount
    obtain ⟨uKept, uPart, w, uPath⟩ := lineFrameArrives_of_inactive (s := enterMoment s)
      (by simpa [mControl] using hr) (by simpa [mControl] using hs) f
    generalize hu : lineFrameArrives f (enterMoment s) = u at uKept uPart uPath
    have ur : u.running = false := by simpa [uPart, mControl] using hr
    have us : u.stopping = false := by simpa [uPart, mControl] using hs
    have sr : (portServe u).running = false := by simpa using ur
    have inHand : (portServe u).slotPath.frameInHand = some (.line f) := by simp [uPath]
    have concluded := conclude_framesOnly (portServe u)
    refine ⟨conclude (portServe u), ?_, ?_, ?_, ?_, ?_, trunkFrame (portServe u) f, ?_, fun n => ?_⟩
    · rw [← epilogue_of_inactive ur us, ← hu]
      rfl
    · exact ((mKept.trans uKept).trans (.portServe u)).trans (.conclude sr)
    · rw [concluded.frameCount, portServe_slotPath, uPath, mCount]
    · rw [concluded.runClock, portServe_slotPath, uPath, mClock]
    · intro done
      rw [conclude_line inHand, synthesizeAll_of_not_running sr]
      simp only [State.modSlotPath_slotPath, portServe_slotPath, uPath]
      rw [enterMoment_of_done (dueEvents_of_inactive hr hs) done]
      rfl
    · rw [conclude_line inHand]
      rfl
    · exact trunkFrame_get_passThrough (.inl sr) f
  · exact ⟨trunkFrame s f, by rw [conclude_line inHand]; rfl, trunkFrame_get_passThrough h f⟩

end Sys2Proof.Machine
end

section
/-! Hold reset (O20), the millisecond event (O36), return frames (O33), reference frame times (O32) and line frames in
RUNNING (O31). -/

namespace Sys2Proof.Machine

/-! ### Hold reset -/

theorem servePort_of_nothing_waiting {base : Word} {p : Port} (h1 : p.waitStart = none) (h2 : p.waitWriter = none)
    (h3 : p.waitOrder = none) : servePort base p = p := by
  unfold servePort
  rw [h1, h2, h3]
  split <;> rfl

/-- R184: what follows a hold reset is the end of the frame in hand alone. -/
theorem epilogue_holdReset (s : State) : epilogue (holdReset s) = conclude (holdReset s) := by
  have served : portServe (holdReset s) = holdReset s := by
    unfold portServe State.modPort
    rw [servePort_of_nothing_waiting rfl rfl rfl]
  rw [epilogue_of_inactive rfl rfl, served]

theorem readRegister_control_inReset {t : State} {c : Control} (h : t.control = c.inReset) :
    readRegister t .control = 2 := by
  simp only [readRegister, h]
  rfl

theorem readRegister_state_inReset {t : State} {c : Control} (h : t.control = c.inReset)
    (hl : t.slotPath.lineHw = Watch.reset) (hr : t.slotPath.retHw = Watch.reset) : readRegister t .state = 0 := by
  simp only [readRegister, h, hl, hr]
  rfl

theorem firstPending_inReset (c : Control) : firstPending c.inReset = none := by
  simp [firstPending, Control.inReset, Control.powerOn]

/-- Settles O20. -/
theorem holdResetState : Obligations.HoldResetState := by
  intro s
  have control : (conclude (holdReset s)).control = s.control.inReset := by
    rw [conclude_control]
    rfl
  obtain ⟨b1, b2, b3, b4, b5, b6, b7, -, b9, b10⟩ := BlocksKept.conclude (s := holdReset s) rfl
  have path := conclude_framesOnly (holdReset s)
  have port : (conclude (holdReset s)).port = resetPort s.port := by
    rw [conclude_port]
    rfl
  refine ⟨conclude (holdReset s), congrArg _ (epilogue_holdReset s), b1, ?_, readRegister_control_inReset control,
    readRegister_state_inReset control path.lineHw path.retHw, ?_, ?_, ?_, ?_, fun n => ⟨?_, ?_, ?_, ?_, ?_⟩,
    b5, b6, b7, b9, b10, fun w => ?_, ?_, ?_, ?_, ?_, ?_, path.lineHw, path.retHw, path.runClock, path.frameCount⟩
  · rw [control]; rfl
  · rw [control]; rfl
  · rw [control]; rfl
  · simp only [readRegister, control, firstPending_inReset]
  · simp only [attentionLine, control]; rfl
  · rw [State.line_def, b4]; exact Table.get_replicate _ n
  · rw [State.classifier_def, b2]; exact Table.get_replicate _ n
  · rw [State.estimator_def, b3]; exact Table.get_replicate _ n
  · rw [path.proceed]; exact Table.get_replicate _ n
  · rw [path.incoming]; exact Table.get_replicate _ n
  · rw [port]; exact Table.get_replicate _ w
  all_goals rw [port]; rfl

/-! ### The millisecond event -/

theorem LineCtx.tick_timer_of_ne (q : Bool) (c : LineCtx) {k : TimerKind} (h : k ≠ .quiet) :
    (c.tick q).timer k = (c.timer k).tick := by
  have other : ¬ k.index = TimerKind.quiet.index := by
    cases k <;> simp_all [TimerKind.index]
  simp [LineCtx.tick, LineCtx.timer, other]

theorem LineCtx.tick_quiet (q : Bool) (c : LineCtx) :
    (c.tick q).timer .quiet = if q then (c.timer .quiet).tick else c.timer .quiet := by
  cases q <;> simp [LineCtx.tick, LineCtx.timer]

theorem quietCounts_iff (s : State) (n : LineNo) :
    quietCounts s n = true ↔ (s.line n).state = .converting ∧ (s.line n).hasDraft = true ∧ (s.line n).queue = [] ∧
      genOf s n = none ∧ (s.classifier n).pulse.inProgress = false := by
  simp [quietCounts, and_assoc]

theorem takeMillisecond_of_running {s : State} (h : s.running = true) :
    takeMillisecond s = tickTimers (s.modSlotPath fun p => { p with runClock := p.runClock + 1, msDue := false }) := by
  unfold takeMillisecond
  rw [h]
  rfl

theorem takeMillisecond_of_not_running {s : State} (h : s.running = false) :
    takeMillisecond s = s.modSlotPath fun p => { p with runClock := p.runClock + 1, msDue := false } := by
  unfold takeMillisecond
  rw [h]
  rfl

section
variable {s : State} (h : s.running = true)
include h

theorem takeMillisecond_line (n : LineNo) : (takeMillisecond s).line n = (s.line n).tick (quietCounts s n) := by
  rw [takeMillisecond_of_running h]
  exact Table.get_ofFn _ n

theorem takeMillisecond_gen (g : GenNo) : (takeMillisecond s).gen g = (s.gen g).tick := by
  rw [takeMillisecond_of_running h]
  exact Table.get_ofFn _ g

theorem takeMillisecond_orders : (takeMillisecond s).orders = s.orders.tickSweep := by
  rw [takeMillisecond_of_running h]
  rfl

end

theorem Orders.tickSweep_below {o : Orders} (h : o.sweepTimer + 1 < o.sweepInterval) :
    o.tickSweep = { o with sweepTimer := o.sweepTimer + 1 } := by
  unfold Orders.tickSweep
  rw [if_neg (by omega)]

theorem Orders.tickSweep_at {o : Orders} (h : o.sweepInterval ≤ o.sweepTimer + 1) :
    o.tickSweep = { o with sweepTimer := 0, sweepDue := true } := by
  unfold Orders.tickSweep
  rw [if_pos h]

theorem exec_millisecondEvent_due {s : State} (h : s.slotPath.msDue = true)
    (ha : s.running = true ∨ s.stopping = true) :
    exec .millisecondEvent s = .next (epilogue (takeMillisecond s)) := by
  have due : isDue .millisecond s = true := by simpa [isDue, h] using ha
  simp only [exec, execMillisecondEvent, whenDue, due, if_true]

/-- Settles O36. -/
theorem millisecondEvent : Obligations.MillisecondEvent := by
  refine ⟨fun s => ⟨fun due hr => ?_, fun due hs => ?_, fun notDue => ?_⟩, fun count length => ⟨?_, ?_, ?_⟩, rfl, rfl⟩
  · have path := takeMillisecond_slotPath s
    obtain ⟨-, -, control, classifiers, estimators, settings, plan, -, writer, -⟩ := takeMillisecond_frame s
    refine ⟨takeMillisecond s, exec_millisecondEvent_due due (.inl hr), control, classifiers, estimators, settings, plan,
      writer, by rw [path], by rw [path], fun n k hk => ?_, fun n => ?_, fun n => ?_, fun g => ?_, fun below => ?_,
      fun reached => ?_⟩
    · rw [takeMillisecond_line hr, LineCtx.tick_timer_of_ne _ _ hk]
    · rw [takeMillisecond_line hr, LineCtx.tick_quiet]
      simp only [quietCounts_iff]
    · rw [takeMillisecond_line hr]
      exact ⟨rfl, rfl, rfl⟩
    · rw [takeMillisecond_gen hr]
      exact ⟨rfl, rfl⟩
    · rw [takeMillisecond_orders hr, Orders.tickSweep_below below]
      exact ⟨rfl, rfl⟩
    · rw [takeMillisecond_orders hr, Orders.tickSweep_at reached]
      exact ⟨rfl, rfl⟩
  · have hr : s.running = false := by simp_all
    exact ⟨_, exec_millisecondEvent_due due (.inr hs), takeMillisecond_of_not_running hr⟩
  · simp [exec, execMillisecondEvent, whenDue, isDue, notDue]
  · intro h
    simp [Timer.tick, h]
  · intro h
    simp [Timer.tick, Nat.not_lt.2 h]
  · simp [Timer.expired]

/-! ### A return frame -/

/-- R3, R10: a frame of the present return highway is used. -/
theorem returnFrameArrives_present {s : State} (h : s.slotPath.retHw.present = true) (f : ReturnFrame) :
    returnFrameArrives f s = frameFlags f (s.modSlotPath fun p => { p with retHw := { p.retHw with frameWatch := 0 } }) := by
  unfold returnFrameArrives
  rw [if_pos h]

/-- R10, R15: the frame that restores the return highway raises its cause and is used. -/
theorem returnFrameArrives_restoring {s : State} (h : s.slotPath.retHw.present = false)
    (k : s.slotPath.retHw.restoring = true) (f : ReturnFrame) :
    returnFrameArrives f s
      = frameFlags f (raise .returnHighway (s.modSlotPath fun p => { p with retHw := p.retHw.restore })) := by
  unfold returnFrameArrives
  rw [if_neg (by simp [h]), if_pos k]

/-- R10: any other frame of a lost return highway is counted. -/
theorem returnFrameArrives_counted {s : State} (h : s.slotPath.retHw.present = false)
    (k : s.slotPath.retHw.restoring = false) (f : ReturnFrame) :
    returnFrameArrives f s = s.modSlotPath fun p => { p with retHw := p.retHw.countRestore } := by
  unfold returnFrameArrives
  rw [if_neg (by simp [h]), if_neg (by simp [k])]

theorem Watch.restoring_iff (w : Watch) : w.restoring = true ↔ 31 ≤ w.restoreCount := by
  simp [Watch.restoring, Config.restoreFrames]

theorem frameFlags_slotPath (f : ReturnFrame) (s : State) :
    (frameFlags f s).slotPath
      = { s.slotPath with
          proceed := Table.ofFn fun n => (f.get n).proceed, incoming := Table.ofFn fun n => (f.get n).incoming } :=
  updateFlags_slotPath _ _ s

/-- Settles O33. -/
theorem Proofs.returnFrameArrives : Obligations.ReturnFrameArrives := by
  refine fun f s => ⟨fun present => ?_, fun lost last => ?_, fun lost early => ?_⟩
  · have path := frameFlags_slotPath f (s.modSlotPath fun p => { p with retHw := { p.retHw with frameWatch := 0 } })
    rw [← returnFrameArrives_present present] at path
    obtain ⟨-, retHw, proceed, incoming, -⟩ := epilogue_highwaysKept (Machine.returnFrameArrives f s)
    rw [path] at retHw proceed incoming
    refine ⟨_, rfl, by rw [retHw]; exact present, by rw [retHw]; rfl, by simp, fun n => ?_⟩
    rw [proceed, incoming]
    exact ⟨Table.get_ofFn _ n, Table.get_ofFn _ n⟩
  · refine ⟨_, rfl, ?_⟩
    rw [returnFrameArrives_restoring lost ((Watch.restoring_iff _).2 (by omega)), frameFlags_slotPath, raise_slotPath]
    refine ⟨rfl, rfl, ?_, fun n => ⟨Table.get_ofFn _ n, Table.get_ofFn _ n⟩⟩
    simpa using raise_raised .returnHighway (s.modSlotPath fun p => { p with retHw := p.retHw.restore })
  · refine ⟨_, rfl, ?_⟩
    have notYet : s.slotPath.retHw.restoring = false := by
      rw [← Bool.not_eq_true, Watch.restoring_iff]
      omega
    rw [returnFrameArrives_counted lost notYet]
    exact ⟨rfl, rfl, rfl, lost, rfl, rfl, rfl⟩

/-! ### A reference frame time -/

/-- R8, R9: the frame count modulo 8, and the millisecond event due where it passes from 7 to 0. -/
theorem SlotPath.countFrame_eq {p : SlotPath} (hc : p.frameCount < 8) (hm : p.msDue = false) :
    p.countFrame = { p with frameCount := (p.frameCount + 1) % 8, msDue := p.frameCount == 7 } := by
  unfold SlotPath.countFrame
  split
  · next h => simp [h]
  · next h =>
    have small : p.frameCount + 1 < 8 := by omega
    have notDue : p.msDue = (p.frameCount == 7) := by simp [hm, h]
    rw [Nat.mod_eq_of_lt small, ← notDue]

theorem frameTime_of_active {s : State} (h : s.running = true ∨ s.stopping = true) :
    frameTime s = s.modSlotPath SlotPath.countFrame := by
  unfold frameTime
  rw [if_pos (by simpa using h)]

/-- In RUNNING and STOPPING a quiet part has no millisecond event due. -/
theorem msDue_of_quiet {s : State} (h : dueEvents s = []) (ha : s.running = true ∨ s.stopping = true) :
    s.slotPath.msDue = false := by
  have notDue := List.filter_eq_nil_iff.1 h .millisecond (by simp [allEvents])
  rw [Bool.eq_false_iff]
  intro due
  exact notDue (by simpa [isDue, due] using ha)

/-- R4, R8: a reference frame time after a frame that is done. -/
theorem referenceTime_enterMoment {s : State} (ha : s.running = true ∨ s.stopping = true) (quiet : dueEvents s = [])
    (done : s.slotPath.frameInHand = none) (hc : s.slotPath.frameCount < 8) :
    referenceTime (enterMoment s) = s.modSlotPath fun p =>
      { p with
        frameCount := (p.frameCount + 1) % 8, msDue := p.frameCount == 7, trunkLeaving := none,
        trunkOut := p.trunkLeaving.toList, frameInHand := if s.running then some .reference else none } := by
  have counted := SlotPath.countFrame_eq (p := s.slotPath.trunkSent) hc (msDue_of_quiet quiet ha)
  rw [enterMoment_of_done quiet done, referenceTime, frameTime_of_active (by simpa using ha)]
  simp only [State.modSlotPath, counted]
  by_cases hr : s.running = true <;> simp_all [SlotPath.trunkSent]

theorem exec_referenceFrameTime_lost {s : State} (lost : s.slotPath.lineHw.present = false)
    (ha : s.running = true ∨ s.stopping = true) :
    exec .referenceFrameTime s = .next (epilogue (referenceTime (enterMoment s))) := by
  simp only [exec, execReferenceFrameTime, lost]
  rw [if_pos (by simpa using ha)]

/-- Where no frame is in hand, what follows a step keeps the frame count and the trunk frames. -/
theorem epilogue_of_none {s : State} (h : s.slotPath.frameInHand = none) :
    (epilogue s).slotPath.frameCount = s.slotPath.frameCount ∧ (epilogue s).slotPath.trunkOut = s.slotPath.trunkOut ∧
      (epilogue s).slotPath.trunkLeaving = s.slotPath.trunkLeaving := by
  have kept : (advance s).slotPath.frameInHand = none ∧ (advance s).slotPath.frameCount = s.slotPath.frameCount ∧
      (advance s).slotPath.trunkOut = s.slotPath.trunkOut ∧
      (advance s).slotPath.trunkLeaving = s.slotPath.trunkLeaving := by
    rcases advance_slotPath s with e | e
    · rw [e]; exact ⟨h, rfl, rfl, rfl⟩
    · rw [e, SlotPath.leaveTime_kept]; exact ⟨h, rfl, rfl, rfl⟩
  rw [epilogue, concludeIfQuiet_of_none kept.1]
  exact kept.2

/-- R4, R12: in RUNNING a reference frame time with no event due sends its silent frame in the same step. -/
theorem epilogue_reference_trunkOut {u : State} (hr : u.running = true) (quiet : dueEvents u = [])
    (inHand : u.slotPath.frameInHand = some .reference) :
    (epilogue u).slotPath.trunkOut = u.slotPath.trunkOut ++ [silentFrame] := by
  have served : (portServe u).running = true := by simpa using hr
  rw [epilogue_of_running hr, concludeIfQuiet_of_quiet (by rw [dueEvents_portServe, quiet]),
    conclude_reference (by simpa using inHand), served]
  simp

theorem silentFrame_get (n : LineNo) : silentFrame.get n = { sample := 0, offHook := false } :=
  Table.get_replicate _ n

/-- Settles O32. -/
theorem referenceFrameTime : Obligations.ReferenceFrameTime := by
  refine fun s => ⟨fun hr lost quiet done _ hc => ?_, fun hs lost quiet done hc => ?_, fun h => ?_⟩
  · have arrives := referenceTime_enterMoment (.inl hr) quiet done hc
    generalize hu : referenceTime (enterMoment s) = u at arrives
    have ur : u.running = true := by rw [arrives]; exact hr
    obtain ⟨-, -, control, classifiers, estimators, settings, plan, writer, orders, -⟩ := epilogue_running_frame ur
    have frames := epilogue_framesOnly ur
    refine ⟨epilogue u, ?_, ?_, ?_, ?_, ?_, ?_, ?_, ?_, ?_, ?_, fun not7 => ⟨silentFrame, ?_, silentFrame_get⟩⟩
    · rw [exec_referenceFrameTime_lost lost (.inl hr), hu]
    · rw [control, arrives]; rfl
    · rw [classifiers, arrives]; rfl
    · rw [estimators, arrives]; rfl
    · rw [settings, arrives]; rfl
    · rw [plan, arrives]; rfl
    · rw [writer, arrives]; rfl
    · rw [orders, arrives]; rfl
    · rw [frames.frameCount, arrives]; rfl
    · rw [frames.msDue, arrives]; rfl
    · have uQuiet : dueEvents u = [] := by
        rw [arrives, dueEvents_modSlotPath (by simp [msDue_of_quiet quiet (.inl hr), not7]), quiet]
      rw [epilogue_reference_trunkOut ur uQuiet (by rw [arrives]; exact if_pos hr), arrives]
      rfl
  · have hr : s.running = false := by simp_all
    have arrives := referenceTime_enterMoment (.inr hs) quiet done hc
    obtain ⟨count, out, -⟩ := epilogue_of_none (s := referenceTime (enterMoment s)) 
      (by rw [arrives]; exact if_neg (Bool.eq_false_iff.1 hr))
    refine ⟨_, exec_referenceFrameTime_lost lost (.inr hs), ?_, ?_⟩
    · rw [count, arrives]; rfl
    · rw [out, arrives]; rfl
  · simp only [exec, execReferenceFrameTime]
    rw [if_neg (by rcases h with h | ⟨h1, h2⟩ <;> simp_all)]

/-! ### A line frame in RUNNING -/

/-- R2, R8: what a frame of the present line highway is used for in RUNNING. -/
theorem useFrame_running {s : State} (hr : s.running = true) (hc : s.slotPath.frameCount < 8)
    (hm : s.slotPath.msDue = false) (f : LineFrame) :
    useFrame f s = classifyFrame f (s.modSlotPath fun p =>
      { p with frameCount := (p.frameCount + 1) % 8, msDue := p.frameCount == 7, frameInHand := some (.line f) }) := by
  simp only [useFrame, frameTime_of_active (.inl hr), hr, if_true, State.modSlotPath, SlotPath.countFrame_eq hc hm]

/-- R2, R21 to R25: what a flag frame makes of each classifier. -/
theorem classifyFrame_classifier (f : LineFrame) (s : State) (n : LineNo) :
    (classifyFrame f s).classifier n =
      if (s.line n).state = .disabled then s.classifier n
      else if (s.classifier n).waiting then (s.classifier n).freshStart (f.get n).closed
      else (s.classifier n).flagFrame (s.windows n) ((s.line n).state == .idle) (f.get n).closed :=
  Table.get_ofFn _ n

theorem classifyFrame_line (f : LineFrame) (s : State) (n : LineNo) :
    (classifyFrame f s).line n =
      if (s.line n).state ≠ .disabled ∧ (s.classifier n).discards (f.get n).closed = true then
        (s.line n).mapDraft Draft.countGlitch
      else s.line n :=
  Table.get_ofFn _ n

theorem classifyFrame_line_kept (f : LineFrame) (s : State) (n : LineNo) :
    ((classifyFrame f s).line n).state = (s.line n).state ∧ ((classifyFrame f s).line n).queue = (s.line n).queue ∧
      ((classifyFrame f s).line n).timers = (s.line n).timers := by
  rw [classifyFrame_line]
  split
  · exact LineCtx.mapDraft_kept _ _
  · exact ⟨rfl, rfl, rfl⟩

theorem Classifier.flagFrame_change (p : Profile) (idle closed : Bool) (c : Classifier) :
    (c.flagFrame p idle closed).change = true ↔ closed ≠ c.accepted ∧ 8 * p.glitchMs + 1 ≤ c.runCount + 1 := by
  by_cases h : closed = c.accepted <;> simp [Classifier.flagFrame, h]

theorem Classifier.flagFrame_runCount (p : Profile) (idle closed : Bool) (c : Classifier) :
    (c.flagFrame p idle closed).runCount = if closed = c.accepted then 0 else c.runCount + 1 := by
  by_cases h : closed = c.accepted <;> simp [Classifier.flagFrame, h]

section
variable {s : State} (hr : s.running = true) (f : LineFrame)
include hr

/-- R21 to R25: the classifiers after a flag frame and what follows it. -/
theorem classifyFrame_epilogue_classifier (n : LineNo) :
    (epilogue (classifyFrame f s)).classifier n = (classifyFrame f s).classifier n := by
  exact epilogue_running_classifier (by simpa using hr) n

theorem classifyFrame_epilogue_line (n : LineNo) :
    ((epilogue (classifyFrame f s)).line n).state = (s.line n).state ∧
      ((epilogue (classifyFrame f s)).line n).queue = (s.line n).queue ∧
      ((epilogue (classifyFrame f s)).line n).timers = (s.line n).timers := by
  have ur : (classifyFrame f s).running = true := by simpa using hr
  obtain ⟨e1, e2, e3⟩ := (epilogue_onlyClips ur).line n
  obtain ⟨k1, k2, k3⟩ := classifyFrame_line_kept f s n
  exact ⟨e1.trans k1, e2.trans k2, e3.trans k3⟩

/-- R23: a discarded reversal is counted in the draft that is open. -/
theorem classifyFrame_epilogue_draft {n : LineNo} {d : Draft} (hn : (s.line n).state ≠ .disabled)
    (discard : (s.classifier n).discards (f.get n).closed = true) (hd : (s.line n).draft = .opened d) :
    ∃ e, ((epilogue (classifyFrame f s)).line n).draft = .opened e ∧ e.glitch = min 255 (d.glitch + 1) ∧
      e.symbols = d.symbols := by
  have ur : (classifyFrame f s).running = true := by simpa using hr
  have counted : ((classifyFrame f s).line n).draft = .opened d.countGlitch := by
    rw [classifyFrame_line, if_pos ⟨hn, discard⟩, LineCtx.mapDraft_draft_opened hd]
  obtain ⟨e, he, same⟩ := (epilogue_onlyClips ur).draft counted
  exact ⟨e, he, congrArg Draft.glitch same, (congrArg Draft.symbols same :)⟩

end

end Sys2Proof.Machine
end

section
/-! A line frame in RUNNING (O31). -/

namespace Sys2Proof.Machine

/-! ### What an arriving line frame comes to -/

theorem lineFrameArrives_present {s : State} (h : s.slotPath.lineHw.present = true) (f : LineFrame) :
    lineFrameArrives f s = useFrame f (s.modSlotPath fun p => { p with lineHw := { p.lineHw with frameWatch := 0 } }) := by
  unfold lineFrameArrives
  rw [if_pos h]

theorem lineFrameArrives_restoring {s : State} (h : s.slotPath.lineHw.present = false)
    (k : s.slotPath.lineHw.restoring = true) (f : LineFrame) :
    lineFrameArrives f s
      = useFrame f (raise .lineHighway (s.modSlotPath fun p => { p with lineHw := p.lineHw.restore })) := by
  unfold lineFrameArrives
  rw [if_neg (by simp [h]), if_pos k]

theorem lineFrameArrives_counted {s : State} (h : s.slotPath.lineHw.present = false)
    (k : s.slotPath.lineHw.restoring = false) (f : LineFrame) :
    lineFrameArrives f s = s.modSlotPath fun p =>
      { p with
        lineHw := p.lineHw.countRestore, frameInHand := if s.running then p.frameInHand else some (.line f) } := by
  unfold lineFrameArrives
  rw [if_neg (by simp [h]), if_neg (by simp [k])]

/-! ### A frame that is used -/

/-- R25: the fresh start of the classifier of an enabled line that waits for one. -/
theorem classifyFrame_freshStart {s : State} {n : LineNo} (f : LineFrame) (hn : (s.line n).state ≠ .disabled)
    (hw : (s.classifier n).waiting = true) :
    (classifyFrame f s).classifier n = (s.classifier n).freshStart (f.get n).closed := by
  rw [classifyFrame_classifier, if_neg hn, if_pos hw]

theorem classifyFrame_flagFrame {s : State} {n : LineNo} (f : LineFrame) (hn : (s.line n).state ≠ .disabled)
    (hw : (s.classifier n).waiting = false) :
    (classifyFrame f s).classifier n
      = (s.classifier n).flagFrame (s.windows n) ((s.line n).state == .idle) (f.get n).closed := by
  rw [classifyFrame_classifier, if_neg hn, if_neg (Bool.eq_false_iff.1 hw)]

section
variable {s : State} (f : LineFrame) (hr : s.running = true) (quiet : dueEvents s = [])
  (done : s.slotPath.frameInHand = none)
include hr quiet done

/-- R2, R8: a frame in RUNNING of a highway that is present. -/
theorem exec_lineFrame_present (present : s.slotPath.lineHw.present = true) (hc : s.slotPath.frameCount < 8) :
    exec (.lineFrame f) s = .next (epilogue (classifyFrame f (s.modSlotPath fun p =>
      { p.trunkSent with
        lineHw := { p.lineHw with frameWatch := 0 }, frameCount := (p.frameCount + 1) % 8, msDue := p.frameCount == 7,
        frameInHand := some (.line f) }))) := by
  simp only [exec, execLineFrame]
  rw [enterMoment_of_done quiet done, lineFrameArrives_present (s := s.modSlotPath SlotPath.trunkSent) present,
    useFrame_running]
  · rfl
  · exact hr
  · exact hc
  · exact (msDue_of_quiet quiet (.inl hr) :)

/-- R10, R13: the frame in RUNNING that restores the line highway. -/
theorem exec_lineFrame_restoring (lost : s.slotPath.lineHw.present = false)
    (last : s.slotPath.lineHw.restoreCount = 31) (hc : s.slotPath.frameCount < 8) :
    exec (.lineFrame f) s = .next (epilogue (classifyFrame f ((raise .lineHighway s).modSlotPath fun p =>
      { p.trunkSent with
        lineHw := p.lineHw.restore, frameCount := (p.frameCount + 1) % 8, msDue := p.frameCount == 7,
        frameInHand := some (.line f) }))) := by
  have restoring : s.slotPath.lineHw.restoring = true := (Watch.restoring_iff _).2 (by omega)
  simp only [exec, execLineFrame]
  rw [enterMoment_of_done quiet done, lineFrameArrives_restoring (s := s.modSlotPath SlotPath.trunkSent) lost restoring,
    useFrame_running]
  · rfl
  · rw [State.running_def, raise_part]
    exact hr
  · exact hc
  · exact (msDue_of_quiet quiet (.inl hr) :)

/-- R10: a frame in RUNNING that is counted toward restoration. -/
theorem exec_lineFrame_counted (lost : s.slotPath.lineHw.present = false)
    (early : s.slotPath.lineHw.restoreCount < 31) :
    exec (.lineFrame f) s
      = .next (portServe (s.modSlotPath fun p => { p.trunkSent with lineHw := p.lineHw.countRestore })) := by
  have notYet : s.slotPath.lineHw.restoring = false := by
    rw [← Bool.not_eq_true, Watch.restoring_iff]
    omega
  have arrives : lineFrameArrives f (enterMoment s)
      = s.modSlotPath fun p => { p.trunkSent with lineHw := p.lineHw.countRestore } := by
    have running : (s.modSlotPath SlotPath.trunkSent).running = true := hr
    rw [enterMoment_of_done quiet done, lineFrameArrives_counted (s := s.modSlotPath SlotPath.trunkSent) lost notYet,
      running]
    rfl
  simp only [exec, execLineFrame, arrives]
  rw [epilogue_of_running (by exact hr), concludeIfQuiet_of_none (by simpa [SlotPath.trunkSent] using done)]

end

/-- What a frame used in RUNNING comes to on one line, whose context and classifier were those of `s`. -/
structure FrameOnLine (f : LineFrame) (s t : State) (n : LineNo) : Prop where
  kept : (t.line n).state = (s.line n).state ∧ (t.line n).queue = (s.line n).queue ∧
    (t.line n).timers = (s.line n).timers
  disabled : (s.line n).state = .disabled → t.classifier n = s.classifier n
  fresh : (s.line n).state ≠ .disabled → (s.classifier n).waiting = true →
    t.classifier n = (s.classifier n).freshStart (f.get n).closed
  flagged : (s.line n).state ≠ .disabled → (s.classifier n).waiting = false →
    t.classifier n = (s.classifier n).flagFrame (s.windows n) ((s.line n).state == .idle) (f.get n).closed
  glitch : ∀ d, (s.line n).state ≠ .disabled → (s.classifier n).waiting = false →
    (f.get n).closed = (s.classifier n).accepted → 0 < (s.classifier n).runCount → (s.line n).draft = .opened d →
    ∃ d', (t.line n).draft = .opened d' ∧ d'.glitch = min 255 (d.glitch + 1) ∧ d'.symbols = d.symbols

theorem classifyFrame_frameOnLine {s : State} (hr : s.running = true) (f : LineFrame) (n : LineNo) :
    FrameOnLine f s (epilogue (classifyFrame f s)) n where
  kept := classifyFrame_epilogue_line hr f n
  disabled := fun h => by rw [classifyFrame_epilogue_classifier hr, classifyFrame_classifier, if_pos h]
  fresh := fun hn hw => by rw [classifyFrame_epilogue_classifier hr, classifyFrame_freshStart f hn hw]
  flagged := fun hn hw => by rw [classifyFrame_epilogue_classifier hr, classifyFrame_flagFrame f hn hw]
  glitch := fun d hn hw same run hd =>
    classifyFrame_epilogue_draft hr f hn (by simp_all [Classifier.discards]) hd

/-- What a frame used in RUNNING leaves as it was, and what of the slot path follows it as the frame time left it. -/
theorem classifyFrame_epilogue_frame {s : State} (hr : s.running = true) (f : LineFrame) :
    let t := epilogue (classifyFrame f s)
    t.pending = s.pending ∧ t.control = s.control ∧ t.settings = s.settings ∧ t.plan = s.plan ∧
      t.estimators = s.estimators ∧ t.writer = s.writer ∧ t.orders = s.orders ∧
      t.slotPath.lineHw = s.slotPath.lineHw ∧ t.slotPath.frameCount = s.slotPath.frameCount ∧
      t.slotPath.runClock = s.slotPath.runClock ∧ t.slotPath.msDue = s.slotPath.msDue := by
  have ur : (classifyFrame f s).running = true := by simpa using hr
  have frames := epilogue_framesOnly ur
  have path : (classifyFrame f s).slotPath = s.slotPath := by simp
  obtain ⟨pending, -, control, -, estimators, settings, plan, writer, orders, -⟩ := epilogue_running_frame ur
  refine ⟨?_, ?_, ?_, ?_, ?_, ?_, ?_, ?_, ?_, ?_, ?_⟩
  · rw [pending]; simp
  · rw [control]; simp
  · rw [settings]; simp
  · rw [plan]; simp
  · rw [estimators]; simp
  · rw [writer]; simp
  · rw [orders]; simp
  · rw [frames.lineHw, path]
  · rw [frames.frameCount, path]
  · rw [frames.runClock, path]
  · rw [frames.msDue, path]

theorem Classifier.freshStart_fields (closed : Bool) (c : Classifier) :
    (c.freshStart closed).accepted = closed ∧ (c.freshStart closed).waiting = false ∧
      (c.freshStart closed).pulse = (if closed then .steadyClosed else .steadyOpen) ∧
      (c.freshStart closed).interval = 0 ∧ (c.freshStart closed).runCount = 0 ∧
      (c.freshStart closed).seizureCount = 0 :=
  ⟨rfl, rfl, rfl, rfl, rfl, rfl⟩

/-- Settles O31. -/
theorem lineFrameInRunning : Obligations.LineFrameInRunning := by
  refine ⟨fun f s hr present quiet done _ hc => ?_, fun f s hr lost early quiet done => ?_,
    fun f s hr lost last quiet done _ hc => ?_⟩
  · obtain ⟨pending, control, settings, plan, estimators, writer, orders, lineHw, frameCount, runClock, msDue⟩ :=
      classifyFrame_epilogue_frame (s := s.modSlotPath fun p => { p.trunkSent with
        lineHw := { p.lineHw with frameWatch := 0 }, frameCount := (p.frameCount + 1) % 8, msDue := p.frameCount == 7,
        frameInHand := some (.line f) }) hr f
    refine ⟨_, exec_lineFrame_present f hr quiet done present hc, pending, control, settings, plan, estimators, writer,
      orders, frameCount, runClock, msDue, by rw [lineHw]; exact present, by rw [lineHw]; rfl, fun n => ?_⟩
    obtain ⟨⟨state, queue, timers⟩, disabled, fresh, flagged, glitch⟩ :=
      classifyFrame_frameOnLine (s := s.modSlotPath _) hr f n
    refine ⟨state, queue, timers, disabled, fun hn hw => ?_, fun hn hw => ?_, glitch⟩
    · rw [fresh hn hw]
      exact Classifier.freshStart_fields _ _
    · rw [flagged hn hw]
      exact ⟨rfl, rfl, rfl, Classifier.flagFrame_runCount _ _ _ _, Classifier.flagFrame_change _ _ _ _⟩
  · refine ⟨_, exec_lineFrame_counted f hr quiet done lost early, ?_⟩
    simp [Watch.countRestore, lost, SlotPath.trunkSent]
  · have vr : (raise .lineHighway s).running = true := by rw [State.running_def, raise_part]; exact hr
    obtain ⟨pending, control, settings, plan, estimators, writer, orders, lineHw, frameCount, runClock, msDue⟩ :=
      classifyFrame_epilogue_frame (s := (raise .lineHighway s).modSlotPath fun p => { p.trunkSent with
        lineHw := p.lineHw.restore, frameCount := (p.frameCount + 1) % 8, msDue := p.frameCount == 7,
        frameInHand := some (.line f) }) vr f
    refine ⟨_, exec_lineFrame_restoring f hr quiet done lost last hc, pending, ?_, ?_, settings, plan, estimators,
      writer, orders, lineHw, frameCount, runClock, msDue, fun n => ?_⟩
    · rw [control]
      exact raise_raised .lineHighway s
    · rw [control]
      exact raise_part .lineHighway s
    · obtain ⟨⟨state, -, -⟩, disabled, fresh, -, -⟩ :=
        classifyFrame_frameOnLine (s := (raise .lineHighway s).modSlotPath _) vr f n
      refine ⟨state, disabled, fun hn hw => ?_⟩
      rw [fresh hn hw]
      exact Classifier.freshStart_fields _ _

end Sys2Proof.Machine
end

section
/-! The frame watch (O35): what the events before a loss keep, what the loss does to every line, and the frame times owed
with it. -/

namespace Sys2Proof.Machine

/-! ### Events and causes -/

/-- Of the registers only the flags of ATTENTION change: causes may be raised. -/
def OnlyRaises (s t : State) : Prop := t.control = { s.control with attention := t.control.attention }

namespace OnlyRaises

theorem of_control {s t : State} (h : t.control = s.control) : OnlyRaises s t := by rw [OnlyRaises, h]

theorem trans {s t u : State} (h : OnlyRaises s t) (k : OnlyRaises t u) : OnlyRaises s u := by
  unfold OnlyRaises at *
  rw [k, h]

/-- The part state and ATTENTION MASK stay. -/
theorem kept {s t : State} (h : OnlyRaises s t) :
    t.control.part = s.control.part ∧ t.control.attentionMask = s.control.attentionMask := by
  rw [h]
  exact ⟨rfl, rfl⟩

theorem raise (k : Cause) (s : State) : OnlyRaises s (raise k s) := raise_control k s

theorem afterEvent (n : LineNo) (s : State) : OnlyRaises s (afterEvent n s) := of_control (by simp)

theorem recordDecision (n : LineNo) (i : Option Nat) (a : PlanAction) (k : Nat) (e u : Bool) (s : State) :
    OnlyRaises s (recordDecision n i a k e u s) := by
  unfold Machine.recordDecision
  dsimp only
  split
  · exact .trans (.of_control (by simp)) (.raise .emergency _)
  · exact .of_control (by simp)

theorem decideSend (n : LineNo) (i : Option Nat) (a : PlanAction) (k : ServiceClass) (x : List Tone) (e u : Bool)
    (s : State) : OnlyRaises s (decideSend n i a k x e u s) := by
  unfold Machine.decideSend
  dsimp only
  split
  · exact (recordDecision n i a x.length e u s).trans (.of_control (by simp))
  · exact (recordDecision n i a x.length e u s).trans (.of_control (by simp))

theorem actOn (n : LineNo) (v : Verdict) (s : State) : OnlyRaises s (actOn n v s) := by
  unfold Machine.actOn
  split
  · split
    · exact .of_control (by simp)
    · exact decideSend _ _ _ _ _ _ _ s
    · exact decideSend _ _ _ _ _ _ _ s
    · exact decideSend _ _ _ _ _ _ _ s
  · exact decideSend _ _ _ _ _ _ _ s
  · exact .of_control (by simp)
  · exact .of_control (by simp)

theorem callMatcher (n : LineNo) (s : State) : OnlyRaises s (callMatcher n s) := by
  unfold Machine.callMatcher
  split
  · exact actOn n _ s
  · exact .of_control rfl

theorem takeSymbol (n : LineNo) (t : Tone) (e : Bool) (s : State) : OnlyRaises s (takeSymbol n t e s) := by
  unfold Machine.takeSymbol
  split
  · unfold symbolSeized
    dsimp only
    split
    · exact .trans (.of_control (by simp)) (callMatcher n _)
    · exact .of_control (by simp)
  · exact .trans (.of_control (by simp)) (callMatcher n _)
  · exact .of_control (by simp)
  · exact .of_control (by simp)
  · exact .of_control rfl
  · exact .of_control rfl
  · exact .of_control rfl

theorem takeDigit (n : LineNo) (k : Nat) (c : Bool) (s : State) : OnlyRaises s (takeDigit n k c s) := by
  have ended : OnlyRaises s (if (s.line n).escapedDigit then endEscape n s else s) := by
    split <;> exact .of_control (by simp)
  unfold Machine.takeDigit
  dsimp only
  refine .trans ?_ (afterEvent n _)
  split
  · exact ended.trans (takeSymbol n _ _ _)
  · exact ended
  · exact ended.trans (.of_control (by simp))
  · exact ended
  · exact ended.trans (.of_control (by simp))

theorem timerExpires (k : TimerKind) (n : LineNo) (s : State) : OnlyRaises s (timerExpires k n s) := by
  cases k with
  | complete =>
    have stopped : OnlyRaises s (s.modLine n fun c => c.stopTimer .complete) := .of_control rfl
    exact (stopped.trans (actOn n _ _)).trans (afterEvent n _)
  | _ => exact .of_control (by simp [Machine.timerExpires])

/-- R101: the one cause an event of the part raises is a decision's EMERGENCY. -/
theorem takeDue (e : Due) (s : State) : OnlyRaises s (takeDue e s) := by
  cases e with
  | digit n => exact .trans (.of_control rfl) (takeDigit n _ _ _)
  | timer k n => exact timerExpires k n s
  | _ => exact .of_control (by simp [Machine.takeDue])

end OnlyRaises

/-! ### The registers at the end of every step -/

/-- R183, R186: a stop that goes on touches neither ATTENTION nor its mask. -/
theorem stopAdvance_attention (s : State) :
    (stopAdvance s).control.attention = s.control.attention ∧
      (stopAdvance s).control.attentionMask = s.control.attentionMask := by
  have leave : ∀ t, (leaveStopping t).control.attention = t.control.attention ∧
      (leaveStopping t).control.attentionMask = t.control.attentionMask := fun t => by
    unfold leaveStopping
    dsimp only
    split <;> simp [enterStarting]
  unfold stopAdvance
  split
  · dsimp only
    split <;> split <;> simp [leave]
  · exact ⟨rfl, rfl⟩

theorem advance_attention (s : State) :
    (advance s).control.attention = s.control.attention ∧
      (advance s).control.attentionMask = s.control.attentionMask := by
  simpa [advance] using stopAdvance_attention s

theorem concludeIfQuiet_control (s : State) : (concludeIfQuiet s).control = s.control := by simp

theorem epilogue_attention (s : State) : (epilogue s).control.attention = s.control.attention := by
  rw [epilogue, concludeIfQuiet_control, (advance_attention s).1]

/-! ### What a frame moment begins with -/

/-- What the events of the last frame, taken at a frame moment, keep. -/
structure MomentKept (s t : State) : Prop where
  settings : t.settings = s.settings
  mask : t.control.attentionMask = s.control.attentionMask
  running : s.running = true → t.running = true

namespace MomentKept

theorem of_blocks {s t : State} (hs : t.settings = s.settings) (hc : t.control = s.control) : MomentKept s t :=
  ⟨hs, by rw [hc], by simp [hc]⟩

theorem trans {s t u : State} (h : MomentKept s t) (k : MomentKept t u) : MomentKept s u :=
  ⟨k.settings.trans h.settings, k.mask.trans h.mask, fun r => k.running (h.running r)⟩

theorem takeDue (e : Due) (s : State) : MomentKept s (takeDue e s) := by
  obtain ⟨part, mask⟩ := (OnlyRaises.takeDue e s).kept
  exact ⟨by simp, mask, by simp [part]⟩

theorem advance (s : State) : MomentKept s (advance s) := by
  refine ⟨by simp, (advance_attention s).2, fun h => ?_⟩
  rw [Machine.advance, stopAdvance_of_not_stopping (stopping_of_running h)]
  simpa using h

theorem takeOne (s : State) : MomentKept s (takeOne s) := by
  unfold Machine.takeOne
  split
  · refine .trans ?_ ((takeDue _ _).trans (advance _))
    split <;> exact of_blocks (by simp) (by simp)
  · exact of_blocks rfl rfl

theorem settle (k : Nat) (s : State) : MomentKept s (settle k s) := by
  induction k generalizing s with
  | zero => exact of_blocks rfl rfl
  | succ k ih =>
    rw [Machine.settle]
    split
    · exact of_blocks rfl rfl
    · exact (takeOne s).trans (ih _)

theorem enterMoment (s : State) : MomentKept s (enterMoment s) := by
  have begun : MomentKept s (beginMoment s) := of_blocks (by simp) (by simp)
  have concluded : ∀ t, MomentKept t (concludeIfQuiet t) := fun t => of_blocks (by simp) (by simp)
  have sent : ∀ t, MomentKept t (sendTrunk t) := fun t => of_blocks (by simp) (by simp)
  exact ((begun.trans (settle 1024 _)).trans (concluded _)).trans (sent _)

end MomentKept

/-! ### A teardown and the lines -/

/-- A line that is IDLE or DISABLED. -/
def LineCtx.atRest (c : LineCtx) : Prop := c.state = .idle ∨ c.state = .disabled

/-- What the pool does to a line that is at rest leaves its state. -/
theorem PoolTouches.state_of_atRest {c d : LineCtx} (h : PoolTouches c d) (hc : c.atRest) : d.state = c.state := by
  have unfinished : c.finished = false := by
    rcases hc with e | e <;> simp [LineCtx.finished, e]
  exact (h.unfinished unfinished).1

/-- R82: the steps of a teardown reach no other line's context. -/
theorem teardownSteps_line_of_ne {n m : LineNo} (h : n ≠ m) (k : CloseCause) (s : State) :
    (teardownSteps n k s).line m = s.line m := by
  have closed : ∀ t : State, (closeDraft n k t).line m = t.line m := fun t => by
    unfold closeDraft
    split <;> simp [Table.get_set, h]
  have unbound : ∀ t : State, (unbindBank n t).line m = t.line m := fun t => by
    unfold unbindBank
    split <;> simp [Table.get_set, h]
  have modified : ∀ (t : State) (f : LineCtx → LineCtx), (t.modLine n f).line m = t.line m := fun t f => by
    simp [Table.get_set, h]
  unfold teardownSteps
  dsimp only
  rw [modified, closed, modified, unbound]
  simp [leaveWait, Table.get_set, h]

/-- R83: a teardown with cause HIGHWAY_LOSS leaves its line IDLE. -/
theorem teardown_highwayLoss_state (n : LineNo) (s : State) :
    ((teardown n .highwayLoss s).line n).state = .idle := by
  have entered : (((teardownSteps n .highwayLoss s).modLine n
      (LineCtx.enterAfter CloseCause.highwayLoss.stateAfter)).line n).state = .idle := by
    simp [CloseCause.stateAfter, LineCtx.enterAfter]
  exact ((afterEvent_touches n _ n).state_of_atRest (.inl entered)).trans entered

theorem teardown_state_of_ne {n m : LineNo} (h : n ≠ m) (k : CloseCause) {s : State} (hm : (s.line m).atRest) :
    ((teardown n k s).line m).state = (s.line m).state := by
  have same : (((teardownSteps n k s).modLine n (LineCtx.enterAfter k.stateAfter)).line m) = s.line m := by
    rw [State.line_def, State.modLine_lines, Table.get_set_ne _ _ h]
    exact teardownSteps_line_of_ne h k s
  rw [← same]
  exact (afterEvent_touches n _ m).state_of_atRest (by rw [same]; exact hm)

/-! ### The loss of the line highway -/

/-- R11, R42: line `n` as a loss leaves it: IDLE or DISABLED, the classifier of an enabled line waiting for a fresh
start. -/
structure LineLost (n : LineNo) (s : State) : Prop where
  atRest : (s.line n).atRest
  waiting : (s.line n).state ≠ .disabled → (s.classifier n).waiting = true ∧ (s.classifier n).pulse = .steadyOpen ∧
    (s.classifier n).runCount = 0 ∧ (s.classifier n).seizureCount = 0

theorem loseLine_lost (n : LineNo) (s : State) : LineLost n (loseLine n s) := by
  unfold loseLine
  split
  · next h => exact ⟨.inr h, fun k => absurd h k⟩
  · next h =>
    have idle : ((if (s.line n).state.seizedOn then teardown n .highwayLoss s else s).line n).state = .idle := by
      split
      · exact teardown_highwayLoss_state n s
      · next k => cases e : (s.line n).state <;> simp_all [LineState.seizedOn]
    exact ⟨.inl idle, fun _ => by simp [Classifier.lose]⟩

theorem loseLine_keeps_lost {n m : LineNo} (h : n ≠ m) {s : State} (hm : LineLost m s) : LineLost m (loseLine n s) := by
  unfold loseLine
  split
  · exact hm
  · dsimp only
    generalize ht : (if (s.line n).state.seizedOn then teardown n .highwayLoss s else s) = t
    have state : (t.line m).state = (s.line m).state := by
      rw [← ht]
      split
      · exact teardown_state_of_ne h _ hm.atRest
      · rfl
    have loops : t.classifiers = s.classifiers := by
      rw [← ht]
      split <;> simp
    have kept : (t.modClassifier n Classifier.lose).classifier m = s.classifier m := by
      rw [State.classifier_def, State.modClassifier_classifiers, Table.get_set_ne _ _ h, loops]
      rfl
    refine ⟨?_, fun k => ?_⟩
    · rw [LineCtx.atRest, State.line_def, State.modClassifier_lines, ← State.line_def, state]
      exact hm.atRest
    · rw [kept]
      exact hm.waiting (state ▸ k)

/-- What each line's turn brings about for it and no other line's turn undoes, the turn of every line brings about for
all. -/
theorem eachLine_establishes {P : LineNo → State → Prop} {f : LineNo → State → State} (own : ∀ n s, P n (f n s))
    (others : ∀ n m s, n ≠ m → P m s → P m (f n s)) (s : State) (n : LineNo) : P n (eachLine f s) := by
  have stays : ∀ (l : List LineNo) (t : State), P n t → P n (l.foldl (fun s m => f m s) t) := fun l => by
    induction l with
    | nil => exact fun _ h => h
    | cons m l ih =>
      intro t h
      refine ih _ ?_
      by_cases e : m = n
      · exact e ▸ own m t
      · exact others m n t e h
  have reached : ∀ (l : List LineNo) (t : State), n ∈ l → P n (l.foldl (fun s m => f m s) t) := fun l => by
    induction l with
    | nil => exact fun _ h => absurd h List.not_mem_nil
    | cons m l ih =>
      intro t h
      rcases List.mem_cons.1 h with e | e
      · exact stays l _ (e ▸ own n t)
      · exact ih _ e
  exact reached _ s (List.mem_finRange n)

theorem loseLines_lost (s : State) (n : LineNo) : LineLost n (loseLines s) :=
  eachLine_establishes loseLine_lost (fun _ _ _ h k => loseLine_keeps_lost h k) s n

/-! ### The frame times owed at a loss -/

theorem frameTime_slotPath (s : State) :
    ∃ c d, (frameTime s).slotPath = { s.slotPath with frameCount := c, msDue := d } := by
  unfold frameTime
  split
  · simp only [State.modSlotPath_slotPath, SlotPath.countFrame]
    split
    · exact ⟨_, _, rfl⟩
    · exact ⟨_, _, rfl⟩
  · exact ⟨_, _, rfl⟩

/-- R8, R4: the frame times owed count frames, and in RUNNING the last brings a reference frame. -/
theorem owedFrameTimes_slotPath (s : State) :
    ∃ c d, (owedFrameTimes s).slotPath
      = { s.slotPath with
          frameCount := c, msDue := d,
          frameInHand := if s.running then some .reference else s.slotPath.frameInHand } := by
  obtain ⟨c1, d1, e1⟩ := frameTime_slotPath s
  obtain ⟨c2, d2, e2⟩ := frameTime_slotPath (frameTime s)
  obtain ⟨c3, d3, e3⟩ := frameTime_slotPath (frameTime (frameTime s))
  obtain ⟨c4, d4, e4⟩ := frameTime_slotPath (frameTime (frameTime (frameTime s)))
  have part : (frameTime (frameTime (frameTime s))).running = s.running := by simp
  refine ⟨c4, d4, ?_⟩
  unfold owedFrameTimes referenceTime
  dsimp only
  rw [part]
  split
  · rw [State.modSlotPath_slotPath, e4, e3, e2, e1]
  · rw [e4, e3, e2, e1]

/-! ### The frame watch -/

theorem exec_frameWatchExpiry_line (s : State) :
    exec (.frameWatchExpiry .line) s = .next (epilogue (lineWatchExpires (enterMoment s))) := rfl

theorem lineWatchExpires_present {s : State} (h : s.slotPath.lineHw.present = true) :
    lineWatchExpires s
      = if s.running || s.stopping then owedFrameTimes (declareLineLoss s) else declareLineLoss s := by
  unfold lineWatchExpires
  rw [if_pos h, loseLineHighway_eq]

/-- R11, R187: the loss raises its cause and changes no other register. -/
theorem declareLineLoss_control (s : State) : (declareLineLoss s).control = (raise .lineHighway s).control := by
  unfold declareLineLoss
  dsimp only
  split
  · simp only [loseLines_frame]
    rfl
  · rfl

theorem lineWatchExpires_control {s : State} (h : s.slotPath.lineHw.present = true) :
    (lineWatchExpires s).control = (raise .lineHighway s).control := by
  rw [lineWatchExpires_present h, ← declareLineLoss_control]
  split <;> simp

/-- R10, R11: after a loss the highway's watch reads lost, whatever frame times were owed. -/
theorem lineWatchExpires_lineHw {s : State} (h : s.slotPath.lineHw.present = true) :
    (lineWatchExpires s).slotPath.lineHw = s.slotPath.lineHw.lose := by
  rw [lineWatchExpires_present h]
  split
  · obtain ⟨c, d, e⟩ := owedFrameTimes_slotPath (declareLineLoss s)
    rw [e, declareLineLoss_slotPath]
  · rw [declareLineLoss_slotPath]

/-- R4, R8: a loss in RUNNING leaves a reference frame in hand and the trunk frames as they were. -/
theorem lineWatchExpires_frames {s : State} (h : s.slotPath.lineHw.present = true) (hr : s.running = true) :
    (lineWatchExpires s).slotPath.frameInHand = some .reference ∧
      (lineWatchExpires s).slotPath.trunkLeaving = s.slotPath.trunkLeaving ∧
      (lineWatchExpires s).slotPath.trunkOut = s.slotPath.trunkOut := by
  have running : (declareLineLoss s).running = true := by
    rw [State.running_def, declareLineLoss_control, raise_part]
    exact hr
  obtain ⟨c, d, e⟩ := owedFrameTimes_slotPath (declareLineLoss s)
  rw [lineWatchExpires_present h, if_pos (by rw [hr]; rfl), e, running, declareLineLoss_slotPath]
  exact ⟨rfl, rfl, rfl⟩

/-- R11, R42: a loss in RUNNING leaves every line lost. -/
theorem lineWatchExpires_lost {s : State} (h : s.slotPath.lineHw.present = true) (hr : s.running = true) (n : LineNo) :
    LineLost n (lineWatchExpires s) := by
  have lost : LineLost n (declareLineLoss s) := by
    unfold declareLineLoss
    rw [hr]
    exact loseLines_lost _ n
  rw [lineWatchExpires_present h, if_pos (by rw [hr]; rfl)]
  refine ⟨?_, fun k => ?_⟩
  · simpa using lost.atRest
  · simpa using lost.waiting (by simpa using k)

/-- What follows a step in RUNNING keeps a line lost. -/
theorem LineLost.epilogue {n : LineNo} {s : State} (h : LineLost n s) (hr : s.running = true) :
    LineLost n (epilogue s) := by
  have state := ((epilogue_onlyClips hr).line n).1
  have loop := epilogue_running_classifier hr n
  refine ⟨?_, fun k => ?_⟩
  · rw [LineCtx.atRest, state]
    exact h.atRest
  · rw [loop]
    exact h.waiting (state ▸ k)

/-- R4: a reference frame in hand in RUNNING stays there while events are due, else its silent frame is sent. -/
theorem epilogue_reference {s : State} (hr : s.running = true) (inHand : s.slotPath.frameInHand = some .reference) :
    (epilogue s).slotPath.trunkLeaving = s.slotPath.trunkLeaving ∧
      ((epilogue s).slotPath.frameInHand ≠ none → (epilogue s).slotPath.trunkOut = s.slotPath.trunkOut) ∧
      ((epilogue s).slotPath.frameInHand = none →
        (epilogue s).slotPath.trunkOut = s.slotPath.trunkOut ++ [silentFrame]) := by
  have served : (portServe s).running = true := by simpa using hr
  have inHand' : (portServe s).slotPath.frameInHand = some .reference := by simpa using inHand
  rw [epilogue_of_running hr]
  rcases concludeIfQuiet_or (portServe s) with e | e
  · rw [e, inHand']
    exact ⟨by simp, fun _ => by simp, fun k => nomatch k⟩
  · rw [e, conclude_reference inHand', served]
    exact ⟨by simp, fun k => absurd rfl k, fun _ => by simp⟩

/-- R14: the loss of the return highway. -/
theorem returnWatchExpires_present {s : State} (h : s.slotPath.retHw.present = true) :
    returnWatchExpires s = updateFlags (Table.replicate _ false) (Table.replicate _ false)
      (raise .returnHighway (s.modSlotPath fun p => { p with retHw := p.retHw.lose })) := by
  unfold returnWatchExpires
  rw [if_pos h]
  rfl

/-- Settles O35. -/
theorem frameWatchExpiry : Obligations.FrameWatchExpiry := by
  refine fun s => ⟨fun present => ?_, fun lost => ?_, fun present => ?_, fun lost => ?_⟩
  · refine ⟨_, rfl, ?_⟩
    rw [returnWatchExpires_present present, updateFlags_slotPath, raise_slotPath]
    refine ⟨rfl, rfl, ?_, rfl, rfl, fun n => ⟨Table.get_replicate _ n, Table.get_replicate _ n⟩⟩
    simpa using raise_raised .returnHighway (s.modSlotPath fun p => { p with retHw := p.retHw.lose })
  · have starved : returnWatchExpires s = s.modSlotPath fun p => { p with retHw := p.retHw.starve } := by
      unfold returnWatchExpires
      rw [if_neg (by simp [lost])]
    refine ⟨_, rfl, ?_⟩
    rw [starved]
    exact ⟨lost, rfl, rfl, rfl, rfl⟩
  · have moment := MomentKept.enterMoment s
    have mPresent : (enterMoment s).slotPath.lineHw.present = true := by
      rw [(enterMoment_highwaysKept s).lineHw]
      exact present
    have control := lineWatchExpires_control mPresent
    have running : s.running = true → (lineWatchExpires (enterMoment s)).running = true := fun hr => by
      rw [State.running_def, control, raise_part]
      exact moment.running hr
    have lineHw : (epilogue (lineWatchExpires (enterMoment s))).slotPath.lineHw = Watch.lose s.slotPath.lineHw := by
      rw [(epilogue_highwaysKept _).lineHw, lineWatchExpires_lineHw mPresent]
      rfl
    refine ⟨_, exec_frameWatchExpiry_line s, by rw [lineHw]; rfl, by rw [lineHw]; rfl, ?_, fun enabled => ?_,
      fun hr n => ?_, fun hr quiet done => ?_⟩
    · simpa using moment.settings
    · have on : s.control.attentionMask.getLsbD Cause.lineHighway.code = true := enabled
      have flag := raise_raised .lineHighway (enterMoment s)
      rw [Raised, moment.mask, if_pos on] at flag
      rw [epilogue_attention, control, flag]
      exact Table.get_set_self _ _ _
    · have lost := (lineWatchExpires_lost mPresent (moment.running hr) n).epilogue (running hr)
      exact ⟨lost.atRest, lost.waiting⟩
    · obtain ⟨inHand, leaving, out⟩ := lineWatchExpires_frames mPresent (moment.running hr)
      obtain ⟨leaving', held, sent⟩ := epilogue_reference (running hr) inHand
      have m := enterMoment_of_done quiet done
      refine ⟨?_, fun k => ?_, fun k => ⟨silentFrame, ?_, silentFrame_get⟩⟩
      · rw [leaving', leaving, m]; rfl
      · rw [held k, out, m]; rfl
      · rw [sent k, out, m]; rfl
  · have mLost : (enterMoment s).slotPath.lineHw.present = false := by
      rw [(enterMoment_highwaysKept s).lineHw]
      exact lost
    have starved : lineWatchExpires (enterMoment s)
        = (enterMoment s).modSlotPath fun p => { p with lineHw := p.lineHw.starve } := by
      unfold lineWatchExpires
      rw [if_neg (by simp [mLost])]
    refine ⟨_, exec_frameWatchExpiry_line s, ?_⟩
    rw [(epilogue_highwaysKept _).lineHw, starved]
    exact ⟨mLost, rfl⟩

end Sys2Proof.Machine
end

section
/-! The generator pool's reads and its single operations: who holds a generator and who waits, when a line requests one,
grant order, the generator to preempt, a grant, and when grants go on (R112, R114, R115 to R119). -/

namespace Sys2Proof.Machine

/-! ### Who holds a generator and who waits -/

theorem genOf_eq_some_iff {s : State} {n : LineNo} {g : GenNo} :
    genOf s n = some g ↔ (s.gen g).attached = some n ∧ ∀ h < g, (s.gen h).attached ≠ some n := by
  rw [genOf, ← Fin.find?_eq_find?_finRange, Fin.find?_eq_some_iff]
  simp

theorem genOf_eq_none_iff {s : State} {n : LineNo} : genOf s n = none ↔ ∀ g, (s.gen g).attached ≠ some n := by
  rw [genOf, ← Fin.find?_eq_find?_finRange, Fin.find?_eq_none_iff]
  simp

theorem State.serves.genOf {s : State} {g : GenNo} {n : LineNo} (h : s.serves g n) : genOf s n = some g :=
  genOf_eq_some_iff.2 ⟨h.1, fun k hk e => absurd (h.2 k e) (Fin.ne_of_lt hk)⟩

theorem isWaiting_eq_false_iff {s : State} {n : LineNo} :
    isWaiting s n = false ↔ ∀ e ∈ s.pool.waitList, e.line ≠ n := by
  simp [isWaiting, waitEntry]

theorem firstFree_eq_some_iff {s : State} {g : GenNo} :
    firstFree s = some g ↔ (s.gen g).state = .free ∧ ∀ h < g, (s.gen h).state ≠ .free := by
  rw [firstFree, ← Fin.find?_eq_find?_finRange, Fin.find?_eq_some_iff]
  simp [isFree]

theorem firstFree_eq_none_iff {s : State} : firstFree s = none ↔ ∀ g, (s.gen g).state ≠ .free := by
  rw [firstFree, ← Fin.find?_eq_find?_finRange, Fin.find?_eq_none_iff]
  simp [isFree]

/-! ### Requests (R112) -/

theorem LineState.mayRequest_iff (x : LineState) :
    x.mayRequest = true ↔ x = .seized ∨ x = .sending ∨ x = .converting := by
  cases x <;> simp [LineState.mayRequest]

theorem permitted_iff {s : State} {n : LineNo} :
    permitted s n = true ↔ s.slotPath.proceed.get n = true ∨ (s.boundProfile n).waitProceed = false := by
  simp [permitted]

theorem requests_iff {s : State} {n : LineNo} :
    requests s n = true ↔ (s.line n).state.mayRequest = true ∧ (s.line n).queue ≠ [] ∧ permitted s n = true ∧
      genOf s n = none ∧ isWaiting s n = false := by
  simp [requests, and_assoc]

section
variable {s : State} {n : LineNo} (h : requests s n = true)
include h

theorem queue_ne_nil_of_requests : (s.line n).queue ≠ [] := by
  obtain ⟨-, queue, -⟩ := requests_iff.1 h
  exact queue

theorem permitted_of_requests : permitted s n = true := by
  obtain ⟨-, -, permit, -⟩ := requests_iff.1 h
  exact permit

theorem genOf_of_requests : genOf s n = none := by
  obtain ⟨-, -, -, none, -⟩ := requests_iff.1 h
  exact none

theorem isWaiting_of_requests : isWaiting s n = false := by
  obtain ⟨-, -, -, -, waits⟩ := requests_iff.1 h
  exact waits

end

/-! ### Grant order and eligibility (R114, R117) -/

theorem ServiceClass.rank_lt_iff (x y : ServiceClass) :
    x.rank < y.rank ↔ (x = .a ∧ y ≠ .a) ∨ (x = .b ∧ y = .c) := by
  cases x <;> cases y <;> decide

theorem ServiceClass.rank_inj (x y : ServiceClass) : x.rank = y.rank ↔ x = y := by
  cases x <;> cases y <;> decide

theorem WaitEntry.before_iff (a b : WaitEntry) : a.before b = true ↔
    (a.cls = .a ∧ b.cls ≠ .a) ∨ (a.cls = .b ∧ b.cls = .c) ∨
    (a.cls = b.cls ∧ ((a.preempted = true ∧ b.preempted = false) ∨ (a.preempted = b.preempted ∧ a.join < b.join))) := by
  simp [WaitEntry.before, ServiceClass.rank_lt_iff, ServiceClass.rank_inj, or_assoc]

theorem eligible_iff {s : State} {e : WaitEntry} : eligible s e = true ↔ (e.cls = .c → s.pool.reserve < freeCount s) := by
  by_cases h : e.cls = .c <;> simp [eligible, h]

/-! ### The generator to preempt (R119) -/

/-- The lowest generator in HOLD, if any. -/
theorem find_hold_eq_some_iff {s : State} {g : GenNo} :
    ((List.finRange Config.generators).find? fun g => (s.gen g).state == .hold) = some g ↔
      (s.gen g).state = .hold ∧ ∀ h, h < g → (s.gen h).state ≠ .hold := by
  rw [← Fin.find?_eq_find?_finRange, Fin.find?_eq_some_iff]
  simp

/-- The lowest generator in ON or GAP that serves class C, if any. -/
theorem find_preemptable_eq_some_iff {s : State} {g : GenNo} :
    ((List.finRange Config.generators).find? fun g =>
        ((s.gen g).state == .on || (s.gen g).state == .gap) && (s.gen g).served == some .c) = some g ↔
      s.preemptable g ∧ ∀ h, h < g → ¬ s.preemptable h := by
  rw [← Fin.find?_eq_find?_finRange, Fin.find?_eq_some_iff]
  simp [State.preemptable]

theorem victim_eq_some_iff {s : State} {g : GenNo} : victim s = some g ↔
    ((s.gen g).state = .hold ∧ ∀ h, h < g → (s.gen h).state ≠ .hold) ∨
    ((∀ h, (s.gen h).state ≠ .hold) ∧ s.preemptable g ∧ ∀ h, h < g → ¬ s.preemptable h) := by
  unfold victim
  split
  · next k hk =>
    obtain ⟨hold, lowest⟩ := find_hold_eq_some_iff.1 hk
    refine ⟨fun e => .inl ?_, fun e => ?_⟩
    · cases e
      exact ⟨hold, lowest⟩
    · rcases e with e | ⟨none, -⟩
      · rw [← hk]
        exact find_hold_eq_some_iff.2 e
      · exact absurd hold (none k)
  · next none =>
    have noHold : ∀ h, (s.gen h).state ≠ .hold := by
      rw [← Fin.find?_eq_find?_finRange, Fin.find?_eq_none_iff] at none
      simpa using none
    rw [find_preemptable_eq_some_iff]
    refine ⟨fun e => .inr ⟨noHold, e⟩, fun e => ?_⟩
    rcases e with ⟨hold, -⟩ | ⟨-, e⟩
    · exact absurd hold (noHold g)
    · exact e

/-! ### A grant (R118) -/

/-- What a generator's entry into ON leaves: only the generator, its voice and its own line's context change. -/
theorem enterOn_others (g : GenNo) (s : State) :
    ((enterOn g s).gen g).attached = (s.gen g).attached ∧ (∀ h, h ≠ g → (enterOn g s).gen h = s.gen h) ∧
      (enterOn g s).pool.waitList = s.pool.waitList ∧
      ∀ m, (s.gen g).attached ≠ some m → (enterOn g s).line m = s.line m := by
  unfold enterOn
  split
  · exact ⟨rfl, fun _ _ => rfl, rfl, fun _ _ => rfl⟩
  · next n hn =>
    split
    · exact ⟨rfl, fun _ _ => rfl, rfl, fun _ _ => rfl⟩
    · refine ⟨by simp, fun h hg => ?_, rfl, fun m hm => ?_⟩
      · simp only [State.gen_def, State.modLine_pool, State.modVoice_pool, State.modGen_pool]
        exact Table.get_set_ne _ _ hg.symm
      · rw [hn] at hm
        simp only [State.line_def, State.modLine_lines, State.modVoice_lines, State.modGen_lines]
        exact Table.get_set_ne _ _ fun e => hm (e ▸ rfl)

theorem leaveWait_line (n : LineNo) (s : State) :
    (leaveWait n s).line n = (s.line n).stopTimer .generatorWait ∧ ∀ m, m ≠ n → (leaveWait n s).line m = s.line m := by
  refine ⟨by simp [leaveWait], fun m hm => ?_⟩
  simp [leaveWait, Table.get_set_ne _ _ hm.symm]

/-- R118: a grant takes the line's claim from the list, attaches the generator, and reaches no other generator and no
other line. -/
theorem grant_others (g : GenNo) (e : WaitEntry) (s : State) :
    ((grant g e s).gen g).attached = some e.line ∧ (∀ h, h ≠ g → (grant g e s).gen h = s.gen h) ∧
      (grant g e s).pool.waitList = s.pool.waitList.filter (fun x => x.line != e.line) ∧
      ∀ m, m ≠ e.line → (grant g e s).line m = s.line m := by
  obtain ⟨attached, gens, waits, lines⟩ := enterOn_others g ((leaveWait e.line s).modGen g fun x =>
    { x with attached := some e.line, served := some e.cls, clip := false })
  have own : (((leaveWait e.line s).modGen g fun x =>
      { x with attached := some e.line, served := some e.cls, clip := false }).gen g).attached = some e.line := by simp
  refine ⟨attached.trans own, fun h hg => (gens h hg).trans ?_, waits, fun m hm => (lines m ?_).trans ?_⟩
  · simp only [State.gen_def, State.modGen_pool, Table.get_set_ne _ _ hg.symm]
    rfl
  · rw [own]
    exact fun k => hm (by injection k with k; exact k.symm)
  · exact (leaveWait_line e.line s).2 m hm

theorem grant_gen_of_ne {g h : GenNo} (hg : h ≠ g) (e : WaitEntry) (s : State) : (grant g e s).gen h = s.gen h := by
  obtain ⟨-, gens, -, -⟩ := grant_others g e s
  exact gens h hg

theorem grant_waitList (g : GenNo) (e : WaitEntry) (s : State) :
    (grant g e s).pool.waitList = s.pool.waitList.filter (fun x => x.line != e.line) := by
  obtain ⟨-, -, waits, -⟩ := grant_others g e s
  exact waits

theorem grant_line_of_ne (g : GenNo) {e : WaitEntry} {m : LineNo} (hm : m ≠ e.line) (s : State) :
    (grant g e s).line m = s.line m := by
  obtain ⟨-, -, -, lines⟩ := grant_others g e s
  exact lines m hm

/-- R118, R123: the context of the line a generator is granted to. -/
theorem grant_line (g : GenNo) (e : WaitEntry) (s : State) {q : QueueEntry} {rest : List QueueEntry}
    (hq : (s.line e.line).queue = q :: rest) :
    (grant g e s).line e.line
      = { (s.line e.line).stopTimer .generatorWait with queue := { q with begun := true } :: rest } := by
  have waited := (leaveWait_line e.line s).1
  have queued : ((leaveWait e.line s).line e.line).queue = q :: rest := by rw [waited]; exact hq
  have own : (((leaveWait e.line s).modGen g fun x =>
      { x with attached := some e.line, served := some e.cls, clip := false }).gen g).attached = some e.line := by simp
  unfold grant enterOn
  rw [own]
  simp only [State.line_def, State.modGen_lines] at queued ⊢
  simp only [queued, State.modLine_lines, State.modVoice_lines, State.modGen_lines, Table.get_set_self]
  rw [← State.line_def, waited]
  rfl

/-- R118, R123: a generator granted to a line with symbols queued plays the head of its queue. -/
theorem grant_granted (g : GenNo) (e : WaitEntry) (s : State) (hq : (s.line e.line).queue ≠ []) :
    Granted s (grant g e s) g e.line e.cls := by
  have own := (grant_pool g e s hq).1 g
  rw [if_pos rfl] at own
  obtain ⟨q, rest, hq⟩ := List.exists_cons_of_ne_nil hq
  refine ⟨?_, ?_, ?_, ?_, ?_, fun h hg => grant_gen_of_ne hg e s, q, rest, hq, by rw [grant_line g e s hq]⟩ <;>
    rw [State.gen_def, own]

/-! ### When grants go on (R116) -/

theorem arbitrate_grant {s : State} {g : GenNo} {e : WaitEntry} (hg : firstFree s = some g)
    (he : s.pool.waitList.find? (eligible s) = some e) (k : Nat) : arbitrate (k + 1) s = arbitrate k (grant g e s) := by
  rw [arbitrate, hg, he]

theorem arbitrate_idle {s : State} (h : firstFree s = none ∨ ∀ e ∈ s.pool.waitList, eligible s e = false) (k : Nat) :
    arbitrate k s = s := by
  cases k with
  | zero => rfl
  | succ k =>
    rw [arbitrate]
    split
    · next hg he =>
      rcases h with none | none
      · rw [none] at hg; cases hg
      · exact absurd (List.find?_some he) (by simp [none _ (List.mem_of_find?_eq_some he)])
    · rfl

end Sys2Proof.Machine
end

section
/-! A cut by PROCEED, and what a request comes to where no other line waits (O34: R3, R112, R116 to R120, R124). -/

namespace Sys2Proof.Machine

/-! ### Lines the pool spares -/

theorem genOf_congr {n : LineNo} {s t : State} (h : ∀ g, (t.gen g).attached = some n ↔ (s.gen g).attached = some n) :
    genOf t n = genOf s n := by
  have same : ∀ g, ((t.gen g).attached == some n) = ((s.gen g).attached == some n) := fun g => by
    rw [Bool.eq_iff_iff, beq_iff_eq, beq_iff_eq]
    exact h g
  simp only [genOf, same]

/-- The line waits for no generator, and none attached to it is FREE: the arbiter has nothing to give it or take. -/
structure Spared (n : LineNo) (s : State) : Prop where
  waits : ∀ e ∈ s.pool.waitList, e.line ≠ n
  held : ∀ g, (s.gen g).attached = some n → (s.gen g).state ≠ .free

/-- `t` has the line's context and its generators as in `s`, the line is spared, and no claim has joined the list. -/
structure Spares (n : LineNo) (s t : State) : Prop where
  spared : Spared n t
  line : t.line n = s.line n
  gens : ∀ g, (t.gen g).attached = some n ↔ (s.gen g).attached = some n
  claims : ∀ e ∈ t.pool.waitList, e ∈ s.pool.waitList

namespace Spares

theorem refl {n : LineNo} {s : State} (h : Spared n s) : Spares n s s := ⟨h, rfl, fun _ => .rfl, fun _ => id⟩

theorem trans {n : LineNo} {s t u : State} (h : Spares n s t) (k : Spares n t u) : Spares n s u :=
  ⟨k.spared, k.line.trans h.line, fun g => (k.gens g).trans (h.gens g), fun e he => h.claims e (k.claims e he)⟩

end Spares

theorem Spared.grant {n : LineNo} {s : State} (h : Spared n s) {g : GenNo} {e : WaitEntry}
    (hg : firstFree s = some g) (he : e ∈ s.pool.waitList) : Spares n s (grant g e s) := by
  obtain ⟨own, gens, waits, lines⟩ := grant_others g e s
  have free := (firstFree_eq_some_iff.1 hg).1
  have notN := h.waits e he
  have same : ∀ k, ((Machine.grant g e s).gen k).attached = some n ↔ (s.gen k).attached = some n := fun k => by
    by_cases hk : k = g
    · subst hk
      rw [own]
      exact ⟨fun x => absurd (by injection x) notN, fun x => absurd free (h.held k x)⟩
    · rw [gens k hk]
  have subset : ∀ x ∈ (Machine.grant g e s).pool.waitList, x ∈ s.pool.waitList := fun x hx => by
    rw [waits] at hx
    exact (List.mem_filter.1 hx).1
  refine ⟨⟨fun x hx => h.waits x (subset x hx), fun k hk => ?_⟩, lines n notN.symm, same, subset⟩
  by_cases e' : k = g
  · subst e'
    rw [own] at hk
    exact absurd (by injection hk) notN
  · rw [gens k e'] at hk ⊢
    exact h.held k hk

theorem Spared.arbitrate {n : LineNo} {s : State} (h : Spared n s) (k : Nat) : Spares n s (arbitrate k s) := by
  induction k generalizing s with
  | zero => exact .refl h
  | succ k ih =>
    rw [Machine.arbitrate]
    split
    · next g e hg he =>
      have a := h.grant hg (List.mem_of_find?_eq_some he)
      exact a.trans (ih a.spared)
    · exact .refl h

/-- R119: with no class A claim no generator is preempted. -/
theorem preemptAll_idle {s : State} (h : ∀ e ∈ s.pool.waitList, e.cls ≠ .a) (k : Nat) : preemptAll k s = s := by
  cases k with
  | zero => rfl
  | succ k =>
    rw [preemptAll, if_neg]
    simpa using fun e he k => absurd k (h e he)

theorem poolRun_of_running {s : State} (h : s.running = true) :
    poolRun s = preemptAll Config.generators (arbitrate Config.generators s) := by
  unfold poolRun
  rw [if_pos h]

theorem Spared.poolRun {n : LineNo} {s : State} (h : Spared n s) (hr : s.running = true)
    (calm : ∀ e ∈ s.pool.waitList, e.cls ≠ .a) : Spares n s (poolRun s) := by
  have a := h.arbitrate Config.generators
  rw [poolRun_of_running hr, preemptAll_idle fun e he => calm e (a.claims e he)]
  exact a

/-! ### The checks after an event -/

theorem wakeHold_of_no_hold {n : LineNo} {s : State} (h : ∀ g, genOf s n = some g → (s.gen g).state ≠ .hold) :
    wakeHold n s = s := by
  unfold wakeHold
  split
  · next g hg => rw [if_neg fun k => h g hg k.1]
  · rfl

theorem withdrawIfNot_of_not_waiting {n : LineNo} {s : State} (h : isWaiting s n = false) : withdrawIfNot n s = s := by
  unfold withdrawIfNot
  rw [h]
  rfl

theorem raiseRequest_of_none {n : LineNo} {s : State} (h : requests s n = false) : raiseRequest n s = s := by
  unfold raiseRequest
  rw [h]
  rfl

/-- R76: the proceed timer of the line is all that its watch may change. -/
theorem watchProceed_eq (n : LineNo) (s : State) :
    ∃ t, watchProceed n s = s.modLine n fun c => c.setTimer .proceed t := by
  unfold watchProceed
  split
  · split
    · refine ⟨(s.line n).timer .proceed, ?_⟩
      have same : (s.line n).setTimer .proceed ((s.line n).timer .proceed) = s.line n := by
        simp only [LineCtx.setTimer, LineCtx.timer, Table.set_get_self]
      simp only [State.modLine, State.line_def] at same ⊢
      rw [same, Table.set_get_self]
    · exact ⟨_, rfl⟩
  · exact ⟨_, rfl⟩

/-- R112: the checks after an event on a line that neither wakes a generator, waits nor requests. -/
theorem afterEvent_of_no_request {n : LineNo} {s : State} (hr : s.running = true)
    (wake : ∀ g, genOf s n = some g → (s.gen g).state ≠ .hold) (waits : isWaiting s n = false)
    (request : requests s n = false) :
    ∃ t, afterEvent n s = poolRun (s.modLine n fun c => c.setTimer .proceed t) := by
  obtain ⟨t, ht⟩ := watchProceed_eq n s
  refine ⟨t, ?_⟩
  unfold afterEvent
  rw [if_pos hr, wakeHold_of_no_hold wake, withdrawIfNot_of_not_waiting waits, raiseRequest_of_none request, ht]

/-- Such checks leave the line's generators, and its context but for the proceed timer. -/
theorem afterEvent_spares {n : LineNo} {s : State} (hr : s.running = true)
    (wake : ∀ g, genOf s n = some g → (s.gen g).state ≠ .hold) (request : requests s n = false) (h : Spared n s)
    (calm : ∀ e ∈ s.pool.waitList, e.cls ≠ .a) :
    (∀ g, ((afterEvent n s).gen g).attached = some n ↔ (s.gen g).attached = some n) ∧
      ∃ t, (afterEvent n s).line n = (s.line n).setTimer .proceed t := by
  obtain ⟨t, ht⟩ := afterEvent_of_no_request hr wake (isWaiting_eq_false_iff.2 h.waits) request
  have k : Spared n (s.modLine n fun c => c.setTimer .proceed t) := ⟨h.waits, h.held⟩
  have spares := k.poolRun hr calm
  rw [ht]
  exact ⟨spares.gens, t, by rw [spares.line]; simp⟩

/-! ### A cut by PROCEED (R124) -/

theorem State.noEmergency_iff {s : State} : s.noEmergency = true ↔ ∀ e ∈ s.pool.waitList, e.cls ≠ .a := by
  simp [State.noEmergency]

theorem LineCtx.mapDraft_bound (f : Draft → Draft) (c : LineCtx) : (c.mapDraft f).bound = c.bound := by
  unfold LineCtx.mapDraft
  split <;> rfl

/-- R124: a tone in ON is cut: the generator is released, and the draft counts the loss. -/
theorem cutByProceed_of_on {n : LineNo} {g : GenNo} {s : State} (h : s.serves g n) (on : (s.gen g).state = .on) :
    cutByProceed n s = releaseGen g (inDraft n Draft.countProceedLoss s) := by
  unfold cutByProceed
  rw [h.genOf]
  exact if_pos on

section
variable {n : LineNo} {g : GenNo} {s : State} (hr : s.running = true) (clear : s.slotPath.proceed.get n = false)
  (h : s.serves g n) (on : (s.gen g).state = .on) (calm : s.noEmergency = true) (waits : isWaiting s n = false)
include hr clear h on calm waits

/-- R124: a clearing of PROCEED on a line that waits for PROCEED. -/
theorem proceedChanged_cuts (wp : (s.boundProfile n).waitProceed = true) :
    genOf (proceedChanged n s) n = none ∧
      ∃ t, (proceedChanged n s).line n = ((s.line n).mapDraft Draft.countProceedLoss).setTimer .proceed t := by
  generalize hc : cutByProceed n s = c
  have cut := hc.symm.trans (cutByProceed_of_on h on)
  have changed : proceedChanged n s = afterEvent n c := by
    unfold proceedChanged
    rw [if_pos hr, if_pos (by simp only [clear, wp]; rfl), hc]
  have cLine : c.line n = (s.line n).mapDraft Draft.countProceedLoss := by
    rw [cut]
    simp [inDraft]
  have none : ∀ k, (c.gen k).attached ≠ some n := fun k => by
    rw [cut]
    simp only [releaseGen, State.gen_def, State.modGen_pool, inDraft, State.modLine_pool, Table.get_set]
    split
    · simp
    · next ne => exact fun e => ne (h.2 k e).symm
  have cWaits : ∀ e ∈ c.pool.waitList, e ∈ s.pool.waitList := fun e he => by
    rw [cut] at he
    exact he
  have cRunning : c.running = true := by rw [← hc]; simpa using hr
  have unpermitted : permitted c n = false := by
    have bound : c.boundProfile n = s.boundProfile n := by
      simp only [State.boundProfile, State.namedProfile, State.setting, cLine, LineCtx.mapDraft_bound]
      rw [cut]
      simp
    have path : c.slotPath = s.slotPath := by rw [← hc]; simp
    simp only [permitted, bound, path, clear, wp]
    rfl
  have request : requests c n = false := by
    rw [← Bool.not_eq_true]
    exact fun k => nomatch unpermitted.symm.trans (permitted_of_requests k)
  have spared : Spared n c := ⟨fun e he => isWaiting_eq_false_iff.1 waits e (cWaits e he), fun k e => absurd e (none k)⟩
  obtain ⟨gens, t, line⟩ := afterEvent_spares cRunning
    (fun k e => absurd (genOf_eq_some_iff.1 e).1 (none k)) request spared
    (fun e he => State.noEmergency_iff.1 calm e (cWaits e he))
  rw [changed]
  exact ⟨genOf_eq_none_iff.2 fun k e => none k ((gens k).1 e), t, by rw [line, cLine]⟩

omit clear in
/-- R124: a clearing of PROCEED on a line that does not wait for PROCEED. -/
theorem proceedChanged_spares (wp : (s.boundProfile n).waitProceed = false) :
    genOf (proceedChanged n s) n = some g ∧ ∃ t, (proceedChanged n s).line n = (s.line n).setTimer .proceed t := by
  have changed : proceedChanged n s = afterEvent n s := by
    unfold proceedChanged
    rw [if_pos hr, if_neg (by simp [wp])]
  have request : requests s n = false := by
    rw [← Bool.not_eq_true]
    exact fun k => nomatch h.genOf.symm.trans (genOf_of_requests k)
  have onOnly : ∀ k, (s.gen k).attached = some n → (s.gen k).state = .on := fun k e => by rw [h.2 k e]; exact on
  obtain ⟨gens, t, line⟩ := afterEvent_spares hr
    (fun k e => by rw [onOnly k (genOf_eq_some_iff.1 e).1]; decide) request
    ⟨isWaiting_eq_false_iff.1 waits, fun k e => by rw [onOnly k e]; decide⟩ (State.noEmergency_iff.1 calm)
  rw [changed]
  exact ⟨(genOf_congr gens).trans h.genOf, t, line⟩

end

end Sys2Proof.Machine
end

section
/-! A request where no other line waits: granted at once, waiting, or served by preemption (O34: R112, R116 to R120). -/

namespace Sys2Proof.Machine

/-! ### Joining the wait list -/

/-- What decides a line's requests, grants and tones, beyond its state: its queue and its bound profile. -/
def SameCall (m : LineNo) (s t : State) : Prop :=
  (t.line m).queue = (s.line m).queue ∧ t.boundProfile m = s.boundProfile m

namespace SameCall

variable {m : LineNo} {s t u : State}

theorem trans (h : SameCall m s t) (k : SameCall m t u) : SameCall m s u := ⟨k.1.trans h.1, k.2.trans h.2⟩

theorem of_line (hs : t.settings = s.settings) (hq : (t.line m).queue = (s.line m).queue)
    (hb : (t.line m).bound = (s.line m).bound) : SameCall m s t := by
  refine ⟨hq, ?_⟩
  simp only [State.boundProfile, State.namedProfile, State.setting, hs, hb]

theorem of_lines (hs : t.settings = s.settings) (hl : t.line m = s.line m) : SameCall m s t :=
  of_line hs (by rw [hl]) (by rw [hl])

/-- No timer is part of it. -/
theorem setTimer (n : LineNo) (k : TimerKind) (x : Timer) (s : State) :
    SameCall m s (s.modLine n fun c => c.setTimer k x) := by
  by_cases e : n = m
  · subst e
    exact of_line rfl (by simp [LineCtx.setTimer]) (by simp [LineCtx.setTimer])
  · exact of_lines rfl (by simp [Table.get_set_ne _ _ e])

theorem startGeneratorWait (n : LineNo) (k : ServiceClass) (s : State) : SameCall m s (startGeneratorWait n k s) := by
  unfold Machine.startGeneratorWait
  split
  · exact ⟨rfl, rfl⟩
  · exact setTimer n .generatorWait _ s

theorem joinWait (n : LineNo) (k : ServiceClass) (p : Bool) (s : State) : SameCall m s (joinWait n k p s) :=
  (of_lines rfl rfl : SameCall m s (s.modPool _)).trans (startGeneratorWait n k _)

theorem permitted (h : SameCall m s t) (hp : t.slotPath = s.slotPath) : permitted t m = permitted s m := by
  simp only [Machine.permitted, hp, h.2]

end SameCall

/-- R114: the claim line `n` makes now. -/
def newClaim (s : State) (n : LineNo) (k : ServiceClass) (preempted : Bool) : WaitEntry :=
  { line := n, cls := k, entryTime := s.slotPath.runClock, preempted, join := s.pool.joins }

/-- R112, R113: the claim of a request of line `n`. -/
def requestClaim (s : State) (n : LineNo) : WaitEntry := newClaim s n (requestClass s n) false

theorem joinWait_pool (n : LineNo) (k : ServiceClass) (p : Bool) (s : State) :
    (joinWait n k p s).pool
      = { s.pool with
          waitList := insertWait (newClaim s n k p) s.pool.waitList, joins := s.pool.joins + 1 } := by
  simp [joinWait, newClaim]

/-- R77: a claim of class B or C starts its line's generator-wait timer. -/
theorem joinWait_line (n : LineNo) (k : ServiceClass) (p : Bool) (s : State) :
    (joinWait n k p s).line n
      = if k = .a then s.line n else (s.line n).startTimer .generatorWait (s.boundProfile n).genWaitMs := by
  unfold joinWait startGeneratorWait
  split
  · rfl
  · exact Table.get_set_self _ _ _

theorem joinWait_line_of_ne {n m : LineNo} (h : m ≠ n) (k : ServiceClass) (p : Bool) (s : State) :
    (joinWait n k p s).line m = s.line m := by
  unfold joinWait startGeneratorWait
  split
  · rfl
  · exact Table.get_set_ne _ _ h.symm

/-! ### The claim a request makes -/

/-- `t` is `s` with the one claim of line `n` in its list: the generators and the reserve stand, the other lines too. -/
structure Claimed (n : LineNo) (s t : State) : Prop where
  running : t.running = true
  gens : t.pool.gens = s.pool.gens
  reserve : t.pool.reserve = s.pool.reserve
  joins : t.pool.joins = s.pool.joins + 1
  waitList : t.pool.waitList = [requestClaim s n]
  slotPath : t.slotPath = s.slotPath
  call : ∀ m, SameCall m s t
  others : ∀ m, m ≠ n → t.line m = s.line m
  timer : requestClass s n ≠ .a → (t.line n).timer .generatorWait = .running 0 (s.boundProfile n).genWaitMs

/-- R76: the proceed timer of a line that need not wait for PROCEED stops. -/
theorem watchProceed_of_permitted {n : LineNo} {s : State} (h : permitted s n = true) :
    watchProceed n s = s.modLine n fun c => c.stopTimer .proceed := by
  have unmet : proceedWaits s n = false := by
    rcases permitted_iff.1 h with e | e <;> simp [proceedWaits, e]
  unfold watchProceed
  rw [unmet]
  rfl

theorem joinWait_claimed {n : LineNo} {s : State} (hr : s.running = true) (empty : s.pool.waitList = []) :
    Claimed n s ((joinWait n (requestClass s n) false s).modLine n fun c => c.stopTimer .proceed) := by
  have pool := joinWait_pool n (requestClass s n) false s
  rw [empty] at pool
  refine ⟨by simpa using hr, ?_, ?_, ?_, ?_, by simp, fun m => (SameCall.joinWait n _ _ s).trans (.setTimer n _ _ _),
    fun m hm => ?_, fun hc => ?_⟩
  · rw [State.modLine_pool, pool]
  · rw [State.modLine_pool, pool]
  · rw [State.modLine_pool, pool]
  · rw [State.modLine_pool, pool]
    rfl
  · rw [State.line_def, State.modLine_lines, Table.get_set_ne _ _ hm.symm]
    exact joinWait_line_of_ne hm _ _ s
  · rw [State.line_def, State.modLine_lines, Table.get_set_self, ← State.line_def, joinWait_line, if_neg hc]
    simp [LineCtx.timer, LineCtx.stopTimer, LineCtx.startTimer, LineCtx.setTimer, TimerKind.index, Table.get_set]

/-- R112: a request where no other line waits stands alone in the list for the arbiter. -/
theorem afterEvent_of_request {n : LineNo} {s : State} (hr : s.running = true) (hq : requests s n = true)
    (empty : s.pool.waitList = []) : ∃ t, afterEvent n s = poolRun t ∧ Claimed n s t := by
  have none := genOf_of_requests hq
  have permit : permitted (joinWait n (requestClass s n) false s) n = true :=
    ((SameCall.joinWait n _ _ s).permitted (by simp)).trans (permitted_of_requests hq)
  refine ⟨_, ?_, joinWait_claimed hr empty⟩
  unfold afterEvent raiseRequest
  rw [if_pos hr, wakeHold_of_no_hold (by rw [none]; exact fun _ k => nomatch k),
    withdrawIfNot_of_not_waiting (isWaiting_of_requests hq), if_pos hq, watchProceed_of_permitted permit]

/-! ### The arbiter with one claim -/

section
variable {s t : State} (h : t.pool.gens = s.pool.gens)
include h

theorem gen_congr (g : GenNo) : t.gen g = s.gen g := by simp only [State.gen_def, h]

theorem isFree_congr : isFree t = isFree s := funext fun g => by simp only [isFree, gen_congr h]

theorem firstFree_congr : firstFree t = firstFree s := by simp only [firstFree, isFree_congr h]

theorem freeCount_congr : freeCount t = freeCount s := by simp only [freeCount, isFree_congr h]

theorem victim_congr : victim t = victim s := by simp only [victim, gen_congr h]

end

/-- R118: a grant to a line that called as in `s`, of a generator of a pool that stood as in `s` but for it. -/
theorem Granted.of_same {s t u : State} {g : GenNo} {n : LineNo} {k : ServiceClass} (h : Granted t u g n k)
    (hg : ∀ x, x ≠ g → t.gen x = s.gen x) (hn : SameCall n s t) : Granted s u g n k := by
  obtain ⟨h1, h2, h3, h4, h5, h6, q, rest, hq, h7⟩ := h
  exact ⟨h1, h2, h3, h4, by rw [h5, hn.2], fun x hx => (h6 x hx).trans (hg x hx), q, rest, hn.1 ▸ hq, h7⟩

namespace Claimed

variable {n : LineNo} {s t : State}

theorem queue_ne (h : Claimed n s t) (hq : requests s n = true) : (t.line (requestClaim s n).line).queue ≠ [] := by
  show (t.line n).queue ≠ []
  rw [(h.call n).1]
  exact queue_ne_nil_of_requests hq

/-- R116, R118: the claim is granted where a generator is FREE and the claim eligible. -/
theorem poolRun_grants (h : Claimed n s t) (hq : requests s n = true) {g : GenNo} (hg : firstFree s = some g)
    (eli : requestClass s n = .c → s.pool.reserve < freeCount s) :
    Granted s (poolRun t) g n (requestClass s n) ∧ (poolRun t).pool.waitList = [] := by
  have eligibleNow : eligible t (requestClaim s n) = true := by
    rw [eligible_iff, h.reserve, freeCount_congr h.gens]
    exact eli
  have found : t.pool.waitList.find? (eligible t) = some (requestClaim s n) := by
    rw [h.waitList, List.find?_cons_of_pos eligibleNow]
  have emptied : (grant g (requestClaim s n) t).pool.waitList = [] := by
    rw [grant_waitList, h.waitList]
    simp
  have run : poolRun t = grant g (requestClaim s n) t := by
    rw [poolRun_of_running h.running, arbitrate_grant ((firstFree_congr h.gens).trans hg) found,
      arbitrate_idle (.inr (by simp [emptied])), preemptAll_idle (by simp [emptied])]
  rw [run]
  exact ⟨(grant_granted g (requestClaim s n) t (h.queue_ne hq)).of_same (fun x _ => gen_congr h.gens x) (h.call n), emptied⟩

/-- R116, R117, R119: the claim waits where no generator is FREE for it and none may be preempted for it. -/
theorem poolRun_waits (h : Claimed n s t)
    (hw : (firstFree s = none ∧ requestClass s n ≠ .a) ∨ (requestClass s n = .c ∧ freeCount s ≤ s.pool.reserve) ∨
      (firstFree s = none ∧ victim s = none)) : poolRun t = t := by
  have idle : arbitrate Config.generators t = t := by
    apply arbitrate_idle
    rcases hw with ⟨none, -⟩ | ⟨c, few⟩ | ⟨none, -⟩
    · exact .inl ((firstFree_congr h.gens).trans none)
    · refine .inr fun e he => ?_
      rw [h.waitList, List.mem_singleton] at he
      rw [← Bool.not_eq_true, eligible_iff, h.reserve, freeCount_congr h.gens, he]
      exact fun k => absurd (k c) (by omega)
    · exact .inl ((firstFree_congr h.gens).trans none)
  have calm : requestClass s n ≠ .a → preemptAll Config.generators t = t := fun notA =>
    preemptAll_idle (fun e he => by
      rw [h.waitList, List.mem_singleton] at he
      rw [he]
      exact notA) _
  rw [poolRun_of_running h.running, idle]
  rcases hw with ⟨-, notA⟩ | ⟨c, -⟩ | ⟨none, noVictim⟩
  · exact calm notA
  · exact calm (by rw [c]; decide)
  · show preemptAll (15 + 1) t = t
    rw [preemptAll, (victim_congr h.gens).trans noVictim]
    split <;> rfl

/-- R119: a class A claim with no generator FREE takes the victim's, and the arbiter goes on. -/
theorem poolRun_preempts (h : Claimed n s t) (ha : requestClass s n = .a) (none : firstFree s = none) {g : GenNo}
    (hv : victim s = some g) :
    poolRun t = preemptAll 15 (arbitrate Config.generators (preempt g t)) := by
  have idle : arbitrate Config.generators t = t := arbitrate_idle (.inl ((firstFree_congr h.gens).trans none)) _
  have wanted : ((t.pool.waitList.any fun e => e.cls == .a) && (firstFree t).isNone) = true := by
    rw [h.waitList, firstFree_congr h.gens, none]
    simp [requestClaim, newClaim, ha]
  rw [poolRun_of_running h.running, idle]
  show preemptAll (15 + 1) t = _
  rw [preemptAll, if_pos wanted, (victim_congr h.gens).trans hv]

end Claimed

/-! ### Preemption -/

/-- R116: a class A claim before claims of other classes takes the one FREE generator; then all is done. -/
theorem arbitrate_takes_last {r : State} {g : GenNo} {e : WaitEntry} {rest : List WaitEntry}
    (hg : (r.gen g).state = .free) (others : ∀ x, x ≠ g → (r.gen x).state ≠ .free) (hw : r.pool.waitList = e :: rest)
    (ha : e.cls = .a) (hrest : ∀ x ∈ rest, x.cls ≠ .a ∧ x.line ≠ e.line) (hq : (r.line e.line).queue ≠ []) :
    preemptAll 15 (arbitrate Config.generators r) = grant g e r ∧ (grant g e r).pool.waitList = rest := by
  have waits : (grant g e r).pool.waitList = rest := by
    rw [grant_waitList, hw, List.filter_cons_of_neg (by simp)]
    exact List.filter_eq_self.2 fun x hx => by simpa using (hrest x hx).2
  have first : firstFree r = some g := firstFree_eq_some_iff.2 ⟨hg, fun x hx => others x (Fin.ne_of_lt hx)⟩
  have found : r.pool.waitList.find? (eligible r) = some e := by
    rw [hw, List.find?_cons_of_pos (eligible_iff.2 fun c => by rw [ha] at c; cases c)]
  have taken : firstFree (grant g e r) = none := by
    rw [firstFree_eq_none_iff]
    intro x
    by_cases hx : x = g
    · rw [hx, (grant_granted g e r hq).1]
      decide
    · rw [grant_gen_of_ne hx]
      exact others x hx
  refine ⟨?_, waits⟩
  rw [arbitrate_grant first found, arbitrate_idle (.inl taken), preemptAll_idle]
  rw [waits]
  exact fun x hx => (hrest x hx).1

theorem releaseGen_gens (g : GenNo) (s : State) :
    ((releaseGen g s).gen g).state = .free ∧ ((releaseGen g s).gen g).attached = none ∧
      ∀ x, x ≠ g → (releaseGen g s).gen x = s.gen x := by
  refine ⟨by simp [releaseGen], by simp [releaseGen], fun x hx => ?_⟩
  simp [releaseGen, Table.get_set_ne _ _ hx.symm]

/-- R120: a preempted generator that is not in GAP is released, and its line claims again, marked, if it still calls. -/
theorem preempt_of_not_gap {s : State} {g : GenNo} {m : LineNo} (hm : (s.gen g).attached = some m)
    (noGap : (s.gen g).state ≠ .gap) :
    preempt g s = if requests (releaseGen g s) m then
        joinWait m ((s.gen g).served.getD (requestClass s m)) true (releaseGen g s)
      else releaseGen g s := by
  have released : releaseEarly g m s = releaseGen g s := by
    unfold releaseEarly
    rw [if_neg fun k => noGap k.1]
  unfold preempt
  rw [hm]
  simp only [released]

section
variable {n m : LineNo} {g : GenNo} {s t : State} (h : Claimed n s t) (hq : requests s n = true)
  (ha : requestClass s n = .a) (none : firstFree s = none) (hv : victim s = some g) (serves : s.serves g m)
include h hq ha none hv serves

/-- R119, R120: the generator of a line in HOLD with nothing queued goes to the class A claim. -/
theorem Claimed.poolRun_takes_hold (hold : (s.gen g).state = .hold) (empty : (s.line m).queue = []) :
    Granted s (poolRun t) g n .a ∧ (poolRun t).pool.waitList = [] := by
  have tGen := gen_congr h.gens g
  obtain ⟨free, -, others⟩ := releaseGen_gens g t
  have noRequest : requests (releaseGen g t) m = false := by
    rw [← Bool.not_eq_true]
    exact fun k => queue_ne_nil_of_requests k ((h.call m).1.trans empty)
  have preempted : preempt g t = releaseGen g t := by
    rw [preempt_of_not_gap (by rw [tGen]; exact serves.1) (by rw [tGen, hold]; decide), noRequest]
    rfl
  obtain ⟨run, waits⟩ := arbitrate_takes_last (r := releaseGen g t) (g := g) (rest := []) free
    (fun x hx => by rw [others x hx, gen_congr h.gens]; exact firstFree_eq_none_iff.1 none x) h.waitList ha
    (fun x hx => nomatch hx) (h.queue_ne hq)
  rw [h.poolRun_preempts ha none hv, preempted, run]
  have granted := (grant_granted g (requestClaim s n) (releaseGen g t) (h.queue_ne hq)).of_same (s := s)
    (fun x hx => (others x hx).trans (gen_congr h.gens x)) (h.call n)
  exact ⟨ha ▸ granted, waits⟩

omit hq ha none hv in
/-- R112, R120: a line whose generator is released, that still may call, requests one again. -/
theorem Claimed.released_requests (mn : m ≠ n) (may : (s.line m).state.mayRequest = true)
    (permit : permitted s m = true) (queued : (s.line m).queue ≠ []) : requests (releaseGen g t) m = true := by
  obtain ⟨-, detached, others⟩ := releaseGen_gens g t
  have line : (releaseGen g t).line m = s.line m := h.others m mn
  refine requests_iff.2 ⟨by rw [line]; exact may, by rw [line]; exact queued, ?_, genOf_eq_none_iff.2 fun x e => ?_,
    isWaiting_eq_false_iff.2 fun x hx => ?_⟩
  · exact ((h.call m).permitted h.slotPath).trans permit
  · by_cases hx : x = g
    · rw [hx, detached] at e
      cases e
    · rw [others x hx, gen_congr h.gens] at e
      exact hx (serves.2 x e)
  · have hx : x ∈ t.pool.waitList := hx
    rw [h.waitList, List.mem_singleton] at hx
    rw [hx]
    exact mn.symm

omit hq none in
/-- R120: the line of a tone in ON that is preempted waits again, marked preempted. -/
theorem Claimed.preempt_on (mn : m ≠ n) (on : (s.gen g).state = .on) (may : (s.line m).state.mayRequest = true)
    (permit : permitted s m = true) (queued : (s.line m).queue ≠ []) :
    preempt g t = joinWait m .c true (releaseGen g t) ∧
      (joinWait m .c true (releaseGen g t)).pool.waitList
        = [requestClaim s n,
           { line := m, cls := .c, entryTime := s.slotPath.runClock, preempted := true, join := s.pool.joins + 1 }] := by
  have tGen := gen_congr h.gens g
  have served : (t.gen g).served = some .c := by
    rw [tGen]
    rcases victim_eq_some_iff.1 hv with ⟨hold, -⟩ | ⟨-, ⟨-, served⟩, -⟩
    · rw [on] at hold
      cases hold
    · exact served
  have claim : newClaim (releaseGen g t) m .c true
      = { line := m, cls := .c, entryTime := s.slotPath.runClock, preempted := true, join := s.pool.joins + 1 } := by
    rw [← h.slotPath, ← h.joins]
    rfl
  have later : WaitEntry.before (newClaim (releaseGen g t) m .c true) (requestClaim s n) = false := by
    simp [WaitEntry.before, requestClaim, newClaim, ha, ServiceClass.rank]
  have waits : (releaseGen g t).pool.waitList = [requestClaim s n] := h.waitList
  refine ⟨?_, ?_⟩
  · rw [preempt_of_not_gap (by rw [tGen]; exact serves.1) (by rw [tGen, on]; decide),
      h.released_requests serves mn may permit queued, served]
    rfl
  · simp only [joinWait_pool, waits, insertWait, later, ← claim]
    rfl

/-- R119, R120: the generator of a line in ON at class C goes to the class A claim, and the line waits again, marked
preempted, with its queue kept and its generator-wait timer running. -/
theorem Claimed.poolRun_takes_on (on : (s.gen g).state = .on) (may : (s.line m).state.mayRequest = true)
    (permit : permitted s m = true) (queued : (s.line m).queue ≠ []) :
    Granted s (poolRun t) g n .a ∧ ((poolRun t).line m).queue = (s.line m).queue ∧
      ((poolRun t).line m).timer .generatorWait = .running 0 (s.boundProfile m).genWaitMs ∧
      (poolRun t).pool.waitList
        = [{ line := m, cls := .c, entryTime := s.slotPath.runClock, preempted := true, join := s.pool.joins + 1 }] := by
  have mn : m ≠ n := fun e => genOf_eq_none_iff.1 (genOf_of_requests hq) g (e ▸ serves.1)
  obtain ⟨free, -, others⟩ := releaseGen_gens g t
  obtain ⟨preempted, waits⟩ := h.preempt_on ha hv serves mn on may permit queued
  generalize hj : joinWait m .c true (releaseGen g t) = j at preempted waits
  have gens : j.pool.gens = (releaseGen g t).pool.gens := by rw [← hj, joinWait_pool]
  have call : ∀ x, SameCall x s j := fun x => hj ▸ (h.call x).trans (SameCall.joinWait m .c true (releaseGen g t))
  have notFree : ∀ x, x ≠ g → j.gen x = s.gen x := fun x hx => by
    rw [gen_congr gens, others x hx, gen_congr h.gens]
  have line : j.line m = (t.line m).startTimer .generatorWait (t.boundProfile m).genWaitMs := by
    rw [← hj]
    exact joinWait_line m .c true (releaseGen g t)
  have queue : (j.line n).queue ≠ [] := by
    rw [(call n).1]
    exact queue_ne_nil_of_requests hq
  obtain ⟨run, left⟩ := arbitrate_takes_last (by rw [gen_congr gens]; exact free)
    (fun x hx => by rw [notFree x hx]; exact firstFree_eq_none_iff.1 none x) waits ha
    (fun x hx => by rw [List.mem_singleton.1 hx]; exact ⟨nofun, mn⟩) queue
  have granted := (grant_granted g (requestClaim s n) j queue).of_same notFree (call n)
  rw [h.poolRun_preempts ha none hv, preempted, run]
  refine ⟨ha ▸ granted, ?_, ?_, left⟩
  · rw [grant_line_of_ne g mn]
    exact (call m).1
  · rw [grant_line_of_ne g mn, line, (h.call m).2]
    simp [LineCtx.timer, LineCtx.startTimer, LineCtx.setTimer]

end

/-! ### The obligation -/

/-- Settles O34. -/
theorem proceedClearingCutsTheTone : Obligations.ProceedClearingCutsTheTone := by
  refine ⟨fun n g s hr clear serves on calm waits => ⟨fun wp => ?_, fun wp => ?_⟩, fun n s => ?_,
    WaitEntry.before_iff, fun s e => eligible_iff, fun s g => victim_eq_some_iff, fun g e s hq => ?_,
    fun k s => ⟨fun g e hg he => arbitrate_grant hg he k, fun idle => arbitrate_idle idle k⟩,
    fun n s hr hq empty => ?_⟩
  · obtain ⟨none, t, line⟩ := proceedChanged_cuts hr clear serves on calm waits wp
    rw [line]
    obtain ⟨-, queue, -⟩ := LineCtx.mapDraft_kept Draft.countProceedLoss (s.line n)
    refine ⟨none, queue, fun d hd => ⟨d.countProceedLoss, ?_, rfl, rfl⟩⟩
    exact LineCtx.mapDraft_draft_opened hd
  · obtain ⟨held, t, line⟩ := proceedChanged_spares hr serves on calm waits wp
    rw [line]
    exact ⟨held, rfl⟩
  · rw [requests_iff, LineState.mayRequest_iff, permitted_iff, genOf_eq_none_iff, isWaiting_eq_false_iff]
  · obtain ⟨q, rest, hqr⟩ := List.exists_cons_of_ne_nil hq
    refine ⟨grant_granted g e s hq, fun x => ?_, ?_, fun m hm => grant_line_of_ne g hm s⟩
    · rw [grant_waitList, List.mem_filter, bne_iff_ne]
    · rw [grant_line g e s hqr]
      simp [LineCtx.timer, LineCtx.stopTimer, LineCtx.setTimer]
  · obtain ⟨t, run, h⟩ := afterEvent_of_request hr hq empty
    rw [run]
    refine ⟨fun g hg eli => h.poolRun_grants hq hg eli, fun hw => ?_, fun g m ha none hv serves =>
      ⟨h.poolRun_takes_hold hq ha none hv serves, h.poolRun_takes_on hq ha none hv serves⟩⟩
    rw [h.poolRun_waits hw]
    exact ⟨gen_congr h.gens, (h.call n).1, h.waitList, h.timer⟩

end Sys2Proof.Machine
end

section
/-! Power-on (O19), and the ground of the loop signals: the length bounds of a flag frame, a command whose event is due,
the blocks of the lines that an event does not reach, and what the checks after an event leave of a line's context. -/

namespace Sys2Proof.Machine

/-! ### Power-on -/

theorem firstPending_powerOn (s : State) : firstPending (powerOn s).control = none := by
  simp [firstPending, powerOn, State.reset, Control.powerOn]

/-- Settles O19: power-on leaves `State.reset` but for the queue of commands and the count of free choices (log 25). -/
theorem powerOnState : Obligations.PowerOnState := by
  intro s
  refine ⟨powerOn s, rfl, rfl, rfl, rfl, rfl, rfl, ?_, rfl, fun n => ⟨?_, ?_, ?_, ?_, ?_⟩, fun i => ?_, rfl,
    fun n => ?_, fun b => ?_, rfl, fun g => ?_, rfl, rfl, rfl, rfl, rfl, fun w => ?_, rfl, rfl⟩
  · simp only [readRegister, firstPending_powerOn]
  · exact Table.get_replicate _ n
  · exact Table.get_replicate _ n
  · exact Table.get_replicate _ n
  · exact Table.get_replicate _ n
  · exact Table.get_replicate _ n
  · exact Table.get_replicate _ i
  · exact Table.get_replicate _ n
  · exact Table.get_replicate _ b
  · exact Table.get_replicate _ g
  · exact congrArg Window.pages (Table.get_replicate Window.unused w)

/-! ### Lengths and bounds of a flag frame (R22, R24, R27, R32, R34, R37) -/

section
variable {p : Profile} {c : Classifier}

/-- R34: an open in BREAK becomes a long open. -/
theorem Classifier.boundReached_brk (h : c.pulse = .brk) :
    c.boundReached p false = if 8 * p.breakMax + 8 ≤ c.interval then some .longOpen else none := by
  simp only [boundReached, h]
  rfl

/-- R37: a long open becomes a clear. -/
theorem Classifier.boundReached_longOpen (h : c.pulse = .longOpen) :
    c.boundReached p false = if 8 * p.clearMs ≤ c.interval then some .clear else none := by
  simp only [boundReached, h]
  rfl

/-- R32: a close in MAKE completes a digit. -/
theorem Classifier.boundReached_make (h : c.pulse = .make) :
    c.boundReached p false = if c.idtInUse ≤ c.interval then some .digit else none := by
  simp only [boundReached, h]
  rfl

/-- R27: in IDLE only a seizure can be reached. -/
theorem Classifier.boundReached_idle (ha : c.accepted = true) (hc : c.change = false) :
    c.boundReached p true = if 8 * p.seizeMs ≤ c.seizureCount then some .seizure else none := by
  simp [boundReached, ha, hc]

end

section
variable (p : Profile) (idle closed : Bool) (c : Classifier)

/-- R24: a flag frame lengthens the interval, up to 40000. -/
theorem Classifier.flagFrame_interval : (c.flagFrame p idle closed).interval = min 40000 (c.interval + 1) := rfl

theorem Classifier.flagFrame_pulse : (c.flagFrame p idle closed).pulse = c.pulse := rfl

theorem Classifier.flagFrame_idtInUse : (c.flagFrame p idle closed).idtInUse = c.idtInUse := rfl

theorem Classifier.flagFrame_accepted : (c.flagFrame p idle closed).accepted = c.accepted := rfl

/-- R21: the bound marked is the one reached with the lengths of this frame. -/
theorem Classifier.flagFrame_bound :
    (c.flagFrame p idle closed).bound = (c.flagFrame p idle closed).boundReached p idle := rfl

/-- R34: an open in LONG_OPEN completes no digit. -/
theorem Classifier.flagFrame_bound_ne_digit (h : c.pulse = .longOpen) :
    (c.flagFrame p false closed).bound ≠ some .digit := by
  rw [flagFrame_bound, boundReached_longOpen ((c.flagFrame_pulse p false closed).trans h)]
  split <;> simp

theorem Classifier.flagFrame_bound_longOpen_iff (h : c.pulse = .brk) :
    (c.flagFrame p false closed).bound = some .longOpen ↔
      8 * p.breakMax + 8 ≤ (c.flagFrame p false closed).interval := by
  rw [flagFrame_bound, boundReached_brk ((c.flagFrame_pulse p false closed).trans h)]
  simp

theorem Classifier.flagFrame_bound_clear_iff (h : c.pulse = .longOpen) :
    (c.flagFrame p false closed).bound = some .clear ↔ 8 * p.clearMs ≤ (c.flagFrame p false closed).interval := by
  rw [flagFrame_bound, boundReached_longOpen ((c.flagFrame_pulse p false closed).trans h)]
  simp

theorem Classifier.flagFrame_bound_digit_iff (h : c.pulse = .make) :
    (c.flagFrame p false closed).bound = some .digit ↔ c.idtInUse ≤ (c.flagFrame p false closed).interval := by
  rw [flagFrame_bound, boundReached_make ((c.flagFrame_pulse p false closed).trans h), flagFrame_idtInUse]
  simp

/-- R27: a close in IDLE counts toward the seizure. -/
theorem Classifier.flagFrame_seizureCount (ha : c.accepted = true) (hc : (c.flagFrame p true closed).change = false) :
    (c.flagFrame p true closed).seizureCount = c.seizureCount + 1 := by
  have counts : (true && c.accepted && !(c.flagFrame p true closed).change) = true := by rw [ha, hc]; rfl
  exact if_pos counts

theorem Classifier.flagFrame_bound_seizure_iff (ha : c.accepted = true)
    (hc : (c.flagFrame p true closed).change = false) :
    (c.flagFrame p true closed).bound = some .seizure ↔ 8 * p.seizeMs ≤ c.seizureCount + 1 := by
  rw [flagFrame_bound, boundReached_idle ((c.flagFrame_accepted p true closed).trans ha) hc,
    c.flagFrame_seizureCount p closed ha hc]
  simp

end

/-! ### A command whose event is due -/

theorem whenDue_of_due {e : Due} {s : State} (h : isDue e s = true) (k : State → State) :
    whenDue e k s = epilogue (k s) := by
  rw [whenDue, if_pos h]

section
variable {n : LineNo} {s : State}

theorem exec_loopChangeAccepted_due (h : isDue (.loopChange n) s = true) :
    exec (.loopChangeAccepted n) s = .next (epilogue (acceptChange n s)) :=
  congrArg _ (whenDue_of_due h _)

theorem exec_longOpenEntry_due (h : isDue (.longOpen n) s = true) :
    exec (.longOpenEntry n) s = .next (epilogue (enterLongOpen n s)) :=
  congrArg _ (whenDue_of_due h _)

theorem exec_seizure_due (h : isDue (.seizure n) s = true) :
    exec (.seizure n) s = .next (epilogue (takeSeizure n s)) :=
  congrArg _ (whenDue_of_due h _)

theorem exec_clear_due (h : isDue (.clear n) s = true) :
    exec (.clear n) s = .next (epilogue (declareClear n s)) :=
  congrArg _ (whenDue_of_due h _)

theorem exec_digitComplete_due (h : isDue (.digit n) s = true) :
    exec (.digitComplete n) s = .next (epilogue (completeDigit n s)) :=
  congrArg _ (whenDue_of_due h _)

end

/-! ### Reads after an update of one line's blocks -/

section
variable {n m : LineNo} (s : State)

theorem State.modLine_line (f : LineCtx → LineCtx) : (s.modLine n f).line n = f (s.line n) :=
  Table.get_set_self _ _ _

theorem State.modLine_line_of_ne (f : LineCtx → LineCtx) (h : m ≠ n) : (s.modLine n f).line m = s.line m :=
  Table.get_set_ne _ _ h.symm

theorem State.modClassifier_classifier (f : Classifier → Classifier) :
    (s.modClassifier n f).classifier n = f (s.classifier n) :=
  Table.get_set_self _ _ _

theorem State.modClassifier_classifier_of_ne (f : Classifier → Classifier) (h : m ≠ n) :
    (s.modClassifier n f).classifier m = s.classifier m :=
  Table.get_set_ne _ _ h.symm

theorem State.modEstimator_estimator (f : Estimator → Estimator) :
    (s.modEstimator n f).estimator n = f (s.estimator n) :=
  Table.get_set_self _ _ _

theorem State.modEstimator_estimator_of_ne (f : Estimator → Estimator) (h : m ≠ n) :
    (s.modEstimator n f).estimator m = s.estimator m :=
  Table.get_set_ne _ _ h.symm

end

/-- What an event made of line `n`'s classifier reaches no other line's. -/
theorem OtherLoopsKept.of_modClassifier {n : LineNo} {s u : State} {f : Classifier → Classifier}
    (hc : u.classifiers = (s.modClassifier n f).classifiers) (he : u.estimators = s.estimators) :
    OtherLoopsKept n s u := fun m hm => by
  rw [State.classifier_def, hc, State.estimator_def, he]
  exact ⟨s.modClassifier_classifier_of_ne f hm, rfl⟩

namespace OtherLinesKept

variable {n : LineNo} {s t u : State}

theorem refl (s : State) : OtherLinesKept n s s := fun _ _ => ⟨rfl, rfl, rfl⟩

theorem trans (h : OtherLinesKept n s t) (k : OtherLinesKept n t u) : OtherLinesKept n s u := fun m hm => by
  obtain ⟨h1, h2, h3⟩ := h m hm
  obtain ⟨k1, k2, k3⟩ := k m hm
  exact ⟨k1.trans h1, k2.trans h2, k3.trans h3⟩

theorem modLine (s : State) (f : LineCtx → LineCtx) : OtherLinesKept n s (s.modLine n f) := fun _ hm =>
  ⟨rfl, rfl, s.modLine_line_of_ne f hm⟩

theorem modClassifier (s : State) (f : Classifier → Classifier) : OtherLinesKept n s (s.modClassifier n f) :=
  fun _ hm => ⟨s.modClassifier_classifier_of_ne f hm, rfl, rfl⟩

theorem modEstimator (s : State) (f : Estimator → Estimator) : OtherLinesKept n s (s.modEstimator n f) :=
  fun _ hm => ⟨rfl, s.modEstimator_estimator_of_ne f hm, rfl⟩

theorem loops (h : OtherLinesKept n s t) : OtherLoopsKept n s t := fun m hm => ⟨(h m hm).1, (h m hm).2.1⟩

end OtherLinesKept

/-! ### Timers and drafts of a context -/

section
variable (c : LineCtx)

theorem TimerKind.index_inj {j k : TimerKind} : j.index = k.index ↔ j = k := by
  cases j <;> cases k <;> decide

theorem LineCtx.timer_setTimer (k : TimerKind) (t : Timer) : (c.setTimer k t).timer k = t :=
  Table.get_set_self _ _ _

theorem LineCtx.timer_setTimer_of_ne {j k : TimerKind} (h : j ≠ k) (t : Timer) :
    (c.setTimer k t).timer j = c.timer j :=
  Table.get_set_ne _ _ fun e => h (TimerKind.index_inj.1 e).symm

/-- A draft's change leaves the rest of the context. -/
theorem LineCtx.mapDraft_rest (f : Draft → Draft) : { c.mapDraft f with draft := c.draft } = c := by
  unfold mapDraft
  split <;> rfl

theorem LineCtx.mapDraft_hasDraft (f : Draft → Draft) : (c.mapDraft f).hasDraft = c.hasDraft := by
  cases h : c.draft <;> simp [mapDraft, hasDraft, h]

theorem LineCtx.finished_of_not_sending {c : LineCtx} (h : c.state ≠ .sending) : c.finished = false := by
  simp [finished, h]

end

/-! ### After an event on a line that sends no decided number -/

/-- What the checks after an event leave of the context of a line that is not SENDING. -/
structure ChecksKeep (c d : LineCtx) : Prop extends PoolTouches c d where
  state : d.state = c.state
  draft : d.draft = c.draft
  timer : ∀ k, k ≠ .generatorWait → k ≠ .proceed → d.timer k = c.timer k

theorem afterEvent_keeps {n : LineNo} {s : State} (h : (s.line n).state ≠ .sending) :
    ChecksKeep (s.line n) ((afterEvent n s).line n) := by
  have touched := afterEvent_touches n s n
  obtain ⟨state, -, draft, -, quiet⟩ := touched.unfinished (LineCtx.finished_of_not_sending h)
  refine ⟨touched, state, draft, fun k hg hp => ?_⟩
  by_cases hq : k = .quiet
  · rw [hq]; exact quiet
  · exact touched.timers k hg hp hq

theorem afterEvent_classifier (n m : LineNo) (s : State) : (afterEvent n s).classifier m = s.classifier m := by simp

theorem afterEvent_estimator (n m : LineNo) (s : State) : (afterEvent n s).estimator m = s.estimator m := by simp

theorem ChecksKeep.hasDraft {c d : LineCtx} (h : ChecksKeep c d) : d.hasDraft = c.hasDraft := by
  simp only [LineCtx.hasDraft, h.draft]

end Sys2Proof.Machine
end

section
/-! Accepted changes (O37, O38), the entry into LONG_OPEN (O39) and the seizure (O40). -/

namespace Sys2Proof.Machine

/-! ### An accepted open (R22, R28, R31, R54) -/

/-- R20: on a seized line the classifier uses the windows of the bound profile. -/
theorem windows_of_seizedOn {n : LineNo} {s : State} (h : (s.line n).state.seizedOn = true) :
    s.windows n = s.boundProfile n := by
  unfold State.windows
  rw [if_neg fun e => by rw [e] at h; cases h]

section
variable {n : LineNo} {s : State}

theorem acceptChange_of_open (hs : (s.line n).state.seizedOn = true) (ha : (s.classifier n).accepted = true) :
    acceptChange n s = openAccepted n (s.classifier n).interval (s.modClassifier n Classifier.acceptLevel) := by
  have opened : ((s.modClassifier n Classifier.acceptLevel).classifier n).accepted = false := by
    rw [State.modClassifier_classifier, Classifier.acceptLevel, ha]
    rfl
  unfold acceptChange
  simp only [if_pos hs, opened]
  rfl

theorem acceptChange_of_close (hs : (s.line n).state.seizedOn = true) (ha : (s.classifier n).accepted = false) :
    acceptChange n s = closeAccepted n (s.classifier n).interval (s.modClassifier n Classifier.acceptLevel) := by
  have closed : ((s.modClassifier n Classifier.acceptLevel).classifier n).accepted = true := by
    rw [State.modClassifier_classifier, Classifier.acceptLevel, ha]
    rfl
  unfold acceptChange
  simp only [if_pos hs, closed]
  rfl

theorem acceptChange_of_idle (hs : (s.line n).state = .idle) :
    acceptChange n s = (s.modClassifier n Classifier.acceptLevel).modClassifier n Classifier.acceptIdle := by
  unfold acceptChange
  simp only [hs]
  rfl

end

theorem Classifier.acceptOpen_kept (now : Word) (c : Classifier) :
    (c.acceptOpen now).accepted = c.accepted ∧ (c.acceptOpen now).interval = c.interval ∧
      (c.acceptOpen now).runCount = c.runCount ∧ (c.acceptOpen now).change = c.change := by
  unfold acceptOpen
  split <;> exact ⟨rfl, rfl, rfl, rfl⟩

section
variable (n : LineNo) (len : Nat) (s : State)

theorem openAccepted_classifier :
    (openAccepted n len s).classifier n = (s.classifier n).acceptOpen s.slotPath.runClock := by
  have accepted := s.modClassifier_classifier (n := n) (Classifier.acceptOpen s.slotPath.runClock)
  unfold openAccepted
  dsimp only
  split
  · exact accepted
  · split <;> exact accepted
  · exact accepted
  · exact accepted
  · exact accepted

theorem openAccepted_others : OtherLinesKept n s (openAccepted n len s) := by
  have accepted := OtherLinesKept.modClassifier (n := n) s (Classifier.acceptOpen s.slotPath.runClock)
  unfold openAccepted
  dsimp only
  split
  · exact accepted.trans (.modLine _ _)
  · split
    · exact accepted.trans (.modEstimator _ _)
    · exact accepted
  · exact accepted
  · exact accepted
  · exact accepted

end

section
variable {n : LineNo} {s : State} (len : Nat)

/-- R28, R54: an open from STEADY_CLOSED begins a digit, which is escaped if escape is pending. -/
theorem openAccepted_steadyClosed (h : (s.classifier n).pulse = .steadyClosed) :
    openAccepted n len s = (s.modClassifier n (Classifier.acceptOpen s.slotPath.runClock)).modLine n fun x =>
      { x with escapedDigit := x.escapePending } := by
  unfold openAccepted
  simp only [h]

/-- R31: an open from MAKE continues the digit, with a pair for the estimator after a pulse break. -/
theorem openAccepted_make (h : (s.classifier n).pulse = .make) :
    openAccepted n len s =
      if (s.classifier n).lastBreakPulse then
        (s.modClassifier n (Classifier.acceptOpen s.slotPath.runClock)).modEstimator n
          (Estimator.take (s.boundProfile n) (s.classifier n).lastBreak len)
      else s.modClassifier n (Classifier.acceptOpen s.slotPath.runClock) := by
  unfold openAccepted
  simp only [h]

end

/-- Settles O37. -/
theorem Proofs.openAccepted : Obligations.OpenAccepted := by
  intro n s due seized closed
  have run := acceptChange_of_open seized closed
  generalize hl : s.modClassifier n Classifier.acceptLevel = l at run
  have level : l.classifier n = (s.classifier n).acceptLevel := by
    rw [← hl]; exact s.modClassifier_classifier _
  have others : OtherLinesKept n s (acceptChange n s) := by
    rw [run]
    exact .trans (hl ▸ .modClassifier s _) (openAccepted_others n _ l)
  have classifier : (acceptChange n s).classifier n = (s.classifier n).acceptLevel.acceptOpen s.slotPath.runClock := by
    rw [run, openAccepted_classifier, level, ← hl]
    rfl
  obtain ⟨accepted, interval, runCount, change⟩ :=
    (s.classifier n).acceptLevel.acceptOpen_kept s.slotPath.runClock
  refine ⟨acceptChange n s, exec_loopChangeAccepted_due due, by simp [HostSideKept], others,
    by simp [run, ← hl], by simp [run, ← hl], by simp [run, ← hl], by simp, by simp [run, ← hl], ?_, ?_, ?_, ?_,
    fun pulse => ?_, fun pulse => ?_⟩
  · rw [classifier, accepted, Classifier.acceptLevel, closed]; rfl
  · rw [classifier, interval]; rfl
  · rw [classifier, runCount]; rfl
  · rw [classifier, change]; rfl
  · have atRest : (l.classifier n).pulse = .steadyClosed := by rw [level]; exact pulse
    have begun : (s.classifier n).acceptLevel.acceptOpen s.slotPath.runClock
        = { (s.classifier n).acceptLevel with
            pulse := .brk, firstBreak := some s.slotPath.runClock, pulseCount := 0, corrupt := false } := by
      simp only [Classifier.acceptOpen, Classifier.acceptLevel, pulse]
    rw [classifier, begun, run, openAccepted_steadyClosed _ atRest, State.modLine_line, ← hl]
    exact ⟨rfl, rfl, rfl, rfl, rfl, rfl, rfl⟩
  · have inMake : (l.classifier n).pulse = .make := by rw [level]; exact pulse
    have continued : (s.classifier n).acceptLevel.acceptOpen s.slotPath.runClock
        = { (s.classifier n).acceptLevel with pulse := .brk } := by
      simp only [Classifier.acceptOpen, Classifier.acceptLevel, pulse]
    have marked : (l.classifier n).lastBreakPulse = (s.classifier n).lastBreakPulse := by rw [level]; rfl
    rw [classifier, continued, run, openAccepted_make _ inMake, marked]
    refine ⟨rfl, rfl, rfl, rfl, ?_, fun paired => ?_, fun short => ?_⟩
    · rw [← hl]; split <;> rfl
    · rw [if_pos paired, State.modEstimator_estimator, level, ← hl]
      rfl
    · rw [short, ← hl]
      rfl

/-! ### The entry into LONG_OPEN (R34) -/

/-- R34: what the entry into LONG_OPEN makes of the classifier. -/
theorem enterLongOpen_classifier (n : LineNo) (s : State) :
    (enterLongOpen n s).classifier n =
      if 0 < (s.classifier n).pulseCount then
        { s.classifier n with
          pulse := .longOpen, pulseCount := 0, corrupt := false, firstBreak := none, dropped := true, bound := none }
      else { s.classifier n with pulse := .longOpen, bound := none } := by
  unfold enterLongOpen
  split
  · exact s.modClassifier_classifier _
  · exact s.modClassifier_classifier fun c => { c with pulse := .longOpen, bound := none }

theorem enterLongOpen_line (n : LineNo) (s : State) :
    (enterLongOpen n s).line n =
      if 0 < (s.classifier n).pulseCount then s.line n else { s.line n with escapedDigit := false } := by
  unfold enterLongOpen
  split
  · rfl
  · exact State.modLine_line _ _

theorem enterLongOpen_others (n : LineNo) (s : State) : OtherLinesKept n s (enterLongOpen n s) := by
  unfold enterLongOpen
  split
  · exact .modClassifier s _
  · exact .trans (.modClassifier s _) (.modLine _ _)

/-- R80: a slot is muted while a pulse is in progress. -/
theorem muted_of_inProgress {n : LineNo} {s : State} (h : (s.classifier n).pulse.inProgress = true) :
    muted s n = true := by
  rw [muted, h]
  rfl

/-- Settles O39. -/
theorem longOpenEntry : Obligations.LongOpenEntry := by
  refine ⟨fun p c pulse => ⟨c.flagFrame_bound_longOpen_iff p false pulse, c.flagFrame_interval p false false⟩,
    fun n s due => ?_,
    fun p c closed pulse => ⟨c.flagFrame_bound_ne_digit p closed pulse, c.flagFrame_interval p false closed⟩⟩
  have classifier := enterLongOpen_classifier n s
  have pulse : ((enterLongOpen n s).classifier n).pulse = .longOpen := by rw [classifier]; split <;> rfl
  refine ⟨enterLongOpen n s, exec_longOpenEntry_due due, by simp [HostSideKept], enterLongOpen_others n s, by simp,
    by simp, by simp, by simp, by simp, pulse, ?_, ?_, by simp, fun digit => ?_, fun none => ?_, ?_,
    muted_of_inProgress (by rw [pulse]; rfl), ?_⟩
  · rw [classifier]; split <;> rfl
  · rw [classifier]; split <;> rfl
  · rw [classifier, if_pos digit]
    exact ⟨rfl, rfl, rfl⟩
  · rw [classifier, if_neg (by omega)]
  · rw [classifier]
    split
    · rfl
    · next none => exact Nat.eq_zero_of_not_pos none
  · rw [enterLongOpen_line]
    split <;> rfl

/-! ### A seizure (R27, R45, R60, R61) -/

/-- R60, R61: the context of a line just seized, before the checks that follow. -/
def LineCtx.seized (p : Profile) (answering : Bool) (c : LineCtx) : LineCtx :=
  let d : LineCtx := { c with bound := some p, seizureId := c.seizureId + 1, draftOpened := false }
  if answering then { d with answered := true, state := .converting }
  else { d.startTimer .firstDigit (1000 * p.firstDigitWait) with state := .seized }

theorem LineCtx.seized_kept (p : Profile) (answering : Bool) (c : LineCtx) :
    (c.seized p answering).bound = some p ∧ (c.seized p answering).seizureId = c.seizureId + 1 ∧
      (c.seized p answering).draftOpened = false ∧ (c.seized p answering).queue = c.queue ∧
      (c.seized p answering).state ≠ .sending := by
  cases answering <;> exact ⟨rfl, rfl, rfl, rfl, nofun⟩

/-- R27, R45, R60: the state in which line `n` has just been seized, before the checks that follow. -/
def seizeLine (n : LineNo) (s : State) : State :=
  ((s.modClassifier n fun c => { c with seizureCount := 0, bound := none }).modEstimator n fun _ =>
    Estimator.load (s.namedProfile n)).modLine n (LineCtx.seized (s.namedProfile n) (s.slotPath.incoming.get n))

section
variable (n : LineNo) (s : State)

theorem takeSeizure_eq : takeSeizure n s = afterEvent n (seizeLine n s) := rfl

theorem seizeLine_line :
    (seizeLine n s).line n = (s.line n).seized (s.namedProfile n) (s.slotPath.incoming.get n) :=
  State.modLine_line _ _

theorem seizeLine_classifier :
    (seizeLine n s).classifier n = { s.classifier n with seizureCount := 0, bound := none } :=
  s.modClassifier_classifier fun c => { c with seizureCount := 0, bound := none }

theorem seizeLine_estimator : (seizeLine n s).estimator n = Estimator.load (s.namedProfile n) :=
  s.modEstimator_estimator fun _ => Estimator.load (s.namedProfile n)

theorem seizeLine_others : OtherLinesKept n s (seizeLine n s) :=
  ((OtherLinesKept.modClassifier s _).trans (.modEstimator _ _)).trans (.modLine _ _)

end

/-- Settles O40. -/
theorem Proofs.seizure : Obligations.Seizure := by
  refine ⟨fun n s due => ?_, fun p c closed closedNow noChange =>
    ⟨c.flagFrame_seizureCount p closed closedNow noChange, c.flagFrame_bound_seizure_iff p closed closedNow noChange⟩⟩
  have line := seizeLine_line n s
  obtain ⟨bound, seizureId, draftOpened, queue, notSending⟩ :=
    (s.line n).seized_kept (s.namedProfile n) (s.slotPath.incoming.get n)
  rw [← line] at bound seizureId draftOpened queue notSending
  have keeps := afterEvent_keeps notSending
  rw [← takeSeizure_eq] at keeps
  refine ⟨takeSeizure n s, exec_seizure_due due, by simp [HostSideKept], fun m hm => ?_, by simp, by simp, ?_, ?_, ?_,
    ?_, keeps.bound.trans bound, keeps.seizureId.trans seizureId, keeps.draftOpened.trans draftOpened,
    keeps.queue.trans (by rw [queue]), fun silent => ?_, fun answering => ?_⟩
  · rw [takeSeizure_eq, afterEvent_classifier, afterEvent_estimator]
    exact (seizeLine_others n s).loops m hm
  · rw [takeSeizure_eq, afterEvent_classifier, seizeLine_classifier]
  · rw [takeSeizure_eq, afterEvent_classifier, seizeLine_classifier]
  · rw [takeSeizure_eq, afterEvent_classifier, seizeLine_classifier]
  · rw [takeSeizure_eq, afterEvent_estimator, seizeLine_estimator]
  · rw [keeps.state, keeps.timer .firstDigit nofun nofun, keeps.answered, line, silent]
    exact ⟨rfl, LineCtx.timer_setTimer _ _ _, rfl⟩
  · rw [keeps.state, keeps.answered, line, answering]
    exact ⟨rfl, rfl⟩

end Sys2Proof.Machine
end

section
/-! Accepted closes: the end of a break, of a dead-band open and of a flash, and a change accepted in IDLE (O38). -/

namespace Sys2Proof.Machine

/-- The profile bound to a line is read from the settings and the line's context alone. -/
theorem State.boundProfile_congr {n : LineNo} {s t : State} (hs : t.settings = s.settings)
    (hb : (t.line n).bound = (s.line n).bound) : t.boundProfile n = s.boundProfile n := by
  simp only [State.boundProfile, State.namedProfile, State.setting, hs, hb]

/-! ### The end of a break (R29, R30, R33, R78) -/

section
variable (p : Profile) (idt : Nat) {b : Nat} (c : Classifier)

/-- R29, R33: a break of at least break_min ms is a pulse break. -/
theorem Classifier.acceptBreak_pulse (h : 8 * p.breakMin ≤ b) :
    c.acceptBreak p idt b = { c with
      pulseCount := min 63 (c.pulseCount + 1), lastBreak := b, lastBreakPulse := true, pulse := .make,
      idtInUse := idt } := by
  unfold acceptBreak
  exact if_pos (decide_eq_true h)

/-- R30: a shorter break counts and marks the digit corrupt. -/
theorem Classifier.acceptBreak_short (h : b < 8 * p.breakMin) :
    c.acceptBreak p idt b = { c with
      pulseCount := min 63 (c.pulseCount + 1), corrupt := true, lastBreakPulse := false, pulse := .make,
      idtInUse := idt } := by
  unfold acceptBreak
  exact if_neg (by simpa [isAtLeast] using h)

/-- R29, R30: what the two kinds of break have in common. -/
theorem Classifier.acceptBreak_both (b : Nat) :
    (c.acceptBreak p idt b).accepted = c.accepted ∧ (c.acceptBreak p idt b).interval = c.interval ∧
      (c.acceptBreak p idt b).pulse = .make ∧ (c.acceptBreak p idt b).pulseCount = min 63 (c.pulseCount + 1) ∧
      (c.acceptBreak p idt b).idtInUse = idt ∧ (c.acceptBreak p idt b).firstBreak = c.firstBreak := by
  unfold acceptBreak
  dsimp only
  split <;> exact ⟨rfl, rfl, rfl, rfl, rfl, rfl⟩

end

section
variable (n : LineNo) (s : State)

/-- R78: a close notice starts the mute tail, if it has a length. -/
theorem closeNotice_line :
    (closeNotice n s).line n =
      if (s.boundProfile n).muteTailMs = 0 then s.line n
      else (s.line n).startTimer .muteTail (s.boundProfile n).muteTailMs := by
  unfold closeNotice
  split
  · rfl
  · exact s.modLine_line _

theorem closeNotice_others : OtherLinesKept n s (closeNotice n s) := by
  unfold closeNotice
  split
  · exact .refl s
  · exact .modLine s _

/-- A close notice reaches nothing of the context but the mute tail. -/
theorem closeNotice_kept :
    { (closeNotice n s).line n with timers := (s.line n).timers } = s.line n := by
  rw [closeNotice_line]
  split <;> rfl

end

section
variable {n : LineNo} {s : State} (len : Nat)

theorem closeAccepted_brk (h : (s.classifier n).pulse = .brk) :
    closeAccepted n len s
      = closeNotice n (s.modClassifier n (Classifier.acceptBreak (s.windows n) (s.estimator n).idt len)) := by
  unfold closeAccepted
  simp only [h]

theorem closeAccepted_longOpen (h : (s.classifier n).pulse = .longOpen) :
    closeAccepted n len s = longOpenClosed n len s := by
  unfold closeAccepted
  simp only [h]

end

/-! ### The end of a long open (R35, R36, R39) -/

/-- R35, R36, R39: a long open has ended, and the close notice is given. -/
def longOpenEnded (n : LineNo) (s : State) : State :=
  closeNotice n (s.modClassifier n fun c => { c with pulse := .steadyClosed, dropped := false })

section
variable (n : LineNo) (s : State)

theorem longOpenEnded_others : OtherLinesKept n s (longOpenEnded n s) :=
  (OtherLinesKept.modClassifier s _).trans (closeNotice_others n _)

/-- The context keeps all but its mute tail. -/
theorem longOpenEnded_kept : { (longOpenEnded n s).line n with timers := (s.line n).timers } = s.line n :=
  closeNotice_kept n _

theorem longOpenEnded_boundProfile : (longOpenEnded n s).boundProfile n = s.boundProfile n :=
  State.boundProfile_congr (by simp [longOpenEnded]) (congrArg LineCtx.bound (longOpenEnded_kept n s) :)

/-- R35, R36: the classifiers after the end of a long open. -/
theorem longOpenClosed_classifiers (b : Nat) :
    (longOpenClosed n b s).classifiers
      = (s.modClassifier n fun c => { c with pulse := .steadyClosed, dropped := false }).classifiers := by
  unfold longOpenClosed
  dsimp only
  split
  · split <;> simp
  · simp

end

section
variable {n : LineNo} {s : State} {b : Nat} (seized : (s.line n).state.seizedOn = true)
include seized

/-- R35: a dead-band open. -/
theorem longOpenClosed_deadBand
    (h : b < 8 * (s.boundProfile n).flashMin ∨ 8 * (s.boundProfile n).flashMax + 7 < b) :
    longOpenClosed n b s = takeRejectOpen n (longOpenEnded n s) := by
  have outside : (isAtLeast b (s.boundProfile n).flashMin && isAtMost b (s.boundProfile n).flashMax) = false := by
    simp [isAtLeast, isAtMost]
    omega
  unfold longOpenClosed
  simp only [windows_of_seizedOn seized, outside]
  rfl

/-- R36: a flash with no digit dropped before it. -/
theorem longOpenClosed_flash (low : 8 * (s.boundProfile n).flashMin ≤ b)
    (high : b ≤ 8 * (s.boundProfile n).flashMax + 7) (none : (s.classifier n).dropped = false) :
    longOpenClosed n b s = takeFlash n (longOpenEnded n s) := by
  have within : (isAtLeast b (s.boundProfile n).flashMin && isAtMost b (s.boundProfile n).flashMax) = true := by
    simp [isAtLeast, isAtMost, low, high]
  unfold longOpenClosed
  simp only [windows_of_seizedOn seized, within, none]
  rfl

end

/-! ### REJECT_OPEN (R35, R55) -/

/-- R54, R55: escape pending ended in a context, with its timer. -/
def LineCtx.endEscape (c : LineCtx) : LineCtx :=
  { c.stopTimer .escape with escapePending := false, escapedDigit := false }

theorem endEscape_eq (n : LineNo) (s : State) : endEscape n s = s.modLine n LineCtx.endEscape := rfl

section
variable (n : LineNo) (s : State)

theorem inDraft_line (f : Draft → Draft) : (inDraft n f s).line n = (s.line n).mapDraft f := s.modLine_line _

theorem takeRejectOpen_others : OtherLinesKept n s (takeRejectOpen n s) := by
  have recorded : OtherLinesKept n s (inDraft n (Draft.record .rejectOpen) s) := .modLine s _
  unfold takeRejectOpen
  dsimp only
  split
  · exact recorded.trans (.modLine _ _)
  · exact recorded

/-- R35, R55: REJECT_OPEN is recorded, and ends the escape if the digit was an escaped one. -/
theorem takeRejectOpen_line :
    (takeRejectOpen n s).line n =
      if (s.line n).escapedDigit then ((s.line n).mapDraft (Draft.record .rejectOpen)).endEscape
      else (s.line n).mapDraft (Draft.record .rejectOpen) := by
  have line := inDraft_line n s (Draft.record .rejectOpen)
  have marked : ((inDraft n (Draft.record .rejectOpen) s).line n).escapedDigit = (s.line n).escapedDigit := by
    rw [line]
    exact (congrArg LineCtx.escapedDigit ((s.line n).mapDraft_rest (Draft.record .rejectOpen)) :)
  unfold takeRejectOpen
  simp only [marked]
  split
  · rw [endEscape_eq, State.modLine_line, line]
  · exact line

theorem takeRejectOpen_kept :
    ((takeRejectOpen n s).line n).state = (s.line n).state ∧
      ((takeRejectOpen n s).line n).queue = (s.line n).queue ∧
      ((takeRejectOpen n s).line n).draft = ((s.line n).mapDraft (Draft.record .rejectOpen)).draft := by
  obtain ⟨state, queue, -⟩ := (s.line n).mapDraft_kept (Draft.record .rejectOpen)
  rw [takeRejectOpen_line]
  split <;> exact ⟨state, queue, rfl⟩

end

/-! ### The flash (R66, R68, R70) -/

section
variable {n : LineNo} {s : State}

/-- R66: a flash opens an escape. -/
theorem takeFlash_opens (may : (s.line n).state.mayEscape = true) (enabled : (s.boundProfile n).escapeEnable = true)
    (closed : (s.line n).escapePending = false) : takeFlash n s = afterEvent n (openEscape n s) := by
  unfold takeFlash
  rw [may, enabled, closed]
  rfl

/-- R66, R68: with no escapes a flash is acted on plainly. -/
theorem takeFlash_plain (disabled : (s.boundProfile n).escapeEnable = false) :
    takeFlash n s = afterEvent n (plainFlash n s) := by
  unfold takeFlash
  rw [disabled, Bool.and_false]
  rfl

theorem plainFlash_seized (h : (s.line n).state = .seized) :
    plainFlash n s = inDraft n (Draft.record .flash) (forwardFlash n s) := by
  unfold plainFlash
  rw [h]

theorem plainFlash_collecting (h : (s.line n).state = .collecting) : plainFlash n s = redial n s := by
  unfold plainFlash
  rw [h]

end

section
variable (n : LineNo) (s : State)

theorem openEscape_line :
    (openEscape n s).line n = { (s.line n).startTimer .escape (s.boundProfile n).escapeWindowMs with
      escapePending := true, escapedDigit := false } := s.modLine_line _

/-- R68: the forwarded flash runs, and the rest of the context stays. -/
theorem forwardFlash_line :
    { (forwardFlash n s).line n with timers := (s.line n).timers } = s.line n ∧
      (((forwardFlash n s).line n).timer .flashOut).isRunning = true := by
  unfold forwardFlash
  split
  · next running => exact ⟨rfl, running⟩
  · rw [State.modLine_line]
    exact ⟨rfl, by rw [LineCtx.startTimer, LineCtx.timer_setTimer]; rfl⟩

/-- R93: what an unbinding makes of the context. -/
theorem unbindBank_line : (unbindBank n s).line n = { s.line n with boundBank := none } := by
  unfold unbindBank
  split
  · next unbound => rw [← unbound]
  · exact State.modLine_line _ _

/-- R70: the context of a re-dial. -/
theorem redial_line :
    (redial n s).line n =
      { ({ (s.line n).mapDraft (fun d => { d.record .flash with numberLen := 0 }) with
            boundBank := none }.stopTimer .complete).startTimer .firstDigit
          (1000 * (s.boundProfile n).firstDigitWait) with
        number := [], state := .seized } := by
  have unbound := unbindBank_line n (inDraft n (fun d => { d.record .flash with numberLen := 0 }) s)
  rw [inDraft_line] at unbound
  have profile : (unbindBank n (inDraft n (fun d => { d.record .flash with numberLen := 0 }) s)).boundProfile n
      = s.boundProfile n := by
    refine State.boundProfile_congr (by simp) ?_
    rw [unbound]
    exact LineCtx.mapDraft_bound _ _
  unfold redial
  dsimp only
  rw [State.modLine_line, unbound, profile]

end

/-! ### What a flash comes to -/

section
variable {n : LineNo} {t : State}

/-- R66: after a flash that opens an escape. -/
theorem takeFlash_opens_line (may : (t.line n).state.mayEscape = true)
    (enabled : (t.boundProfile n).escapeEnable = true) (fresh : (t.line n).escapePending = false) :
    ((takeFlash n t).line n).escapePending = true ∧ ((takeFlash n t).line n).state = (t.line n).state ∧
      ((takeFlash n t).line n).draft = (t.line n).draft ∧
      ((takeFlash n t).line n).timer .escape = .running 0 (t.boundProfile n).escapeWindowMs := by
  have opened := openEscape_line n t
  have keeps := afterEvent_keeps (n := n) (s := openEscape n t)
    (by rw [opened]; exact fun (e : (t.line n).state = .sending) => by rw [e] at may; cases may)
  rw [takeFlash_opens may enabled fresh, keeps.escapePending, keeps.state, keeps.draft, keeps.timer .escape nofun nofun,
    opened]
  exact ⟨rfl, rfl, rfl, LineCtx.timer_setTimer _ _ _⟩

/-- R68: after a flash acted on plainly in SEIZED. -/
theorem takeFlash_seized_line (disabled : (t.boundProfile n).escapeEnable = false) (h : (t.line n).state = .seized) :
    ((takeFlash n t).line n).state = .seized ∧ (((takeFlash n t).line n).timer .flashOut).isRunning = true ∧
      ∀ d, (t.line n).draft = .opened d → ((takeFlash n t).line n).draft = .opened (d.record .flash) := by
  obtain ⟨forwarded, running⟩ := forwardFlash_line n t
  have flashed := inDraft_line n (forwardFlash n t) (Draft.record .flash)
  obtain ⟨stays, -, timers⟩ := LineCtx.mapDraft_kept (Draft.record .flash) ((forwardFlash n t).line n)
  rw [← flashed] at stays timers
  have seized := (stays.trans (congrArg LineCtx.state forwarded :)).trans h
  have keeps := afterEvent_keeps (s := inDraft n (Draft.record .flash) (forwardFlash n t)) (by rw [seized]; exact nofun)
  rw [takeFlash_plain disabled, plainFlash_seized h, keeps.state, keeps.draft, keeps.timer .flashOut nofun nofun]
  refine ⟨seized, ?_, fun d hd => ?_⟩
  · rw [LineCtx.timer, timers]
    exact running
  · rw [flashed]
    exact LineCtx.mapDraft_draft_opened ((congrArg LineCtx.draft forwarded :).trans hd)

/-- R70: after a re-dial. -/
theorem takeFlash_collecting_line (disabled : (t.boundProfile n).escapeEnable = false)
    (h : (t.line n).state = .collecting) :
    ((takeFlash n t).line n).state = .seized ∧ ((takeFlash n t).line n).number = [] ∧
      ((takeFlash n t).line n).boundBank = none ∧ ((takeFlash n t).line n).timer .complete = .stopped ∧
      ((takeFlash n t).line n).timer .firstDigit = .running 0 (1000 * (t.boundProfile n).firstDigitWait) := by
  have again := redial_line n t
  have other : TimerKind.complete ≠ .firstDigit := nofun
  have keeps := afterEvent_keeps (n := n) (s := redial n t) (by rw [again]; exact nofun)
  rw [takeFlash_plain disabled, plainFlash_collecting h, keeps.state, keeps.number, keeps.boundBank,
    keeps.timer .complete nofun nofun, keeps.timer .firstDigit nofun nofun, again]
  exact ⟨rfl, rfl, rfl, (LineCtx.timer_setTimer_of_ne _ other _).trans (LineCtx.timer_setTimer _ _ _),
    LineCtx.timer_setTimer _ _ _⟩

end

/-! ### A close accepted on a seized line -/

section
variable {n : LineNo} {s : State} (seized : (s.line n).state.seizedOn = true)
  (opened : (s.classifier n).accepted = false)
include seized opened

/-- R29, R30: a close accepted in BREAK. -/
theorem acceptChange_of_brk (pulse : (s.classifier n).pulse = .brk) :
    acceptChange n s = closeNotice n ((s.modClassifier n Classifier.acceptLevel).modClassifier n
      (Classifier.acceptBreak (s.boundProfile n) (s.estimator n).idt (s.classifier n).interval)) := by
  have windows : (s.modClassifier n Classifier.acceptLevel).windows n = s.boundProfile n := windows_of_seizedOn seized
  rw [acceptChange_of_close seized opened,
    closeAccepted_brk _ (by rw [State.modClassifier_classifier]; exact pulse), windows]
  rfl

theorem acceptChange_of_longOpen (pulse : (s.classifier n).pulse = .longOpen) :
    acceptChange n s = longOpenClosed n (s.classifier n).interval (s.modClassifier n Classifier.acceptLevel) := by
  rw [acceptChange_of_close seized opened,
    closeAccepted_longOpen _ (by rw [State.modClassifier_classifier]; exact pulse)]

/-- R29, R30: the classifier after a close accepted in BREAK. -/
theorem acceptChange_brk_classifier (pulse : (s.classifier n).pulse = .brk) :
    (acceptChange n s).classifier n = (s.classifier n).acceptLevel.acceptBreak (s.boundProfile n) (s.estimator n).idt
      (s.classifier n).interval := by
  have quiet : ∀ t : State, (closeNotice n t).classifier n = t.classifier n := fun t => by simp
  rw [acceptChange_of_brk seized opened pulse, quiet, State.modClassifier_classifier, State.modClassifier_classifier]

/-- R35, R36: the classifiers after a close accepted in LONG_OPEN. -/
theorem acceptChange_longOpen_loops (pulse : (s.classifier n).pulse = .longOpen) :
    OtherLoopsKept n s (acceptChange n s) ∧ (acceptChange n s).estimator n = s.estimator n ∧
      (acceptChange n s).classifier n
        = { (s.classifier n).acceptLevel with pulse := .steadyClosed, dropped := false } := by
  have run := acceptChange_of_longOpen seized opened pulse
  have classifiers := longOpenClosed_classifiers n (s.modClassifier n Classifier.acceptLevel) (s.classifier n).interval
  rw [← run] at classifiers
  have estimators : (acceptChange n s).estimators = s.estimators := by rw [run]; simp
  refine ⟨fun m hm => ?_, ?_, ?_⟩
  · rw [State.classifier_def, classifiers, State.estimator_def, estimators, ← State.classifier_def,
      State.modClassifier_classifier_of_ne _ _ hm, State.modClassifier_classifier_of_ne _ _ hm]
    exact ⟨rfl, rfl⟩
  · rw [State.estimator_def, estimators]; rfl
  · rw [State.classifier_def, classifiers, ← State.classifier_def, State.modClassifier_classifier,
      State.modClassifier_classifier]

end

/-! ### The obligation -/

theorem Classifier.acceptIdle_acceptLevel (c : Classifier) :
    c.acceptLevel.acceptIdle.accepted = !c.accepted ∧
      c.acceptLevel.acceptIdle.pulse = (if c.accepted then .steadyOpen else .steadyClosed) ∧
      c.acceptLevel.acceptIdle.seizureCount = 0 ∧ c.acceptLevel.acceptIdle.interval = 0 := by
  refine ⟨rfl, ?_, rfl, rfl⟩
  cases h : c.accepted <;> simp [acceptIdle, acceptLevel, h]

/-- Settles O38. -/
theorem Proofs.closeAccepted : Obligations.CloseAccepted := by
  intro n s due
  have exec := exec_loopChangeAccepted_due due
  refine ⟨fun seized opened pulse => ?_, fun seized opened pulse => ?_, fun idle => ?_⟩
  · have run := acceptChange_of_brk seized opened pulse
    have classifier := acceptChange_brk_classifier seized opened pulse
    obtain ⟨accepted, interval, make, pulseCount, idtInUse, firstBreak⟩ :=
      (s.classifier n).acceptLevel.acceptBreak_both (s.boundProfile n) (s.estimator n).idt (s.classifier n).interval
    rw [← classifier] at accepted interval make pulseCount idtInUse firstBreak
    refine ⟨acceptChange n s, exec, by simp [HostSideKept], ?_, by simp [run], by simp [run], by simp [run], by simp,
      by simp [run], by simp [run], ?_, interval, make, pulseCount, idtInUse, firstBreak, fun long => ?_,
      fun short => ?_, ?_⟩
    · rw [run]
      exact ((OtherLinesKept.modClassifier s _).trans (.modClassifier _ _)).trans (closeNotice_others n _)
    · rw [accepted, Classifier.acceptLevel, opened]; rfl
    · rw [classifier, Classifier.acceptBreak_pulse _ _ _ long]
      exact ⟨rfl, rfl, rfl⟩
    · rw [classifier, Classifier.acceptBreak_short _ _ _ short]
      exact ⟨rfl, rfl, rfl⟩
    · rw [run]
      exact closeNotice_line n _
  · have run := acceptChange_of_longOpen seized opened pulse
    obtain ⟨loops, estimator, classifier⟩ := acceptChange_longOpen_loops seized opened pulse
    generalize hl : s.modClassifier n Classifier.acceptLevel = l at run
    have line : l.line n = s.line n := by rw [← hl]; rfl
    have profile : l.boundProfile n = s.boundProfile n := by rw [← hl]; rfl
    have kept := (longOpenEnded_kept n l).trans line
    have state : ((longOpenEnded n l).line n).state = (s.line n).state := (congrArg LineCtx.state kept :)
    have draft : ((longOpenEnded n l).line n).draft = (s.line n).draft := (congrArg LineCtx.draft kept :)
    have pending : ((longOpenEnded n l).line n).escapePending = (s.line n).escapePending :=
      (congrArg LineCtx.escapePending kept :)
    refine ⟨acceptChange n s, exec, by simp [HostSideKept], loops, by simp, estimator, ?_, ?_, ?_, ?_,
      fun deadBand => ?_, fun low high none phase => ?_⟩
    · rw [classifier, Classifier.acceptLevel, opened]; rfl
    · rw [classifier]; rfl
    · rw [classifier]
    · rw [classifier]
    · rw [run, longOpenClosed_deadBand (line ▸ seized) (profile ▸ deadBand)]
      obtain ⟨state', queue, draft'⟩ := takeRejectOpen_kept n (longOpenEnded n l)
      refine ⟨?_, state'.trans state, queue.trans (congrArg LineCtx.queue kept :), fun d hd => ?_, fun escaped => ?_⟩
      · rw [← hl]
        exact ((OtherLinesKept.modClassifier s _).trans (longOpenEnded_others n _)).trans (takeRejectOpen_others n _)
      · rw [draft', LineCtx.mapDraft_draft_opened (draft.trans hd)]
      · rw [takeRejectOpen_line, if_pos ((congrArg LineCtx.escapedDigit kept :).trans escaped)]
        rfl
    · have dropped : (l.classifier n).dropped = false := by
        rw [← hl, State.modClassifier_classifier]
        exact none
      have profile' := (longOpenEnded_boundProfile n l).trans profile
      have may : ((longOpenEnded n l).line n).state.mayEscape = true := by
        rw [state]
        rcases phase with h | h | h <;> rw [h] <;> rfl
      rw [run, longOpenClosed_flash (line ▸ seized) (profile ▸ low) (profile ▸ high) dropped]
      rw [← profile', ← state, ← draft, ← pending]
      exact ⟨takeFlash_opens_line may, takeFlash_seized_line, takeFlash_collecting_line⟩
  · have run := acceptChange_of_idle idle
    obtain ⟨accepted, pulse, seizureCount, interval⟩ := (s.classifier n).acceptIdle_acceptLevel
    have classifier : (acceptChange n s).classifier n = (s.classifier n).acceptLevel.acceptIdle := by
      rw [run, State.modClassifier_classifier, State.modClassifier_classifier]
    rw [← classifier] at accepted pulse seizureCount interval
    refine ⟨acceptChange n s, exec, by simp [HostSideKept], ?_, ?_, ?_, by simp [run], by simp [run], by simp, accepted,
      pulse, seizureCount, interval⟩
    · rw [run]
      exact (OtherLinesKept.modClassifier s _).trans (.modClassifier _ _)
    · rw [run]; rfl
    · rw [run]; rfl

end Sys2Proof.Machine
end

section
/-! A teardown, step by step (R82, R83), and the clear (O41). -/

namespace Sys2Proof.Machine

/-! ### The steps of a teardown -/

/-- R82: the queue is emptied, and the claim and the generator are given up. -/
def givenUp (n : LineNo) (s : State) : State :=
  releaseOf n (leaveWait n (s.modLine n fun c => { c with queue := [] }))

/-- R82: what a teardown leaves before the draft closes. -/
def emptiedLine (n : LineNo) (cause : CloseCause) (s : State) : State :=
  (unbindBank n (endSendTones n cause (givenUp n s))).modLine n fun c =>
    { c with number := [], decision := none, timers := Table.replicate 8 .stopped }

theorem teardownSteps_eq (n : LineNo) (cause : CloseCause) (s : State) :
    teardownSteps n cause s = (closeDraft n cause (emptiedLine n cause s)).modLine n fun c =>
      { c with escapePending := false, escapedDigit := false } := rfl

/-- R82, R83: the state a teardown leads to, before the checks that follow. -/
def tornDown (n : LineNo) (cause : CloseCause) (s : State) : State :=
  (teardownSteps n cause s).modLine n (LineCtx.enterAfter cause.stateAfter)

theorem teardown_eq (n : LineNo) (cause : CloseCause) (s : State) :
    teardown n cause s = afterEvent n (tornDown n cause s) := rfl

/-- Stopping one of eight stopped timers changes nothing. -/
theorem LineCtx.stopTimer_of_stopped {c : LineCtx} (h : c.timers = Table.replicate 8 .stopped) (k : TimerKind) :
    c.stopTimer k = c := by
  have same : c.timers.set k.index .stopped = c.timers := Table.ext_get fun i => by
    rw [h, Table.get_set, Table.get_replicate, ite_self]
  rw [stopTimer, setTimer, same]

/-! ### The context -/

/-- R82: the context after the steps of a teardown, `unrecorded` episodes counted. -/
def LineCtx.torn (unrecorded : Nat) (c : LineCtx) : LineCtx :=
  { c with
    queue := [], number := [], boundBank := none, decision := none, timers := Table.replicate 8 .stopped,
    draft := .none, escapePending := false, escapedDigit := false, pendingUnrecorded := unrecorded }

section
variable (n : LineNo) (cause : CloseCause) (s : State)

theorem givenUp_line : (givenUp n s).line n = { s.line n with queue := [] }.stopTimer .generatorWait := by
  have released : ∀ t : State, (releaseOf n t).line n = t.line n := fun t => by simp
  rw [givenUp, released, (leaveWait_line n _).1, State.modLine_line]

theorem endSendTones_line : (endSendTones n cause s).line n = s.line n := by simp

theorem emptiedLine_line :
    (emptiedLine n cause s).line n =
      { s.line n with
        queue := [], number := [], boundBank := none, decision := none, timers := Table.replicate 8 .stopped } := by
  rw [emptiedLine, State.modLine_line, unbindBank_line, endSendTones_line, givenUp_line]
  rfl

/-- R82: the line's context after the steps of a teardown. -/
theorem teardownSteps_line : ∃ k, (teardownSteps n cause s).line n = (s.line n).torn k := by
  have closed := closeDraft_line n cause (emptiedLine n cause s)
  have stopped := LineCtx.stopTimer_of_stopped (c := (emptiedLine n cause s).line n)
    (by rw [emptiedLine_line]) .quiet
  rw [stopped, emptiedLine_line] at closed
  rw [teardownSteps_eq, State.modLine_line, closed]
  split
  · next none => exact ⟨(s.line n).pendingUnrecorded, by simp only at none; simp only [LineCtx.torn, none]⟩
  · exact ⟨_, rfl⟩
  · exact ⟨(s.line n).pendingUnrecorded, rfl⟩

theorem LineCtx.enterAfter_kept (st : LineState) (c : LineCtx) :
    (c.enterAfter st).queue = c.queue ∧ (c.enterAfter st).timers = c.timers := by
  cases st <;> exact ⟨rfl, rfl⟩

end

/-! ### The pool -/

section
variable {n : LineNo} {s : State}

/-- R125: once its one generator is released a line holds none. -/
theorem releaseOf_unattached (one : ∀ g h, (s.gen g).attached = some n → (s.gen h).attached = some n → g = h)
    (g : GenNo) : ((releaseOf n s).gen g).attached ≠ some n := by
  unfold releaseOf
  split
  · next k hk =>
    obtain ⟨held, -⟩ := genOf_eq_some_iff.1 hk
    obtain ⟨free, -, others⟩ := releaseGen_gens k s
    by_cases e : g = k
    · rw [e]
      simp [releaseGen]
    · rw [others g e]
      exact fun h => e (one g k h held)
  · next none => exact genOf_eq_none_iff.1 none g

theorem givenUp_unattached (one : ∀ g h, (s.gen g).attached = some n → (s.gen h).attached = some n → g = h)
    (g : GenNo) : ((givenUp n s).gen g).attached ≠ some n :=
  releaseOf_unattached (s := leaveWait n (s.modLine n fun c => { c with queue := [] })) one g

theorem givenUp_waitList : (givenUp n s).pool.waitList = s.pool.waitList.filter fun e => e.line != n := by
  unfold givenUp releaseOf
  split <;> rfl

/-- R82, R115: a line torn down holds no generator, has no claim and no symbol. -/
theorem tornDown_detached (cause : CloseCause)
    (one : ∀ g h, (s.gen g).attached = some n → (s.gen h).attached = some n → g = h) :
    Detached n (tornDown n cause s) := by
  have pool : (tornDown n cause s).pool = (givenUp n s).pool := by simp [tornDown, teardownSteps_eq, emptiedLine]
  refine ⟨fun g => ?_, fun e he => ?_, ?_⟩
  · rw [State.gen_def, pool]
    exact givenUp_unattached one g
  · rw [pool, givenUp_waitList] at he
    simpa using (List.mem_filter.1 he).2
  · obtain ⟨k, line⟩ := teardownSteps_line n cause s
    rw [tornDown, State.modLine_line, (LineCtx.enterAfter_kept _ _).1, line]
    rfl

/-- R82, R83: the context of a line that has been torn down. -/
theorem teardown_line (cause : CloseCause)
    (one : ∀ g h, (s.gen g).attached = some n → (s.gen h).attached = some n → g = h) :
    ∃ k, (teardown n cause s).line n = ((s.line n).torn k).enterAfter cause.stateAfter := by
  obtain ⟨k, steps⟩ := teardownSteps_line n cause s
  have line : (tornDown n cause s).line n = ((s.line n).torn k).enterAfter cause.stateAfter := by
    rw [tornDown, State.modLine_line, steps]
  have stopped := LineCtx.stopTimer_of_stopped (c := ((s.line n).torn k).enterAfter cause.stateAfter)
    ((LineCtx.enterAfter_kept _ _).2) .proceed
  refine ⟨k, ?_⟩
  rw [teardown_eq, (tornDown_detached cause one).afterEvent.2, line, stopped, ite_self]

end

/-! ### The bank, the draft and the order -/

section
variable {n : LineNo} {s : State} (cause : CloseCause)

/-- R93: an unbinding counts one reference less. -/
theorem unbindBank_refCount {b : BankNo} (h : (s.line n).boundBank = some b) :
    ((unbindBank n s).bank b).refCount = (s.bank b).refCount - 1 := by
  unfold unbindBank
  rw [h]
  simp

theorem teardown_refCount {b : BankNo} (h : (s.line n).boundBank = some b) :
    ((teardown n cause s).bank b).refCount = (s.bank b).refCount - 1 := by
  have bound : ((endSendTones n cause (givenUp n s)).line n).boundBank = some b := by
    rw [endSendTones_line, givenUp_line]
    exact h
  have plan : (endSendTones n cause (givenUp n s)).plan = s.plan := by simp [givenUp]
  have unbound := unbindBank_refCount bound
  have torn : (teardown n cause s).plan = (unbindBank n (endSendTones n cause (givenUp n s))).plan := by
    simp [teardown_eq, tornDown, teardownSteps_eq, emptiedLine]
  rw [State.bank_def, State.bank_def, plan] at unbound
  rw [State.bank_def, torn, unbound]
  rfl

/-- R82, R153: the draft of a line torn down closes into the FIFO. -/
theorem teardown_closedInto {d : Draft} (h : (s.line n).draft = .opened d) :
    ClosedInto s (teardown n cause s) n d cause := by
  have draft : ((emptiedLine n cause s).line n).draft = .opened d := by
    rw [emptiedLine_line]
    exact h
  have joined := closeDraft_joins n cause _ d draft
  have clock : (emptiedLine n cause s).slotPath = s.slotPath := by simp [emptiedLine, givenUp]
  have estimators : (emptiedLine n cause s).estimators = s.estimators := by simp [emptiedLine, givenUp]
  rw [clock, State.estimator_def, estimators] at joined
  exact (afterEvent_records n (tornDown n cause s)).fifo _ joined

end

theorem writeAccess_congr {s t : State} (h : t.port.windows = s.port.windows) :
    writeAccess t = writeAccess s := by
  funext p sa data
  rw [writeAccess, h]
  rfl

/-- R175: what choosing a result comes to. -/
theorem chooseResult_answered {s : State} {c : CurrentOrder} (h : s.orders.current = some c) (status : OrderStatus)
    (details : Details) : Answered s (chooseResult status details s) status details := by
  unfold chooseResult
  rw [h]
  exact ⟨rfl, rfl, c, _, h, rfl, rfl, rfl, rfl⟩

/-- An answer reads the order unit, the windows and the order unit's waiting access alone. -/
theorem Answered.congr {s t u v : State} {status : OrderStatus} {details : Details} (h : Answered s t status details)
    (orders : u.orders = s.orders) (windows : u.port.windows = s.port.windows) (orders' : v.orders = t.orders)
    (waits : v.port.waitOrder = t.port.waitOrder) : Answered u v status details := by
  unfold Answered at *
  rw [orders, orders', waits, writeAccess_congr windows]
  exact h

/-- R130: a teardown ends a SEND_TONES in progress on the line CLEARED, with the cause of the teardown. -/
theorem endSendTones_answered {n : LineNo} {s : State} {c : CurrentOrder} {cls : ServiceClass} {count sent : Nat}
    (cause : CloseCause) (current : s.orders.current = some c) (inProgress : s.orders.state = .inProgress)
    (work : c.work = .sendTones n cls count sent false) :
    Answered s (endSendTones n cause s) .cleared { sent, unsent := count - sent, cause := cause.code } := by
  have ends : endSendTones n cause s
      = chooseResult .cleared { sent, unsent := count - sent, cause := cause.code } s := by
    obtain ⟨slot, body, work', abort, result, progressed⟩ := c
    cases work
    unfold endSendTones
    rw [current, inProgress]
    exact if_pos rfl
  rw [ends]
  exact chooseResult_answered current _ _

theorem teardown_answered {n : LineNo} {s : State} {c : CurrentOrder} {cls : ServiceClass} {count sent : Nat}
    (cause : CloseCause) (current : s.orders.current = some c) (inProgress : s.orders.state = .inProgress)
    (work : c.work = .sendTones n cls count sent false) :
    Answered s (teardown n cause s) .cleared { sent, unsent := count - sent, cause := cause.code } := by
  have orders : (givenUp n s).orders = s.orders := by simp [givenUp]
  have port : (givenUp n s).port = s.port := by simp [givenUp]
  have ended := endSendTones_answered (s := givenUp n s) cause (orders ▸ current) (orders ▸ inProgress) work
  have emptied : (emptiedLine n cause s).port = (endSendTones n cause (givenUp n s)).port := by simp [emptiedLine]
  obtain ⟨-, -, -, -, closed⟩ := (closeDraft_records n cause (emptiedLine n cause s)).port
  obtain ⟨-, -, -, -, checked⟩ := (afterEvent_records n (tornDown n cause s)).port
  refine ended.congr orders.symm (by rw [port]) ?_ (checked.trans (closed.trans (by rw [emptied])))
  simp [teardown_eq, tornDown, teardownSteps_eq, emptiedLine]

/-! ### The clear (R37, R81) -/

/-- R80: an IDLE line shows on-hook. -/
theorem cleanedHook_of_idle {n : LineNo} {s : State} (h : (s.line n).state = .idle) : cleanedHook s n = false := by
  unfold cleanedHook
  rw [h]
  rfl

/-- R37: the classifier as a clear leaves it. -/
def Classifier.cleared (c : Classifier) : Classifier :=
  { c with pulse := .steadyOpen, dropped := false, seizureCount := 0, bound := none }

theorem declareClear_eq (n : LineNo) (s : State) :
    declareClear n s = teardown n .cleared (s.modClassifier n Classifier.cleared) := rfl

/-- Settles O41. -/
theorem Proofs.clear : Obligations.Clear := by
  refine ⟨fun n s due one => ?_, fun p c pulse =>
    ⟨c.flagFrame_bound_clear_iff p false pulse, c.flagFrame_interval p false false⟩⟩
  have classifiers : (declareClear n s).classifiers = (s.modClassifier n Classifier.cleared).classifiers := by
    rw [declareClear_eq]
    simp
  have classifier : (declareClear n s).classifier n = (s.classifier n).cleared := by
    rw [State.classifier_def, classifiers]
    exact s.modClassifier_classifier _
  have detached := (tornDown_detached (s := s.modClassifier n Classifier.cleared) .cleared one).afterEvent.1
  rw [← teardown_eq, ← declareClear_eq] at detached
  obtain ⟨unrecorded, line⟩ := teardown_line (s := s.modClassifier n Classifier.cleared) .cleared one
  rw [← declareClear_eq] at line
  have idle : ((declareClear n s).line n).state = .idle := by rw [line]; rfl
  refine ⟨declareClear n s, exec_clear_due due, by simp [HostSideKept], .of_modClassifier classifiers (by simp),
    by simp, ?_, ?_, ?_, ?_, idle, ?_, ?_, ?_, ?_, ?_, ?_, ?_, ?_, ?_, fun k => ?_, ?_, detached.genOf,
    detached.isWaiting, cleanedHook_of_idle idle, fun b => teardown_refCount (s := s.modClassifier n Classifier.cleared) _,
    fun d => teardown_closedInto (s := s.modClassifier n Classifier.cleared) _,
    fun c cls count sent => teardown_answered (s := s.modClassifier n Classifier.cleared) .cleared⟩
  iterate 4
    · rw [classifier]; rfl
  iterate 9
    · rw [line]; rfl
  · rw [line]
    exact Table.get_replicate _ _
  · rw [line]; rfl

end Sys2Proof.Machine
end

section
/-! From a completed digit to its outcome: translation and escape, the draft a symbol finds open, and a tone symbol in
SEIZED under DIRECT and in CONVERTING (R53, R54, R56, R62, R65). -/

namespace Sys2Proof.Machine

/-! ### Translation and escape (R53, R54) -/

section
variable {p : Profile}

/-- R53: a corrupt digit, and a count above 10, are rejected. -/
theorem digitOutcome_reject {count : Nat} {corrupt : Bool} (h : corrupt = true ∨ 10 < count) (escaped : Bool) :
    digitOutcome p count corrupt escaped = .rejectCount := by
  unfold digitOutcome
  split
  · rfl
  · next clean => rw [dif_neg fun k => by rcases h with h | h <;> [exact clean h; omega]]

section
variable {i : Fin 10} {t : Tone} (h : p.translation.get i = some t)
include h

/-- R53: a digit that is not escaped is its translation. -/
theorem digitOutcome_plain : digitOutcome p (i.val + 1) false false = .tone t := by
  have count : 1 ≤ i.val + 1 ∧ i.val + 1 ≤ 10 := by omega
  unfold digitOutcome
  rw [if_neg nofun, dif_pos count]
  simp only [Nat.add_sub_cancel, h]
  rfl

/-- R54: an escaped digit is mapped by the escape table. -/
theorem digitOutcome_escaped {j : Fin 10} (hj : j.val = t.val) :
    digitOutcome p (i.val + 1) false true =
      match p.escape.get j with
      | some x => .tone x
      | none => .rejectEscape := by
  have count : 1 ≤ i.val + 1 ∧ i.val + 1 ≤ 10 := by omega
  have digit : t.val < 10 := hj ▸ j.isLt
  obtain rfl : j = ⟨t.val, digit⟩ := Fin.ext hj
  unfold digitOutcome
  rw [if_neg nofun, dif_pos count]
  simp only [Nat.add_sub_cancel, h, digit]
  rfl

/-- R54: what the escape table does not map is rejected. -/
theorem digitOutcome_rejectEscape (none : 10 ≤ t.val ∨ ∃ j : Fin 10, j.val = t.val ∧ p.escape.get j = none) :
    digitOutcome p (i.val + 1) false true = .rejectEscape := by
  rcases none with high | ⟨j, hj, none⟩
  · have count : 1 ≤ i.val + 1 ∧ i.val + 1 ≤ 10 := by omega
    unfold digitOutcome
    rw [if_neg nofun, dif_pos count]
    simp only [Nat.add_sub_cancel, h, Nat.not_lt.2 high]
    rfl
  · rw [digitOutcome_escaped h hj, none]

end

end

section
variable {n : LineNo} {s : State} {count : Nat} {corrupt escaped : Bool} (mark : (s.line n).escapedDigit = escaped)
include mark

/-- R32, R54, R56: a digit that comes to a tone symbol. -/
theorem takeDigit_tone {t : Tone} (h : digitOutcome (s.boundProfile n) count corrupt escaped = .tone t) :
    takeDigit n count corrupt s = afterEvent n (takeSymbol n t escaped (if escaped then endEscape n s else s)) := by
  unfold takeDigit
  simp only [mark, h]

theorem takeDigit_rejectCount (h : digitOutcome (s.boundProfile n) count corrupt escaped = .rejectCount) :
    takeDigit n count corrupt s
      = afterEvent n (inDraft n (Draft.record .rejectCount) (if escaped then endEscape n s else s)) := by
  unfold takeDigit
  simp only [mark, h]

theorem takeDigit_rejectEscape (h : digitOutcome (s.boundProfile n) count corrupt escaped = .rejectEscape) :
    takeDigit n count corrupt s
      = afterEvent n (inDraft n (Draft.record .rejectEscape) (if escaped then endEscape n s else s)) := by
  unfold takeDigit
  simp only [mark, h]

end

/-! ### The draft a symbol finds open (R65) -/

/-- What opening a draft, where none is open, leaves of a context. -/
structure DraftEnsured (c d : LineCtx) : Prop where
  hasDraft : d.hasDraft = true
  state : d.state = c.state
  bound : d.bound = c.bound
  queue : d.queue = c.queue
  escapePending : d.escapePending = c.escapePending
  escapedDigit : d.escapedDigit = c.escapedDigit
  timer : ∀ k, k ≠ .quiet → d.timer k = c.timer k
  opened : ∀ x, c.draft = .opened x → d = c

theorem openDraft_ensures {n : LineNo} {s : State} (none : (s.line n).hasDraft = false) :
    DraftEnsured (s.line n) ((openDraft n s).line n) := by
  have absent : ∀ x, (s.line n).draft ≠ .opened x := fun x h => by simp only [LineCtx.hasDraft, h] at none; cases none
  have quiet : ∀ (c : LineCtx) (p : Profile) (k : TimerKind), k ≠ .quiet → (c.startQuiet p).timer k = c.timer k :=
    fun c p k hk => c.timer_setTimer_of_ne hk _
  rw [openDraft, State.modLine_line]
  dsimp only
  refine ⟨?_, ?_, ?_, ?_, ?_, ?_, fun k hk => ?_, fun x h => absurd h (absent x)⟩
  case refine_7 =>
    split <;> split
    · exact quiet _ _ k hk
    · exact quiet _ _ k hk
    · rfl
    · rfl
  all_goals split <;> split <;> rfl

theorem ensureDraft_ensures (n : LineNo) (s : State) : DraftEnsured (s.line n) ((ensureDraft n s).line n) := by
  unfold ensureDraft
  split
  · next has => exact ⟨has, rfl, rfl, rfl, rfl, rfl, fun _ _ => rfl, fun _ _ => rfl⟩
  · next none => exact openDraft_ensures (by simpa using none)

theorem ensureDraft_boundProfile (n : LineNo) (s : State) : (ensureDraft n s).boundProfile n = s.boundProfile n :=
  State.boundProfile_congr (by simp) (ensureDraft_ensures n s).bound

/-- R65: a tone symbol recorded in the draft that is open, or opens for it. -/
def LineCtx.recorded (t : Tone) (escaped : Bool) (c : LineCtx) : LineCtx := c.mapDraft (Draft.recordTone t escaped)

/-- R110: a context whose queue a SUBSCRIBER entry has joined. -/
def LineCtx.queued (t : Tone) (c : LineCtx) : LineCtx :=
  { c with queue := c.queue ++ [{ symbol := t, origin := .subscriber, begun := false }] }

theorem LineCtx.queued_what (t : Tone) (c : LineCtx) :
    (c.queued t).queue.map QueueEntry.what = c.queue.map QueueEntry.what ++ [(t, Origin.subscriber)] := by
  simp [queued, QueueEntry.what]

/-! ### A tone symbol in SEIZED under DIRECT (R62) -/

theorem takeSymbol_seized {n : LineNo} {s : State} (h : (s.line n).state = .seized) (t : Tone) (e : Bool) :
    takeSymbol n t e s = symbolSeized n t e s := by
  unfold takeSymbol
  rw [h]

theorem takeSymbol_collecting {n : LineNo} {s : State} (h : (s.line n).state = .collecting) (t : Tone) (e : Bool) :
    takeSymbol n t e s = symbolCollecting n t e s := by
  unfold takeSymbol
  rw [h]

theorem takeSymbol_converting {n : LineNo} {s : State} (h : (s.line n).state = .converting) (t : Tone) (e : Bool) :
    takeSymbol n t e s = symbolConverting n t e s := by
  unfold takeSymbol
  rw [h]

/-- R75: a line with a draft open enters CONVERTING with its quiet timer running. -/
theorem enterConverting_line {n : LineNo} {s : State} (h : (s.line n).hasDraft = true) :
    (enterConverting n s).line n = { s.line n with state := .converting }.startQuiet (s.boundProfile n) := by
  rw [enterConverting, State.modLine_line]
  exact if_pos h

theorem symbolSeized_direct {n : LineNo} {s : State} (h : (s.boundProfile n).mode = .direct) (t : Tone) (e : Bool) :
    symbolSeized n t e s = enterConverting n ((queueSubscriber n t (inDraft n (Draft.recordTone t e)
      (ensureDraft n s))).modLine n fun c => c.stopTimer .firstDigit) := by
  unfold symbolSeized
  simp only [ensureDraft_boundProfile, h]

/-- R62: the context after the first symbol under DIRECT. -/
theorem symbolSeized_direct_line {n : LineNo} {s : State} (h : (s.boundProfile n).mode = .direct) (t : Tone)
    (e : Bool) : ∃ p, (symbolSeized n t e s).line n =
      { ((((ensureDraft n s).line n).recorded t e).queued t).stopTimer .firstDigit with
        state := .converting }.startQuiet p := by
  have stopped : ((queueSubscriber n t (inDraft n (Draft.recordTone t e) (ensureDraft n s))).modLine n fun c =>
      c.stopTimer .firstDigit).line n
        = ((((ensureDraft n s).line n).recorded t e).queued t).stopTimer .firstDigit := by
    rw [State.modLine_line, queueSubscriber, State.modLine_line, inDraft_line]
    rfl
  have has : (((((ensureDraft n s).line n).recorded t e).queued t).stopTimer .firstDigit).hasDraft = true :=
    (LineCtx.mapDraft_hasDraft _ _).trans (ensureDraft_ensures n s).hasDraft
  rw [symbolSeized_direct h, enterConverting_line (by rw [stopped]; exact has), stopped]
  exact ⟨_, rfl⟩

section
variable {n : LineNo} {w : State} {c : LineCtx} {p : Profile} (line : w.line n = c) (profile : w.boundProfile n = p)
  (t : Tone) (e : Bool)
include line

include profile in
/-- R62: the first tone symbol of a DIRECT line. -/
theorem takeSymbol_direct (seized : c.state = .seized) (direct : p.mode = .direct) {u : State}
    (hu : u = afterEvent n (takeSymbol n t e w)) :
    (u.line n).state = .converting ∧ (u.line n).hasDraft = true ∧ (u.line n).timer .firstDigit = .stopped ∧
      (u.line n).queue.map QueueEntry.what = c.queue.map QueueEntry.what ++ [(t, Origin.subscriber)] ∧
      ∀ d, c.draft = .opened d → (u.line n).draft = .opened (d.recordTone t e) := by
  subst line profile
  have other : TimerKind.firstDigit ≠ .quiet := nofun
  have ensured := ensureDraft_ensures n w
  obtain ⟨-, queue, -⟩ := LineCtx.mapDraft_kept (Draft.recordTone t e) ((ensureDraft n w).line n)
  obtain ⟨q, symbol⟩ := symbolSeized_direct_line direct t e
  rw [← takeSymbol_seized seized] at symbol
  have keeps := afterEvent_keeps (s := takeSymbol n t e w) (by rw [symbol]; exact nofun)
  rw [hu, keeps.state, keeps.hasDraft, keeps.timer .firstDigit nofun nofun, keeps.queue, keeps.draft, symbol]
  refine ⟨rfl, (LineCtx.mapDraft_hasDraft _ _).trans ensured.hasDraft,
    (LineCtx.timer_setTimer_of_ne _ other _).trans (LineCtx.timer_setTimer _ _ _), ?_, fun d hd => ?_⟩
  · rw [← ensured.queue, ← queue]
    exact LineCtx.queued_what t _
  · refine LineCtx.mapDraft_draft_opened ?_
    rw [ensured.opened d hd, hd]

end

/-! ### A tone symbol in CONVERTING (R65) -/

section
variable {n : LineNo} {s : State} (t : Tone) (e : Bool)

/-- R65: the context that a symbol in CONVERTING finds once it is recorded. -/
theorem ensureDraft_recorded_line :
    (inDraft n (Draft.recordTone t e) (ensureDraft n s)).line n = ((ensureDraft n s).line n).recorded t e :=
  inDraft_line n _ _

theorem ensureDraft_recorded_queue : (((ensureDraft n s).line n).recorded t e).queue = (s.line n).queue := by
  obtain ⟨-, queue, -⟩ := LineCtx.mapDraft_kept (Draft.recordTone t e) ((ensureDraft n s).line n)
  exact queue.trans (ensureDraft_ensures n s).queue

/-- R65: with room in the queue the symbol joins it. -/
theorem symbolConverting_room_line (room : (s.line n).queue.length < 32) :
    (symbolConverting n t e s).line n = ((((ensureDraft n s).line n).recorded t e).queued t).zeroTimer .quiet := by
  have line := ensureDraft_recorded_line (n := n) (s := s) t e
  have fits : ((inDraft n (Draft.recordTone t e) (ensureDraft n s)).line n).queue.length < Config.sendQueue := by
    rw [line, ensureDraft_recorded_queue]
    exact room
  unfold symbolConverting
  dsimp only
  rw [if_pos fits, State.modLine_line, queueSubscriber, State.modLine_line, line]
  rfl

/-- R65: with the queue full the symbol sets QUEUE_FULL. -/
theorem symbolConverting_full_line (full : 32 ≤ (s.line n).queue.length) :
    (symbolConverting n t e s).line n =
      ((((ensureDraft n s).line n).recorded t e).mapDraft fun d => { d with queueFull := true }).zeroTimer .quiet := by
  have line := ensureDraft_recorded_line (n := n) (s := s) t e
  have exceeds : ¬((inDraft n (Draft.recordTone t e) (ensureDraft n s)).line n).queue.length < Config.sendQueue := by
    rw [line, ensureDraft_recorded_queue]
    exact Nat.not_lt.2 full
  unfold symbolConverting
  dsimp only
  rw [if_neg exceeds, State.modLine_line, inDraft_line, line]

end

section
variable {n : LineNo} {w : State} {c : LineCtx} (line : w.line n = c) (t : Tone) (e : Bool)
include line

/-- R65: a tone symbol in CONVERTING, with room in the queue. -/
theorem takeSymbol_room (converting : c.state = .converting) (room : c.queue.length < 32) {u : State}
    (hu : u = afterEvent n (takeSymbol n t e w)) :
    (u.line n).state = .converting ∧ (u.line n).hasDraft = true ∧
      (u.line n).queue.map QueueEntry.what = c.queue.map QueueEntry.what ++ [(t, Origin.subscriber)] ∧
      ∀ d, c.draft = .opened d → (u.line n).draft = .opened (d.recordTone t e) ∧
        (u.line n).timer .quiet = (c.timer .quiet).zero := by
  subst line
  have ensured := ensureDraft_ensures n w
  obtain ⟨state, -, -⟩ := LineCtx.mapDraft_kept (Draft.recordTone t e) ((ensureDraft n w).line n)
  have still : (((ensureDraft n w).line n).recorded t e).state = .converting :=
    state.trans (ensured.state.trans converting)
  have symbol := symbolConverting_room_line t e room
  rw [← takeSymbol_converting converting] at symbol
  have keeps := afterEvent_keeps (s := takeSymbol n t e w) (by rw [symbol]; exact fun h => nomatch still.symm.trans h)
  rw [hu, keeps.state, keeps.hasDraft, keeps.queue, keeps.draft, keeps.timer .quiet nofun nofun, symbol]
  refine ⟨still, (LineCtx.mapDraft_hasDraft _ _).trans ensured.hasDraft, ?_, fun d hd => ?_⟩
  · rw [← ensureDraft_recorded_queue t e]
    exact LineCtx.queued_what t _
  · have same := ensured.opened d hd
    rw [same]
    obtain ⟨-, -, timers⟩ := LineCtx.mapDraft_kept (Draft.recordTone t e) (w.line n)
    refine ⟨LineCtx.mapDraft_draft_opened hd, (LineCtx.timer_setTimer _ _ _).trans ?_⟩
    exact congrArg (fun ts : Table 8 Timer => (ts.get TimerKind.quiet.index).zero) timers

/-- R65: a tone symbol in CONVERTING, with the queue full. -/
theorem takeSymbol_full (converting : c.state = .converting) (full : 32 ≤ c.queue.length) {u : State}
    (hu : u = afterEvent n (takeSymbol n t e w)) :
    (u.line n).state = .converting ∧ (u.line n).queue.map QueueEntry.what = c.queue.map QueueEntry.what ∧
      ∀ d, c.draft = .opened d → (u.line n).draft = .opened { d.recordTone t e with queueFull := true } ∧
        (u.line n).timer .quiet = (c.timer .quiet).zero := by
  subst line
  have ensured := ensureDraft_ensures n w
  obtain ⟨state, -, timers⟩ := LineCtx.mapDraft_kept (Draft.recordTone t e) ((ensureDraft n w).line n)
  obtain ⟨state', queue', timers'⟩ := LineCtx.mapDraft_kept (fun d : Draft => { d with queueFull := true })
    (((ensureDraft n w).line n).recorded t e)
  have still := state'.trans (state.trans (ensured.state.trans converting))
  have symbol := symbolConverting_full_line t e full
  rw [← takeSymbol_converting converting] at symbol
  have keeps := afterEvent_keeps (s := takeSymbol n t e w) (by rw [symbol]; exact fun h => nomatch still.symm.trans h)
  rw [hu, keeps.state, keeps.queue, keeps.draft, keeps.timer .quiet nofun nofun, symbol]
  refine ⟨still, congrArg (List.map QueueEntry.what) (queue'.trans (ensureDraft_recorded_queue t e)), fun d hd => ?_⟩
  have same := ensured.opened d hd
  rw [same] at timers timers' ⊢
  refine ⟨LineCtx.mapDraft_draft_opened (LineCtx.mapDraft_draft_opened hd), (LineCtx.timer_setTimer _ _ _).trans ?_⟩
  exact congrArg (fun ts : Table 8 Timer => (ts.get TimerKind.quiet.index).zero) (timers'.trans timers)

end

end Sys2Proof.Machine
end

section
/-! A tone symbol that the number register collects, and the decision it may bring (R62, R63, R93, R95). -/

namespace Sys2Proof.Machine

/-! ### The matcher's call (R95) -/

section
variable {n : LineNo} {s : State}

theorem callMatcher_waits
    (h : matchSymbol (boundEntries s n) (s.boundProfile n).unmatchedAction (s.line n).number = none) :
    callMatcher n s = s := by
  unfold callMatcher
  rw [h]

theorem callMatcher_decides {v : Verdict}
    (h : matchSymbol (boundEntries s n) (s.boundProfile n).unmatchedAction (s.line n).number = some v) :
    callMatcher n s = actOn n v s := by
  unfold callMatcher
  rw [h]

theorem boundEntries_of_bound {b : BankNo} (h : (s.line n).boundBank = some b) :
    boundEntries s n = (s.bank b).entries := by
  unfold boundEntries
  rw [h]

end

theorem boundEntries_congr {n : LineNo} {s t : State} (hp : t.plan = s.plan)
    (hb : (t.line n).boundBank = (s.line n).boundBank) : boundEntries t n = boundEntries s n := by
  simp only [boundEntries, State.bank, hp, hb]

/-! ### The number register (R62, R63, R93) -/

/-- R63: what a symbol that joins the number register, now of `len` symbols, makes of the draft. -/
def Draft.recordNumber (t : Tone) (escaped : Bool) (len : Nat) (d : Draft) : Draft :=
  { d.recordTone t escaped with numberLen := len }

/-- R93: what a binding makes of the draft. -/
def Draft.recordBank (b : BankNo) (d : Draft) : Draft := { d with bank := some b }

/-- R63: the context after a symbol has joined the number register. -/
def LineCtx.collected (t : Tone) (escaped : Bool) (c : LineCtx) : LineCtx :=
  { c with number := c.number ++ [t] }.mapDraft (Draft.recordNumber t escaped (c.number ++ [t]).length)

/-- R93: the context of a line just bound to a bank. -/
def LineCtx.boundTo (b : BankNo) (c : LineCtx) : LineCtx :=
  { c with boundBank := some b }.mapDraft (Draft.recordBank b)

theorem LineCtx.mapDraft_register (f : Draft → Draft) (c : LineCtx) :
    (c.mapDraft f).number = c.number ∧ (c.mapDraft f).boundBank = c.boundBank := by
  unfold mapDraft
  split <;> exact ⟨rfl, rfl⟩

/-- A symbol that joins the number register changes only the register and the draft. -/
theorem LineCtx.collected_kept (t : Tone) (e : Bool) (c : LineCtx) :
    (c.collected t e).state = c.state ∧ (c.collected t e).bound = c.bound ∧ (c.collected t e).queue = c.queue ∧
      (c.collected t e).number = c.number ++ [t] ∧ (c.collected t e).boundBank = c.boundBank := by
  obtain ⟨state, queue, -⟩ := { c with number := c.number ++ [t] }.mapDraft_kept
    (Draft.recordNumber t e (c.number ++ [t]).length)
  obtain ⟨number, bank⟩ := LineCtx.mapDraft_register (Draft.recordNumber t e (c.number ++ [t]).length)
    { c with number := c.number ++ [t] }
  exact ⟨state, LineCtx.mapDraft_bound _ _, queue, number, bank⟩

/-- A binding changes only the bank and the draft. -/
theorem LineCtx.boundTo_kept (b : BankNo) (c : LineCtx) :
    (c.boundTo b).bound = c.bound ∧ (c.boundTo b).queue = c.queue ∧ (c.boundTo b).number = c.number ∧
      (c.boundTo b).boundBank = some b := by
  obtain ⟨-, queue, -⟩ := { c with boundBank := some b }.mapDraft_kept (Draft.recordBank b)
  obtain ⟨number, bank⟩ := LineCtx.mapDraft_register (Draft.recordBank b) { c with boundBank := some b }
  exact ⟨LineCtx.mapDraft_bound _ _, queue, number, bank⟩

/-- R62: the context of an EN_BLOC line that enters COLLECTING. -/
def LineCtx.enterCollecting (completeMs : Nat) (c : LineCtx) : LineCtx :=
  { (c.stopTimer .firstDigit).startTimer .complete completeMs with state := .collecting }

theorem LineCtx.enterCollecting_kept (completeMs : Nat) (c : LineCtx) :
    (c.enterCollecting completeMs).bound = c.bound ∧ (c.enterCollecting completeMs).queue = c.queue ∧
      (c.enterCollecting completeMs).number = c.number ∧ (c.enterCollecting completeMs).boundBank = c.boundBank ∧
      (c.enterCollecting completeMs).draft = c.draft := ⟨rfl, rfl, rfl, rfl, rfl⟩

theorem LineCtx.enterCollecting_timers (completeMs : Nat) (c : LineCtx) :
    (c.enterCollecting completeMs).timer .firstDigit = .stopped ∧
      (c.enterCollecting completeMs).timer .complete = .running 0 completeMs := by
  have other : TimerKind.firstDigit ≠ .complete := nofun
  exact ⟨(timer_setTimer_of_ne _ other _).trans (timer_setTimer _ _ _), timer_setTimer _ _ _⟩

theorem LineCtx.setTimer_kept (k : TimerKind) (x : Timer) (c : LineCtx) :
    (c.setTimer k x).state = c.state ∧ (c.setTimer k x).bound = c.bound ∧ (c.setTimer k x).queue = c.queue ∧
      (c.setTimer k x).number = c.number ∧ (c.setTimer k x).boundBank = c.boundBank ∧
      (c.setTimer k x).draft = c.draft := ⟨rfl, rfl, rfl, rfl, rfl, rfl⟩

section
variable (n : LineNo) (t : Tone) (e : Bool) (s : State)

theorem joinNumber_line : (joinNumber n t e s).line n = (s.line n).collected t e := s.modLine_line _

theorem bindBank_line : (bindBank n s).line n = (s.line n).boundTo s.plan.active := State.modLine_line _ _

theorem joinNumber_boundProfile : (joinNumber n t e s).boundProfile n = s.boundProfile n := by
  obtain ⟨-, bound, -⟩ := LineCtx.collected_kept t e (s.line n)
  exact State.boundProfile_congr (by simp) (by rw [joinNumber_line, bound])

/-- R63: in COLLECTING, the state in which the matcher is called. -/
def collectNext : State :=
  (joinNumber n t e s).modLine n fun c => c.startTimer .complete (s.boundProfile n).completeMs

/-- R62: from SEIZED under EN_BLOC, the state in which the matcher is called. -/
def collectFirst : State :=
  (bindBank n (joinNumber n t e ((ensureDraft n s).modLine n fun c => { c with number := [] }))).modLine n fun c =>
    c.enterCollecting (s.boundProfile n).completeMs

theorem symbolCollecting_eq : symbolCollecting n t e s = callMatcher n (collectNext n t e s) := by
  unfold symbolCollecting
  dsimp only
  rw [joinNumber_boundProfile]
  rfl

/-- R63: the context in which the matcher is called in COLLECTING. -/
theorem collectNext_line :
    (collectNext n t e s).line n
      = ((s.line n).collected t e).startTimer .complete (s.boundProfile n).completeMs := by
  rw [collectNext, State.modLine_line, joinNumber_line]

theorem collectNext_context :
    ((collectNext n t e s).line n).state = (s.line n).state ∧ ((collectNext n t e s).line n).bound = (s.line n).bound ∧
      ((collectNext n t e s).line n).queue = (s.line n).queue ∧
      ((collectNext n t e s).line n).number = (s.line n).number ++ [t] ∧
      ((collectNext n t e s).line n).boundBank = (s.line n).boundBank := by
  obtain ⟨state, bound, queue, number, bank⟩ := LineCtx.collected_kept t e (s.line n)
  obtain ⟨state', bound', queue', number', bank', -⟩ := LineCtx.setTimer_kept .complete
    (.running 0 (s.boundProfile n).completeMs) ((s.line n).collected t e)
  rw [collectNext_line, LineCtx.startTimer]
  exact ⟨state'.trans state, bound'.trans bound, queue'.trans queue, number'.trans number, bank'.trans bank⟩

theorem collectNext_boundProfile : (collectNext n t e s).boundProfile n = s.boundProfile n := by
  obtain ⟨-, bound, -⟩ := collectNext_context n t e s
  exact State.boundProfile_congr (by simp [collectNext]) bound

/-- R63: the draft when the matcher is called in COLLECTING. -/
theorem collectNext_draft {d : Draft} (h : (s.line n).draft = .opened d) :
    ((collectNext n t e s).line n).draft
      = .opened { d.recordTone t e with numberLen := (s.line n).number.length + 1 } := by
  have collected : ((s.line n).collected t e).draft
      = .opened (d.recordNumber t e ((s.line n).number ++ [t]).length) := LineCtx.mapDraft_draft_opened h
  rw [List.length_append] at collected
  rw [collectNext_line]
  exact collected

theorem collectNext_plan : (collectNext n t e s).plan = s.plan := by simp [collectNext]

theorem collectNext_boundEntries : boundEntries (collectNext n t e s) n = boundEntries s n := by
  obtain ⟨-, -, -, -, bank⟩ := collectNext_context n t e s
  exact boundEntries_congr (collectNext_plan n t e s) bank

/-- R62, R93: the context of an EN_BLOC line whose first symbol is in the number register and whose bank is bound. -/
theorem bindBank_collected_line :
    (bindBank n (joinNumber n t e ((ensureDraft n s).modLine n fun c => { c with number := [] }))).line n
      = ({ (ensureDraft n s).line n with number := [] }.collected t e).boundTo s.plan.active := by
  have active : (joinNumber n t e ((ensureDraft n s).modLine n fun c => { c with number := [] })).plan = s.plan := by
    simp
  rw [bindBank_line, joinNumber_line, State.modLine_line, active]

theorem collectFirst_line :
    (collectFirst n t e s).line n =
      (({ (ensureDraft n s).line n with number := [] }.collected t e).boundTo s.plan.active).enterCollecting
        (s.boundProfile n).completeMs := by
  rw [collectFirst, State.modLine_line, bindBank_collected_line]

/-- R62: what the context holds when the matcher is called for the first symbol. -/
theorem collectFirst_context :
    ((collectFirst n t e s).line n).bound = (s.line n).bound ∧
      ((collectFirst n t e s).line n).queue = (s.line n).queue ∧
      ((collectFirst n t e s).line n).number = [t] ∧
      ((collectFirst n t e s).line n).boundBank = some s.plan.active := by
  have ensured := ensureDraft_ensures n s
  obtain ⟨-, bound, queue, number, -⟩ := LineCtx.collected_kept t e { (ensureDraft n s).line n with number := [] }
  obtain ⟨bound', queue', number', bank⟩ :=
    LineCtx.boundTo_kept s.plan.active ({ (ensureDraft n s).line n with number := [] }.collected t e)
  obtain ⟨bound'', queue'', number'', bank'', -⟩ := LineCtx.enterCollecting_kept (s.boundProfile n).completeMs
    (({ (ensureDraft n s).line n with number := [] }.collected t e).boundTo s.plan.active)
  rw [collectFirst_line]
  exact ⟨((bound''.trans bound').trans bound).trans ensured.bound,
    ((queue''.trans queue').trans queue).trans ensured.queue, (number''.trans number').trans number, bank''.trans bank⟩

/-- R63, R93: the draft when the matcher is called for the first symbol. -/
theorem collectFirst_draft {d : Draft} (h : (s.line n).draft = .opened d) :
    ((collectFirst n t e s).line n).draft
      = .opened { d.recordTone t e with numberLen := 1, bank := some s.plan.active } := by
  have collected : ({ s.line n with number := [] }.collected t e).draft = .opened (d.recordNumber t e 1) :=
    LineCtx.mapDraft_draft_opened h
  obtain ⟨-, -, -, -, kept⟩ := LineCtx.enterCollecting_kept (s.boundProfile n).completeMs
    (({ (ensureDraft n s).line n with number := [] }.collected t e).boundTo s.plan.active)
  rw [collectFirst_line, kept, (ensureDraft_ensures n s).opened d h]
  exact LineCtx.mapDraft_draft_opened (f := Draft.recordBank s.plan.active)
    (c := { { s.line n with number := [] }.collected t e with boundBank := some s.plan.active }) collected

/-- R93: the active bank counts the line just bound. -/
theorem collectFirst_bank :
    (collectFirst n t e s).bank s.plan.active
      = { s.bank s.plan.active with refCount := (s.bank s.plan.active).refCount + 1 } := by
  simp [collectFirst, bindBank]

theorem collectFirst_boundProfile : (collectFirst n t e s).boundProfile n = s.boundProfile n :=
  State.boundProfile_congr (by simp [collectFirst]) (collectFirst_context n t e s).1

theorem collectFirst_boundEntries :
    boundEntries (collectFirst n t e s) n = (s.bank s.plan.active).entries := by
  obtain ⟨-, -, -, bank⟩ := collectFirst_context n t e s
  rw [boundEntries_of_bound bank, collectFirst_bank]

theorem symbolSeized_enBloc (h : (s.boundProfile n).mode = .enBloc) :
    symbolSeized n t e s = callMatcher n (collectFirst n t e s) := by
  have profile : (bindBank n (joinNumber n t e ((ensureDraft n s).modLine n fun c =>
      { c with number := [] }))).boundProfile n = s.boundProfile n := by
    refine State.boundProfile_congr (by simp) ?_
    obtain ⟨bound, -⟩ := collectFirst_context n t e s
    rw [collectFirst, State.modLine_line] at bound
    rw [← bound, (LineCtx.enterCollecting_kept _ _).1]
  unfold symbolSeized
  simp only [ensureDraft_boundProfile, h, profile]
  rfl

end

/-! ### A symbol collected, and one that decides -/

section
variable {n : LineNo} {w : State} {c : LineCtx} {p : Profile} (line : w.line n = c) (profile : w.boundProfile n = p)
  (t : Tone) (e : Bool)
include line profile

/-- R62, R95: the first symbol of an EN_BLOC line, which the matcher does not decide on. -/
theorem takeSymbol_collectsFirst (seized : c.state = .seized) (enBloc : p.mode = .enBloc)
    (waits : matchSymbol (w.bank w.plan.active).entries p.unmatchedAction [t] = none) {u : State}
    (hu : u = afterEvent n (takeSymbol n t e w)) :
    (u.line n).state = .collecting ∧ (u.line n).number = [t] ∧ (u.line n).boundBank = some w.plan.active ∧
      (u.bank w.plan.active).refCount = (w.bank w.plan.active).refCount + 1 ∧
      (u.line n).timer .firstDigit = .stopped ∧ (u.line n).timer .complete = .running 0 p.completeMs ∧
      (u.line n).queue.map QueueEntry.what = c.queue.map QueueEntry.what := by
  subst line profile
  obtain ⟨-, queue, number, bank⟩ := collectFirst_context n t e w
  have context := collectFirst_line n t e w
  obtain ⟨firstDigit, complete⟩ := LineCtx.enterCollecting_timers (w.boundProfile n).completeMs
    (({ (ensureDraft n w).line n with number := [] }.collected t e).boundTo w.plan.active)
  rw [← context] at firstDigit complete
  have taken : takeSymbol n t e w = collectFirst n t e w := by
    rw [takeSymbol_seized seized, symbolSeized_enBloc n t e w enBloc]
    apply callMatcher_waits
    rw [collectFirst_boundEntries, collectFirst_boundProfile, number]
    exact waits
  have collecting : ((collectFirst n t e w).line n).state = .collecting := by rw [context]; rfl
  have keeps := afterEvent_keeps (by rw [collecting]; exact nofun : ((collectFirst n t e w).line n).state ≠ .sending)
  have plan : (afterEvent n (collectFirst n t e w)).plan = (collectFirst n t e w).plan := by simp
  rw [hu, taken, State.bank_def, plan, ← State.bank_def, collectFirst_bank, keeps.state, keeps.number, keeps.boundBank,
    keeps.timer .firstDigit nofun nofun, keeps.timer .complete nofun nofun, keeps.queue, collecting, number, bank,
    queue, firstDigit, complete]
  exact ⟨rfl, rfl, rfl, rfl, rfl, rfl, rfl⟩

/-- R63, R95: a further symbol, which the matcher does not decide on. -/
theorem takeSymbol_collectsNext (collecting : c.state = .collecting)
    (waits : matchSymbol (boundEntries w n) p.unmatchedAction (c.number ++ [t]) = none) {u : State}
    (hu : u = afterEvent n (takeSymbol n t e w)) :
    (u.line n).state = .collecting ∧ (u.line n).number = c.number ++ [t] ∧ (u.line n).boundBank = c.boundBank ∧
      (u.line n).timer .complete = .running 0 p.completeMs ∧
      (u.line n).queue.map QueueEntry.what = c.queue.map QueueEntry.what := by
  subst line profile
  obtain ⟨state, -, queue, number, bank⟩ := collectNext_context n t e w
  have taken : takeSymbol n t e w = collectNext n t e w := by
    rw [takeSymbol_collecting collecting, symbolCollecting_eq]
    apply callMatcher_waits
    rw [collectNext_boundEntries, collectNext_boundProfile, number]
    exact waits
  have still := state.trans collecting
  have keeps := afterEvent_keeps (by rw [still]; exact nofun : ((collectNext n t e w).line n).state ≠ .sending)
  rw [hu, taken, keeps.state, keeps.number, keeps.boundBank, keeps.timer .complete nofun nofun, keeps.queue, still,
    number, bank, queue, collectNext_line]
  exact ⟨rfl, rfl, rfl, LineCtx.timer_setTimer _ _ _, rfl⟩

/-- R62, R95: the first symbol of an EN_BLOC line, which the matcher decides on. -/
theorem takeSymbol_decidesFirst {v : Verdict} (seized : c.state = .seized) (enBloc : p.mode = .enBloc)
    (decides : matchSymbol (w.bank w.plan.active).entries p.unmatchedAction [t] = some v) :
    takeSymbol n t e w = actOn n v (collectFirst n t e w) := by
  subst line profile
  obtain ⟨-, -, number, -⟩ := collectFirst_context n t e w
  rw [takeSymbol_seized seized, symbolSeized_enBloc n t e w enBloc]
  apply callMatcher_decides
  rw [collectFirst_boundEntries, collectFirst_boundProfile, number]
  exact decides

/-- R63, R95: a further symbol, which the matcher decides on. -/
theorem takeSymbol_decidesNext {v : Verdict} (collecting : c.state = .collecting)
    (decides : matchSymbol (boundEntries w n) p.unmatchedAction (c.number ++ [t]) = some v) :
    takeSymbol n t e w = actOn n v (collectNext n t e w) := by
  subst line profile
  obtain ⟨-, -, -, number, -⟩ := collectNext_context n t e w
  rw [takeSymbol_collecting collecting, symbolCollecting_eq]
  apply callMatcher_decides
  rw [collectNext_boundEntries, collectNext_boundProfile, number]
  exact decides

end

end Sys2Proof.Machine
end

section
/-! The end of an escape, which no outcome of its digit reopens (R54, R55), and the completed digit (O42). -/

namespace Sys2Proof.Machine

/-! ### The end of an escape -/

/-- Escape pending, the escaped digit and the escape timer are as they were. -/
structure EscapeKept (c d : LineCtx) : Prop where
  escapePending : d.escapePending = c.escapePending
  escapedDigit : d.escapedDigit = c.escapedDigit
  timer : d.timer .escape = c.timer .escape

namespace EscapeKept

variable {c d e : LineCtx}

theorem refl (c : LineCtx) : EscapeKept c c := ⟨rfl, rfl, rfl⟩

theorem trans (h : EscapeKept c d) (k : EscapeKept d e) : EscapeKept c e :=
  ⟨k.escapePending.trans h.escapePending, k.escapedDigit.trans h.escapedDigit, k.timer.trans h.timer⟩

theorem setTimer (c : LineCtx) {k : TimerKind} (hk : k ≠ .escape) (t : Timer) : EscapeKept c (c.setTimer k t) :=
  ⟨rfl, rfl, c.timer_setTimer_of_ne hk.symm t⟩

theorem stopTimer (c : LineCtx) {k : TimerKind} (hk : k ≠ .escape) : EscapeKept c (c.stopTimer k) :=
  setTimer c hk .stopped

theorem startTimer (c : LineCtx) {k : TimerKind} (hk : k ≠ .escape) (length : Nat) :
    EscapeKept c (c.startTimer k length) :=
  setTimer c hk (.running 0 length)

theorem enterCollecting (c : LineCtx) (completeMs : Nat) : EscapeKept c (c.enterCollecting completeMs) := by
  have stopped := stopTimer c (k := .firstDigit) nofun
  have started := startTimer (c.stopTimer .firstDigit) (k := .complete) nofun completeMs
  exact (stopped.trans started).trans ⟨rfl, rfl, rfl⟩

theorem mapDraft (c : LineCtx) (f : Draft → Draft) : EscapeKept c (c.mapDraft f) := by
  unfold LineCtx.mapDraft
  split <;> exact ⟨rfl, rfl, rfl⟩

theorem of_touches (h : PoolTouches c d) : EscapeKept c d :=
  ⟨h.escapePending, h.escapedDigit, h.timers .escape nofun nofun nofun⟩

theorem of_ensured (h : DraftEnsured c d) : EscapeKept c d := ⟨h.escapePending, h.escapedDigit, h.timer .escape nofun⟩

end EscapeKept

/-- R54, R55: no escape is pending on the line, no digit of it is escaped, and its escape timer is stopped. -/
def EscapeEnded (n : LineNo) (s : State) : Prop :=
  (s.line n).escapePending = false ∧ (s.line n).escapedDigit = false ∧ (s.line n).timer .escape = .stopped

namespace EscapeEnded

variable {n : LineNo} {s t : State}

theorem kept (h : EscapeEnded n s) (k : EscapeKept (s.line n) (t.line n)) : EscapeEnded n t :=
  ⟨k.escapePending.trans h.1, k.escapedDigit.trans h.2.1, k.timer.trans h.2.2⟩

theorem lines (h : EscapeEnded n s) (k : t.lines = s.lines) : EscapeEnded n t :=
  h.kept (by rw [State.line_def, State.line_def, k]; exact .refl _)

theorem modLine (h : EscapeEnded n s) {f : LineCtx → LineCtx} (k : ∀ c, EscapeKept c (f c)) :
    EscapeEnded n (s.modLine n f) :=
  h.kept (by rw [State.modLine_line]; exact k _)

theorem inDraft (h : EscapeEnded n s) (f : Draft → Draft) : EscapeEnded n (inDraft n f s) :=
  h.modLine fun c => .mapDraft c f

theorem endEscape (n : LineNo) (s : State) : EscapeEnded n (endEscape n s) := by
  rw [EscapeEnded, endEscape_eq, State.modLine_line]
  exact ⟨rfl, rfl, LineCtx.timer_setTimer _ _ _⟩

theorem afterEvent (h : EscapeEnded n s) (m : LineNo) : EscapeEnded n (afterEvent m s) :=
  h.kept (.of_touches (afterEvent_touches m s n))

theorem ensureDraft (h : EscapeEnded n s) : EscapeEnded n (ensureDraft n s) :=
  h.kept (.of_ensured (ensureDraft_ensures n s))

theorem unbindBank (h : EscapeEnded n s) : EscapeEnded n (unbindBank n s) :=
  h.kept (by rw [unbindBank_line]; exact ⟨rfl, rfl, rfl⟩)

theorem closeDraft (h : EscapeEnded n s) (k : CloseCause) : EscapeEnded n (closeDraft n k s) := by
  have stopped := EscapeKept.stopTimer (s.line n) (k := .quiet) nofun
  refine h.kept ?_
  rw [closeDraft_line]
  split
  · exact .refl _
  · exact stopped.trans ⟨rfl, rfl, rfl⟩
  · exact stopped.trans ⟨rfl, rfl, rfl⟩

/-- R82: a teardown ends an escape. -/
theorem teardown (n : LineNo) (k : CloseCause) (s : State) : EscapeEnded n (teardown n k s) := by
  obtain ⟨unrecorded, steps⟩ := teardownSteps_line n k s
  have torn : EscapeEnded n (tornDown n k s) := by
    rw [EscapeEnded, tornDown, State.modLine_line, steps]
    cases k.stateAfter <;> exact ⟨rfl, rfl, Table.get_replicate _ _⟩
  rw [teardown_eq]
  exact torn.afterEvent n

theorem recordDecision (h : EscapeEnded n s) (i : Option Nat) (a : PlanAction) (k : Nat) (e u : Bool) :
    EscapeEnded n (recordDecision n i a k e u s) := by
  have unbound := (h.modLine fun c => EscapeKept.stopTimer c (k := .complete) nofun).unbindBank
  unfold Machine.recordDecision
  dsimp only
  split
  · exact lines (unbound.inDraft _) (raise_frame .emergency _).2.2.2.2.2.1
  · exact unbound.inDraft _

theorem decideSend (h : EscapeEnded n s) (i : Option Nat) (a : PlanAction) (k : ServiceClass) (x : List Tone)
    (e u : Bool) : EscapeEnded n (decideSend n i a k x e u s) := by
  have recorded := h.recordDecision i a x.length e u
  unfold Machine.decideSend
  dsimp only
  split
  · refine modLine (closeDraft ?_ .complete) fun c => ⟨rfl, rfl, rfl⟩
    exact modLine recorded fun c => ⟨rfl, rfl, rfl⟩
  · exact modLine recorded fun c => ⟨rfl, rfl, rfl⟩

theorem actOn (h : EscapeEnded n s) (v : Verdict) : EscapeEnded n (actOn n v s) := by
  unfold Machine.actOn
  split
  · split
    · exact teardown _ _ _
    · exact h.decideSend _ _ _ _ _ _
    · exact h.decideSend _ _ _ _ _ _
    · exact h.decideSend _ _ _ _ _ _
  · exact h.decideSend _ _ _ _ _ _
  · exact teardown _ _ _
  · exact teardown _ _ _

theorem callMatcher (h : EscapeEnded n s) : EscapeEnded n (callMatcher n s) := by
  unfold Machine.callMatcher
  split
  · exact h.actOn _
  · exact h

theorem joinNumber (h : EscapeEnded n s) (t : Tone) (e : Bool) : EscapeEnded n (joinNumber n t e s) :=
  h.modLine fun c => .trans (d := { c with number := c.number ++ [t] }) ⟨rfl, rfl, rfl⟩ (.mapDraft _ _)

theorem bindBank (h : EscapeEnded n s) : EscapeEnded n (bindBank n s) :=
  h.kept (by
    rw [bindBank_line]
    exact .trans (d := { s.line n with boundBank := some s.plan.active }) ⟨rfl, rfl, rfl⟩ (.mapDraft _ _))

theorem collectFirst (h : EscapeEnded n s) (t : Tone) (e : Bool) : EscapeEnded n (collectFirst n t e s) := by
  unfold Machine.collectFirst
  refine modLine (bindBank (joinNumber (modLine h.ensureDraft fun c => ?_) t e)) fun c => .enterCollecting c _
  exact ⟨rfl, rfl, rfl⟩

theorem enterConverting (h : EscapeEnded n s) : EscapeEnded n (enterConverting n s) := by
  refine modLine h fun c => ?_
  have quiet := EscapeKept.startTimer { c with state := .converting } (k := .quiet) nofun (s.boundProfile n).quietMs
  dsimp only
  split
  · exact .trans (d := { c with state := .converting }) ⟨rfl, rfl, rfl⟩ quiet
  · exact ⟨rfl, rfl, rfl⟩

theorem symbolSeized (h : EscapeEnded n s) (t : Tone) (e : Bool) : EscapeEnded n (symbolSeized n t e s) := by
  cases mode : (s.boundProfile n).mode with
  | direct =>
    rw [symbolSeized_direct mode]
    refine enterConverting (modLine (modLine (h.ensureDraft.inDraft _) fun c => ?_) fun c => ?_)
    · exact ⟨rfl, rfl, rfl⟩
    · exact .stopTimer c (k := .firstDigit) nofun
  | enBloc =>
    rw [symbolSeized_enBloc n t e s mode]
    exact (h.collectFirst t e).callMatcher

theorem symbolConverting (h : EscapeEnded n s) (t : Tone) (e : Bool) : EscapeEnded n (symbolConverting n t e s) := by
  have recorded := h.ensureDraft.inDraft (Draft.recordTone t e)
  unfold Machine.symbolConverting
  dsimp only
  refine modLine ?_ fun c => .setTimer c (k := .quiet) nofun _
  split
  · exact modLine recorded fun c => ⟨rfl, rfl, rfl⟩
  · exact recorded.inDraft _

/-- What a symbol brings in any line state leaves an escape ended. -/
theorem takeSymbol (h : EscapeEnded n s) (t : Tone) (e : Bool) : EscapeEnded n (takeSymbol n t e s) := by
  unfold Machine.takeSymbol
  split
  · exact h.symbolSeized t e
  · exact callMatcher (modLine (h.joinNumber t e) fun c => .setTimer c (k := .complete) nofun _)
  · exact h.inDraft _
  · exact h.symbolConverting t e
  · exact h
  · exact h
  · exact h

end EscapeEnded

/-- R54, R55: an escaped digit ends the escape, whatever it comes to. -/
theorem takeDigit_endsEscape {n : LineNo} {s : State} (h : (s.line n).escapedDigit = true) (count : Nat)
    (corrupt : Bool) : EscapeEnded n (takeDigit n count corrupt s) := by
  have ended := EscapeEnded.endEscape n s
  unfold takeDigit
  simp only [h, if_true]
  refine EscapeEnded.afterEvent ?_ n
  split
  · exact ended.takeSymbol _ _
  · exact ended
  · exact ended.inDraft _
  · exact ended
  · exact ended.inDraft _

/-! ### A REJECT (R53, R56) -/

/-- R56: a REJECT is recorded in the draft that is open, and nothing else comes of it. -/
theorem afterEvent_inDraft_line {n : LineNo} {w : State} {c : LineCtx} (line : w.line n = c)
    (notSending : c.state ≠ .sending) (f : Draft → Draft) {u : State} (hu : u = afterEvent n (inDraft n f w)) :
    (u.line n).state = c.state ∧ (u.line n).number = c.number ∧
      (u.line n).queue.map QueueEntry.what = c.queue.map QueueEntry.what ∧
      (∀ k, k ≠ .generatorWait → k ≠ .proceed → (u.line n).timer k = c.timer k) ∧
      ∀ d, c.draft = .opened d → (u.line n).draft = .opened (f d) := by
  subst line
  obtain ⟨state, queue, timers⟩ := (w.line n).mapDraft_kept f
  obtain ⟨number, -⟩ := LineCtx.mapDraft_register f (w.line n)
  have keeps := afterEvent_keeps (n := n) (s := inDraft n f w) (by rw [inDraft_line, state]; exact notSending)
  rw [hu, keeps.state, keeps.number, keeps.queue, keeps.draft, inDraft_line, state, number, queue]
  refine ⟨rfl, rfl, rfl, fun k hg hp => ?_, fun d hd => LineCtx.mapDraft_draft_opened hd⟩
  rw [keeps.timer k hg hp, inDraft_line, LineCtx.timer, timers]
  rfl

/-! ### The completed digit (R32) -/

/-- R32: the classifier as a completed digit leaves it. -/
def Classifier.completed (c : Classifier) : Classifier :=
  { c with pulse := .steadyClosed, pulseCount := 0, corrupt := false, firstBreak := none, bound := none }

section
variable (n : LineNo) (s : State)

theorem completeDigit_eq :
    completeDigit n s = takeDigit n (s.classifier n).pulseCount (s.classifier n).corrupt
      (s.modClassifier n Classifier.completed) := rfl

theorem completeDigit_classifiers :
    (completeDigit n s).classifiers = (s.modClassifier n Classifier.completed).classifiers := by
  rw [completeDigit_eq]
  simp

theorem completeDigit_classifier : (completeDigit n s).classifier n = (s.classifier n).completed := by
  rw [State.classifier_def, completeDigit_classifiers]
  exact s.modClassifier_classifier _

theorem completeDigit_otherLoops : OtherLoopsKept n s (completeDigit n s) :=
  .of_modClassifier (completeDigit_classifiers n s) (by simp)

end

section
variable {n : LineNo} {s : State} {escaped : Bool} (mark : (s.line n).escapedDigit = escaped)
include mark

/-- R53: a corrupt digit or too long a count comes to a REJECT. -/
theorem completeDigit_rejects (h : (s.classifier n).corrupt = true ∨ 10 < (s.classifier n).pulseCount) :
    completeDigit n s = afterEvent n (inDraft n (Draft.record .rejectCount)
      (if escaped then endEscape n (s.modClassifier n Classifier.completed)
        else s.modClassifier n Classifier.completed)) :=
  takeDigit_rejectCount (s := s.modClassifier n Classifier.completed) mark (digitOutcome_reject h escaped)

/-- R32, R56: a digit that comes to a tone symbol. -/
theorem completeDigit_tone {count : Nat} (clean : (s.classifier n).corrupt = false)
    (pulses : (s.classifier n).pulseCount = count) {t : Tone}
    (h : digitOutcome (s.boundProfile n) count false escaped = .tone t) :
    completeDigit n s = afterEvent n (takeSymbol n t escaped
      (if escaped then endEscape n (s.modClassifier n Classifier.completed)
        else s.modClassifier n Classifier.completed)) := by
  rw [completeDigit_eq, clean, pulses]
  exact takeDigit_tone (s := s.modClassifier n Classifier.completed) mark h

/-- R54: a digit that the escape table does not map. -/
theorem completeDigit_rejectsEscape {count : Nat} (clean : (s.classifier n).corrupt = false)
    (pulses : (s.classifier n).pulseCount = count)
    (h : digitOutcome (s.boundProfile n) count false escaped = .rejectEscape) :
    completeDigit n s = afterEvent n (inDraft n (Draft.record .rejectEscape)
      (if escaped then endEscape n (s.modClassifier n Classifier.completed)
        else s.modClassifier n Classifier.completed)) := by
  rw [completeDigit_eq, clean, pulses]
  exact takeDigit_rejectEscape (s := s.modClassifier n Classifier.completed) mark h

end

/-- R54: the line's context and profile once an escaped digit has ended its escape. -/
theorem endEscape_completed (n : LineNo) (s : State) :
    (endEscape n (s.modClassifier n Classifier.completed)).line n = (s.line n).endEscape ∧
      (endEscape n (s.modClassifier n Classifier.completed)).boundProfile n = s.boundProfile n := by
  have line : (endEscape n (s.modClassifier n Classifier.completed)).line n = (s.line n).endEscape :=
    State.modLine_line _ _
  exact ⟨line, State.boundProfile_congr rfl (by rw [line]; rfl)⟩

/-- R55: an escaped digit's escape does not say which bank the line is bound to. -/
theorem endEscape_completed_boundEntries (n : LineNo) (s : State) :
    boundEntries (endEscape n (s.modClassifier n Classifier.completed)) n = boundEntries s n :=
  boundEntries_congr rfl (by rw [(endEscape_completed n s).1]; rfl)

/-- Settles O42. -/
theorem Proofs.digitComplete : Obligations.DigitComplete := by
  refine ⟨fun n s due plain => ?_, fun n s due escaped => ?_,
    fun p c closed pulse noChange => ⟨c.flagFrame_bound_digit_iff p closed pulse, c.flagFrame_interval p false closed⟩⟩
  · have classifier := completeDigit_classifier n s
    have line : (s.modClassifier n Classifier.completed).line n = s.line n := rfl
    refine ⟨completeDigit n s, exec_digitComplete_due due, by simp, by simp, by simp, by simp,
      completeDigit_otherLoops n s, by rw [classifier]; rfl, by rw [classifier]; rfl, by rw [classifier]; rfl,
      by rw [classifier]; rfl, by rw [classifier]; rfl, fun reject notSending => ?_,
      fun i t clean pulses translated => ?_⟩
    · have run := completeDigit_rejects plain reject
      rw [if_neg Bool.false_ne_true] at run
      obtain ⟨state, number, queue, timers, draft⟩ := afterEvent_inDraft_line line notSending _ run
      exact ⟨state, number, queue, timers .complete nofun nofun, timers .quiet nofun nofun, draft⟩
    · have run := completeDigit_tone plain clean pulses (digitOutcome_plain translated)
      rw [if_neg Bool.false_ne_true] at run
      generalize hw : s.modClassifier n Classifier.completed = w at run line
      have profile : w.boundProfile n = s.boundProfile n := by rw [← hw]; rfl
      have plan : w.plan = s.plan := by rw [← hw]; rfl
      have entries : boundEntries w n = boundEntries s n := by rw [← hw]; rfl
      refine ⟨fun seized direct => takeSymbol_direct line profile t false seized direct run,
        fun converting room => takeSymbol_room line t false converting room run,
        fun converting full => takeSymbol_full line t false converting full run,
        fun seized enBloc waits => ?_, fun collecting waits => ?_, fun v seized enBloc decides => ?_,
        fun v collecting decides => ?_⟩
      · have collects := takeSymbol_collectsFirst line profile t false seized enBloc
          (by rw [State.bank_def, plan]; exact waits) run
        rw [State.bank_def, State.bank_def, plan] at collects
        exact collects
      · rw [← entries] at waits
        exact takeSymbol_collectsNext line profile t false collecting waits run
      · rw [State.bank_def, ← plan, ← State.bank_def] at decides
        rw [takeSymbol_decidesFirst line profile t false seized enBloc decides] at run
        obtain ⟨-, -, number, bank⟩ := collectFirst_context n t false w
        have counted := congrArg Bank.refCount (collectFirst_bank n t false w)
        rw [State.bank_def, State.bank_def, plan] at counted
        rw [plan] at bank
        refine ⟨collectFirst n t false w, run, by simp [HostSideKept, collectFirst, ← hw], ?_, number, bank, counted,
          fun d hd => ?_⟩
        · rw [collectFirst_line]
          rfl
        · rw [collectFirst_draft n t false w (line ▸ hd), plan]
      · rw [← entries] at decides
        rw [takeSymbol_decidesNext line profile t false collecting decides] at run
        obtain ⟨state, -, -, number, bank⟩ := collectNext_context n t false w
        rw [line] at state number bank
        refine ⟨collectNext n t false w, run, by simp [HostSideKept, collectNext, ← hw],
          (collectNext_plan _ _ _ w).trans plan, state.trans collecting, number, bank, fun d hd => ?_⟩
        rw [collectNext_draft n t false w (line ▸ hd), line]
  · have classifier := completeDigit_classifier n s
    obtain ⟨ended, mark, stopped⟩ : EscapeEnded n (completeDigit n s) :=
      takeDigit_endsEscape (s := s.modClassifier n Classifier.completed) escaped _ _
    obtain ⟨line, profile⟩ := endEscape_completed n s
    have entries := endEscape_completed_boundEntries n s
    refine ⟨completeDigit n s, exec_digitComplete_due due, by simp, by simp, by simp, by simp,
      completeDigit_otherLoops n s, by rw [classifier]; rfl, by rw [classifier]; rfl, by rw [classifier]; rfl,
      ended, mark, stopped, fun reject notSending => ?_, fun i t clean pulses translated =>
        ⟨fun unmapped notSending => ?_, fun j x hj mapped => ?_⟩⟩
    · have run := completeDigit_rejects escaped reject
      rw [if_pos rfl] at run
      obtain ⟨state, -, queue, -, draft⟩ := afterEvent_inDraft_line line notSending _ run
      exact ⟨state, queue, draft⟩
    · have run := completeDigit_rejectsEscape escaped clean pulses (digitOutcome_rejectEscape translated unmapped)
      rw [if_pos rfl] at run
      obtain ⟨state, -, queue, -, draft⟩ := afterEvent_inDraft_line line notSending _ run
      exact ⟨state, queue, draft⟩
    · have run := completeDigit_tone escaped clean pulses (t := x) (by rw [digitOutcome_escaped translated hj, mapped])
      rw [if_pos rfl] at run
      refine ⟨fun seized direct => ?_, fun converting room => ?_, fun collecting waits => ?_⟩
      · obtain ⟨state, -, timer, queue, draft⟩ := takeSymbol_direct line profile x true seized direct run
        exact ⟨state, timer, queue, draft⟩
      · obtain ⟨state, -, queue, draft⟩ := takeSymbol_room line x true converting room run
        exact ⟨state, queue, fun d hd => ⟨(draft d hd).1, Bool.or_true _⟩⟩
      · rw [← entries] at waits
        obtain ⟨state, number, -, timer, -⟩ := takeSymbol_collectsNext line profile x true collecting waits run
        exact ⟨state, number, timer⟩

end Sys2Proof.Machine
end

section
/-! Rounding half to even, the move of P toward a sample (O13), and the inter-digit threshold (O12). -/

namespace Sys2Proof.Machine

/-! ### Rounding half to even -/

/-- `q` is a whole number nearest to `num / den`, and the even one where two are equally near. -/
structure NearestEven (num : Int) (den : Nat) (q : Int) : Prop where
  notAbove : 2 * (q * den) ≤ 2 * num + den
  notBelow : 2 * num ≤ 2 * (q * den) + den
  even : (2 * (q * den) = 2 * num + den ∨ 2 * num = 2 * (q * den) + den) → q % 2 = 0

theorem roundHalfEven_nearestEven (num : Int) {den : Nat} (h : 0 < den) :
    NearestEven num den (roundHalfEven num den) := by
  have parts : num / (den : Int) * den + num % (den : Int) = num := Int.ediv_mul_add_emod num den
  have remainder : 0 ≤ num % (den : Int) := Int.emod_nonneg num (by omega)
  have below : num % (den : Int) < den := Int.emod_lt_of_pos num (by omega)
  have next : (num / (den : Int) + 1) * den = num / (den : Int) * den + den := by ring
  unfold roundHalfEven
  dsimp only
  split
  · constructor <;> omega
  · split
    · constructor <;> omega
    · split <;> constructor <;> omega

namespace NearestEven

variable {num q : Int} {den : Nat}

/-- Rounding goes below no whole number that the fraction is not below. -/
theorem ge_of_mul_le (h : NearestEven num den q) (hd : 0 < den) {a : Int} (ha : a * den ≤ num) : a ≤ q := by
  by_contra below
  have step : (q + 1) * (den : Int) ≤ a * den := Int.mul_le_mul_of_nonneg_right (by omega) (by omega)
  have next : (q + 1) * (den : Int) = q * den + den := by ring
  have := h.notBelow
  omega

/-- Rounding goes above no whole number that the fraction is not above. -/
theorem le_of_le_mul (h : NearestEven num den q) (hd : 0 < den) {b : Int} (hb : num ≤ b * den) : q ≤ b := by
  by_contra above
  have step : (b + 1) * (den : Int) ≤ q * den := Int.mul_le_mul_of_nonneg_right (by omega) (by omega)
  have next : (b + 1) * (den : Int) = b * den + den := by ring
  have := h.notAbove
  omega

end NearestEven

/-! ### The move of P (R47) -/

section
variable (p : Profile) (period sample : Nat)

/-- R47: P and its move, over `2 ^ k`. -/
def movedFraction : Int := (period : Int) * 2 ^ p.weightShift + ((sample : Int) - (period : Int))

theorem min_le_movedFraction :
    ((min period sample : Nat) : Int) * (2 ^ p.weightShift : Nat) ≤ movedFraction p period sample := by
  have weight : 0 < 2 ^ p.weightShift := Nat.two_pow_pos _
  unfold movedFraction
  push_cast at weight ⊢
  rcases Nat.le_total period sample with h | h
  · rw [min_eq_left (by omega)]
    omega
  · rw [min_eq_right (by omega)]
    nlinarith

theorem movedFraction_le_max :
    movedFraction p period sample ≤ ((max period sample : Nat) : Int) * (2 ^ p.weightShift : Nat) := by
  have weight : 0 < 2 ^ p.weightShift := Nat.two_pow_pos _
  unfold movedFraction
  push_cast at weight ⊢
  rcases Nat.le_total period sample with h | h
  · rw [max_eq_right (by omega)]
    nlinarith
  · rw [max_eq_left (by omega)]
    omega

/-- R47: the new P is the exact move rounded half to even, which lies between the old P and the sample. -/
theorem movePeriod_nearestEven :
    NearestEven (movedFraction p period sample) (2 ^ p.weightShift) (movePeriod p period sample) ∧
      min period sample ≤ movePeriod p period sample ∧ movePeriod p period sample ≤ max period sample := by
  have weight : 0 < 2 ^ p.weightShift := Nat.two_pow_pos _
  have nearest := roundHalfEven_nearestEven (movedFraction p period sample) weight
  have low := nearest.ge_of_mul_le weight (min_le_movedFraction p period sample)
  have high := nearest.le_of_le_mul weight (movedFraction_le_max p period sample)
  have moved : (movePeriod p period sample : Int) = roundHalfEven (movedFraction p period sample) (2 ^ p.weightShift) :=
    Int.toNat_of_nonneg (show 0 ≤ roundHalfEven (movedFraction p period sample) _ by omega)
  rw [← moved] at nearest low high
  exact ⟨nearest, by omega, by omega⟩

end

/-- Settles O13. -/
theorem periodMovesTowardSample : Obligations.PeriodMovesTowardSample := by
  intro p period sample _ k exact q
  obtain ⟨nearest, low, high⟩ := movePeriod_nearestEven p period sample
  have same : movedFraction p period sample = exact := by simp [movedFraction, exact, k]
  rw [same] at nearest
  exact ⟨⟨nearest.notAbove, nearest.notBelow⟩, nearest.even, low, high⟩

/-! ### The inter-digit threshold (R48) -/

/-- R48: the exact threshold is rounded half to even before it is held to the profile's floor and ceiling. -/
theorem idtOf_rounds (p : Profile) (period : Nat) : ∃ x : Nat,
    NearestEven ((period * p.idtFactor : Nat) : Int) 8 x ∧
      idtOf p period = if x < 8 * p.idtFloor then 8 * p.idtFloor
        else if 8 * p.idtCeiling < x then 8 * p.idtCeiling else x := by
  have nearest := roundHalfEven_nearestEven ((period * p.idtFactor : Nat) : Int) (den := 8) (by decide)
  have nonneg : 0 ≤ roundHalfEven ((period * p.idtFactor : Nat) : Int) 8 :=
    nearest.ge_of_mul_le (by decide) (by omega)
  exact ⟨_, by rwa [Int.toNat_of_nonneg nonneg], rfl⟩

/-- R45, R61: what an accepted seizure binds, and what it loads under that profile. -/
theorem takeSeizure_loads (n : LineNo) (s : State) :
    (takeSeizure n s).estimator n = Estimator.load (s.namedProfile n) ∧
      ((takeSeizure n s).line n).bound = some (s.namedProfile n) := by
  obtain ⟨bound, -⟩ := (s.line n).seized_kept (s.namedProfile n) (s.slotPath.incoming.get n)
  have touched := afterEvent_touches n (seizeLine n s) n
  rw [takeSeizure_eq, afterEvent_estimator, touched.bound, seizeLine_line]
  exact ⟨seizeLine_estimator n s, bound⟩

/-- R31, R47: an open accepted in MAKE after a pulse break gives the estimator its pair. -/
theorem acceptChange_takesPair {n : LineNo} {s : State} (seized : (s.line n).state.seizedOn = true)
    (closed : (s.classifier n).accepted = true) (pulse : (s.classifier n).pulse = .make)
    (paired : (s.classifier n).lastBreakPulse = true) :
    (acceptChange n s).estimator n
      = (s.estimator n).take (s.boundProfile n) (s.classifier n).lastBreak (s.classifier n).interval := by
  have level : (s.modClassifier n Classifier.acceptLevel).classifier n = (s.classifier n).acceptLevel :=
    s.modClassifier_classifier _
  rw [acceptChange_of_open seized closed, openAccepted_make _ (by rw [level]; exact pulse), level,
    if_pos (show (s.classifier n).acceptLevel.lastBreakPulse = true from paired), State.modEstimator_estimator]
  rfl

/-- Settles O12. -/
theorem interDigitThreshold : Obligations.InterDigitThreshold := by
  refine ⟨fun p period => ?_, fun p => ⟨rfl, rfl⟩, fun p b m e => rfl,
    fun n s due => ⟨_, exec_seizure_due due, takeSeizure_loads n s⟩,
    fun n s due seized closed pulse paired =>
      ⟨_, exec_loopChangeAccepted_due due, acceptChange_takesPair seized closed pulse paired⟩, by decide⟩
  obtain ⟨x, nearest, idt⟩ := idtOf_rounds p period
  obtain ⟨notAbove, notBelow, even⟩ := nearest
  exact ⟨x, by omega, by omega, idt⟩

end Sys2Proof.Machine
end

section
/-! The stored profiles, the tone table and every estimator's P stay in range over every step (O7). -/

namespace Sys2Proof.Machine

/-! ### What most of the part leaves alone -/

/-- The stored profiles, the tone table and the estimators are as they were. -/
structure StoreKept (s t : State) : Prop where
  profiles : t.settings.profiles = s.settings.profiles
  tones : t.settings.tones = s.settings.tones
  estimators : t.estimators = s.estimators

namespace StoreKept

variable {s t u : State}

theorem of_blocks (hs : t.settings = s.settings) (he : t.estimators = s.estimators) : StoreKept s t :=
  ⟨by rw [hs], by rw [hs], he⟩

theorem refl (s : State) : StoreKept s s := ⟨rfl, rfl, rfl⟩

theorem trans (h : StoreKept s t) (k : StoreKept t u) : StoreKept s u :=
  ⟨k.profiles.trans h.profiles, k.tones.trans h.tones, k.estimators.trans h.estimators⟩

theorem storeLegal (h : StoreKept s t) (hs : s.StoreLegal) : t.StoreLegal := by
  simp only [State.StoreLegal, State.estimator_def, h.profiles, h.tones, h.estimators]
  exact hs

end StoreKept

/-! ### Changes that stay in range -/

/-- R47: a pair, whose sample is at most 4095, leaves P at most 4095. -/
theorem Estimator.take_p_le {e : Estimator} (h : e.p ≤ 4095) (p : Profile) (b m : Nat) :
    (e.take p b m).p ≤ 4095 := by
  obtain ⟨-, -, moved⟩ := movePeriod_nearestEven p e.p (pairSample b m)
  have sample : pairSample b m ≤ 4095 := Nat.min_le_left _ _
  exact moved.trans (max_le h sample)

/-- R44, R45: a legal profile's initial period is at most 250 ms. -/
theorem Estimator.load_p_le {p : Profile} (h : p.Legal) : (Estimator.load p).p ≤ 4095 := by
  obtain ⟨-, -, -, -, -, -, -, initPeriod, -⟩ := h
  show 8 * p.initPeriodMs ≤ 4095
  omega

namespace State.StoreLegal

variable {s : State}

theorem namedProfile (h : s.StoreLegal) (n : LineNo) : (s.namedProfile n).Legal := h.1 _

theorem modEstimator (h : s.StoreLegal) (n : LineNo) {f : Estimator → Estimator}
    (hf : (s.estimator n).p ≤ 4095 → (f (s.estimator n)).p ≤ 4095) : (s.modEstimator n f).StoreLegal := by
  obtain ⟨profiles, tones, periods⟩ := h
  refine ⟨profiles, tones, fun m => ?_⟩
  by_cases e : m = n
  · rw [e, State.modEstimator_estimator]
    exact hf (periods n)
  · rw [State.modEstimator_estimator_of_ne _ _ e]
    exact periods m

theorem setProfile (h : s.StoreLegal) (i : ProfileNo) {p : Profile} (hp : p.Legal) :
    (s.modSettings fun st => { st with profiles := st.profiles.set i p }).StoreLegal := by
  obtain ⟨profiles, tones, periods⟩ := h
  refine ⟨fun j => ?_, tones, periods⟩
  simp only [State.modSettings_settings, Table.get_set]
  split
  · exact hp
  · exact profiles j

/-- R139: the table of a LOAD_TONES is built with its derived values. -/
theorem setTones (h : s.StoreLegal) (passed : List ToneFields) :
    (s.modSettings fun st => { st with tones := toneTable passed }).StoreLegal := by
  obtain ⟨profiles, -, periods⟩ := h
  refine ⟨profiles, fun i => ?_, periods⟩
  simp only [State.modSettings_settings, toneTable, Table.get_ofFn]
  exact ⟨rfl, rfl⟩

/-- R84, R135: the default profiles are legal, and the default tones carry their derived values. -/
theorem of_reset (hs : s.settings = .reset) (he : s.estimators = State.reset.estimators) : s.StoreLegal := by
  refine ⟨fun i => ?_, fun i => ?_, fun n => ?_⟩
  · simp only [hs, Settings.reset, Table.get_replicate]
    unfold Profile.Legal
    decide
  · rw [hs]
    fin_cases i <;> exact ⟨rfl, rfl⟩
  · simp [he, State.reset]

end State.StoreLegal

/-! ### Effects that keep the store legal -/

/-- An effect that takes a legal store to a legal one. -/
def KeepsStoreLegal (k : State → State) : Prop := ∀ s, s.StoreLegal → (k s).StoreLegal

namespace KeepsStoreLegal

variable {j k : State → State}

theorem of_kept (h : ∀ s, StoreKept s (k s)) : KeepsStoreLegal k := fun s => (h s).storeLegal

theorem of_blocks (hs : ∀ s, (k s).settings = s.settings) (he : ∀ s, (k s).estimators = s.estimators) :
    KeepsStoreLegal k := of_kept fun s => .of_blocks (hs s) (he s)

theorem comp (hk : KeepsStoreLegal k) (hj : KeepsStoreLegal j) : KeepsStoreLegal fun s => k (j s) :=
  fun s hs => hk _ (hj s hs)

theorem epilogue (hk : KeepsStoreLegal k) : KeepsStoreLegal fun s => epilogue (k s) :=
  comp (of_blocks (by simp) (by simp)) hk

theorem whenDue (e : Due) (hk : KeepsStoreLegal k) : KeepsStoreLegal (whenDue e k) := fun s hs => by
  unfold Machine.whenDue
  split
  · exact hk.epilogue s hs
  · exact hs

theorem whenDone (p : Purpose) (hk : KeepsStoreLegal k) : KeepsStoreLegal (whenDone p k) := fun s hs => by
  have freed : (freeBus s).StoreLegal := of_blocks (by simp) (by simp) s hs
  unfold Machine.whenDone
  split
  · exact hs
  · split
    · split
      · exact epilogue (of_kept .refl) _ freed
      · exact hk.epilogue _ freed
    · exact hs

theorem unlessAborted (hk : KeepsStoreLegal k) : KeepsStoreLegal (unlessAborted k) := fun s hs => by
  unfold Machine.unlessAborted
  split
  · exact of_blocks (by simp) (by simp) s hs
  · exact hk s hs

theorem whenBody (c : Instr) (b : OrderBody) (hk : KeepsStoreLegal k) : KeepsStoreLegal (whenBody c b k) :=
  fun s hs => by
    have held : KeepsStoreLegal (holdBody b) := of_blocks (by simp) (by simp)
    unfold Machine.whenBody
    split
    · exact ((hk.comp held).unlessAborted.whenDone .bodyRead) s hs
    · exact hs

end KeepsStoreLegal

/-! ### The events of the part -/

theorem openAccepted_storeLegal (n : LineNo) (len : Nat) : KeepsStoreLegal (openAccepted n len) := fun s hs => by
  have accepted : (s.modClassifier n (Classifier.acceptOpen s.slotPath.runClock)).StoreLegal := hs
  unfold openAccepted
  dsimp only
  split
  · exact accepted
  · split
    · exact accepted.modEstimator n fun h => Estimator.take_p_le h _ _ _
    · exact accepted
  · exact accepted
  · exact accepted
  · exact accepted

theorem acceptChange_storeLegal (n : LineNo) : KeepsStoreLegal (acceptChange n) := fun s hs => by
  have level : (s.modClassifier n Classifier.acceptLevel).StoreLegal := hs
  unfold acceptChange
  dsimp only
  split
  · split
    · exact StoreKept.storeLegal (.of_blocks (by simp) (by simp)) level
    · exact openAccepted_storeLegal n _ _ level
  · exact level

theorem takeSeizure_storeLegal (n : LineNo) : KeepsStoreLegal (takeSeizure n) := fun s hs => by
  have loaded : (seizeLine n s).StoreLegal :=
    State.StoreLegal.modEstimator (s := s.modClassifier n fun c => { c with seizureCount := 0, bound := none }) hs n
      (f := fun _ => Estimator.load (s.namedProfile n)) fun _ => Estimator.load_p_le (hs.namedProfile n)
  rw [takeSeizure_eq]
  exact StoreKept.storeLegal (.of_blocks (by simp) (by simp)) loaded

/-- Of the part's events only an accepted change and a seizure reach the store, at an estimator. -/
theorem takeDue_storeLegal (e : Due) : KeepsStoreLegal (takeDue e) := by
  cases e with
  | loopChange n => exact acceptChange_storeLegal n
  | seizure n => exact takeSeizure_storeLegal n
  | millisecond | longOpen _ | clear _ | digit _ | timer _ _ | onExpiry _ | gapExpiry _ | holdExpiry _ | sweep =>
    exact .of_blocks (by simp) (by simp [takeDue])

theorem takeOne_storeLegal : KeepsStoreLegal takeOne := fun s hs => by
  have advanced : KeepsStoreLegal advance := .of_blocks (by simp) (by simp)
  have drawn : s.draw.StoreLegal := hs
  unfold takeOne
  split
  · refine advanced _ (takeDue_storeLegal _ _ ?_)
    split
    · exact hs
    · exact drawn
  · exact hs

theorem settle_storeLegal (k : Nat) : KeepsStoreLegal (settle k) := by
  induction k with
  | zero => exact fun s hs => hs
  | succ k ih =>
    intro s hs
    rw [settle]
    split
    · exact hs
    · exact ih _ (takeOne_storeLegal s hs)

theorem concludeIfQuiet_storeLegal : KeepsStoreLegal concludeIfQuiet := .of_blocks (by simp) (by simp)

theorem enterMoment_storeLegal : KeepsStoreLegal enterMoment :=
  have begun : KeepsStoreLegal beginMoment := .of_blocks (by simp) (by simp)
  have sent : KeepsStoreLegal sendTrunk := .of_blocks (by simp) (by simp)
  sent.comp (concludeIfQuiet_storeLegal.comp ((settle_storeLegal 1024).comp begun))

/-! ### The orders on the settings store -/

/-- R87: SET_LINE writes a line setting, and reaches neither the profiles nor the tones. -/
theorem setLine_kept (b : OrderBody) (s : State) : StoreKept s (setLine b s) := by
  unfold setLine
  (repeat' split) <;> constructor <;> simp [applySetting]

theorem firstFailure_eq_none_iff {checks : List (Nat × Bool)} :
    firstFailure checks = none ↔ ∀ x ∈ checks, x.2 = true := by
  simp [firstFailure]

/-- R86: a record that passes its checks holds a legal profile. -/
theorem profileOf_legal {r : List Byte} (h : firstFailure (profileChecks r) = none) : (profileOf r).Legal := by
  rw [firstFailure_eq_none_iff] at h
  simp only [profileChecks, List.forall_mem_cons, inRange, Bool.and_eq_true, decide_eq_true_eq] at h
  simp only [Profile.Legal, profileOf]
  omega

theorem installProfile_storeLegal (i : ProfileNo) (r : List Byte) : KeepsStoreLegal (installProfile i r) :=
  fun s hs => by
    unfold installProfile
    split
    · exact StoreKept.storeLegal (.of_blocks (by simp) (by simp)) hs
    · next passed =>
      exact StoreKept.storeLegal (.of_blocks (by simp) (by simp)) (hs.setProfile i (profileOf_legal passed))

theorem profileRead_storeLegal (bytes : ProfileBytes) : KeepsStoreLegal (profileRead bytes) := fun s hs => by
  unfold profileRead
  split
  · exact installProfile_storeLegal _ _ s hs
  · exact hs

theorem tonePassed_storeLegal (source : Word) (passed : List ToneFields) : KeepsStoreLegal (tonePassed source passed) :=
  fun s hs => by
    unfold tonePassed
    split
    · exact StoreKept.storeLegal (.of_blocks (by simp) (by simp)) hs
    · exact StoreKept.storeLegal (.of_blocks (by simp) (by simp)) (hs.setTones passed)

theorem toneRead_storeLegal (bytes : ToneBytes) : KeepsStoreLegal (toneRead bytes) := fun s hs => by
  unfold toneRead
  split
  · split
    · exact StoreKept.storeLegal (.of_blocks (by simp) (by simp)) hs
    · exact tonePassed_storeLegal _ _ s hs
  · exact hs

/-! ### Resets -/

theorem holdReset_storeLegal : KeepsStoreLegal holdReset := fun _ _ => .of_reset rfl rfl

theorem writeRegister_storeLegal (r : Register) (v : Word) : KeepsStoreLegal (writeRegister r v) := by
  cases r with
  | control =>
    intro s hs
    simp only [writeRegister, writeControl]
    split
    · split
      · exact hs
      · exact StoreKept.storeLegal (.of_blocks (by simp) (by simp)) hs
    · split
      · exact holdReset_storeLegal s hs
      · refine StoreKept.storeLegal (.of_blocks ?_ ?_) hs <;> (repeat' split) <;> simp
  | state => exact fun s hs => hs
  | stationBase => exact .of_blocks (by simp [writeRegister]) (by simp [writeRegister])
  | attention => exact fun s hs => hs
  | attentionMask => exact .of_blocks (by simp [writeRegister]) (by simp [writeRegister])

/-! ### Every command -/

/-- Every command has one effect, which keeps the store legal. -/
theorem exec_keepsStoreLegal (c : Instr) :
    ∃ k : State → State, (∀ s, exec c s = .next (k s)) ∧ KeepsStoreLegal k := by
  cases c with
  | powerOn => exact ⟨_, fun _ => rfl, fun _ _ => .of_reset rfl rfl⟩
  | holdReset => exact ⟨_, fun _ => rfl, holdReset_storeLegal.epilogue⟩
  | holdResetRelease run attn => exact ⟨_, fun _ => rfl, .epilogue (.of_blocks (by simp) (by simp))⟩
  | runWritten1 => exact ⟨_, fun _ => rfl, .epilogue (.of_blocks (by simp) (by simp))⟩
  | runWritten0 => exact ⟨_, fun _ => rfl, .epilogue (.of_blocks (by simp) (by simp))⟩
  | abortOrder => exact ⟨_, fun _ => rfl, .epilogue (.of_blocks (by simp) (by simp))⟩
  | attnEnable v => exact ⟨_, fun _ => rfl, .of_blocks (by simp) (by simp)⟩
  | stationBaseWrite v => exact ⟨_, fun _ => rfl, .of_blocks (by simp) (by simp)⟩
  | attentionRead => exact ⟨_, fun _ => rfl, .of_blocks (by simp) (by simp)⟩
  | registerWrite r v => exact ⟨_, fun _ => rfl, (writeRegister_storeLegal r v).epilogue⟩
  | lineFrame f =>
    exact ⟨_, fun _ => rfl, .epilogue (.comp (.of_blocks (by simp) (by simp)) enterMoment_storeLegal)⟩
  | referenceFrameTime =>
    refine ⟨_, fun _ => rfl, fun s hs => ?_⟩
    split
    · exact KeepsStoreLegal.epilogue (.comp (.of_blocks (by simp) (by simp)) enterMoment_storeLegal) s hs
    · exact hs
  | returnFrame f => exact ⟨_, fun _ => rfl, .epilogue (.of_blocks (by simp) (by simp))⟩
  | frameWatchExpiry h =>
    cases h with
    | line => exact ⟨_, fun _ => rfl, .epilogue (.comp (.of_blocks (by simp) (by simp)) enterMoment_storeLegal)⟩
    | ret => exact ⟨_, fun _ => rfl, .epilogue (.of_blocks (by simp) (by simp))⟩
  | millisecondEvent => exact ⟨_, fun _ => rfl, .whenDue _ (takeDue_storeLegal .millisecond)⟩
  | loopChangeAccepted n => exact ⟨_, fun _ => rfl, .whenDue _ (takeDue_storeLegal (.loopChange n))⟩
  | longOpenEntry n => exact ⟨_, fun _ => rfl, .whenDue _ (takeDue_storeLegal (.longOpen n))⟩
  | seizure n => exact ⟨_, fun _ => rfl, .whenDue _ (takeDue_storeLegal (.seizure n))⟩
  | clear n => exact ⟨_, fun _ => rfl, .whenDue _ (takeDue_storeLegal (.clear n))⟩
  | digitComplete n => exact ⟨_, fun _ => rfl, .whenDue _ (takeDue_storeLegal (.digit n))⟩
  | firstDigitTimerExpiry n => exact ⟨_, fun _ => rfl, .whenDue _ (takeDue_storeLegal (.timer .firstDigit n))⟩
  | completeTimerExpiry n => exact ⟨_, fun _ => rfl, .whenDue _ (takeDue_storeLegal (.timer .complete n))⟩
  | quietTimerExpiry n => exact ⟨_, fun _ => rfl, .whenDue _ (takeDue_storeLegal (.timer .quiet n))⟩
  | proceedTimerExpiry n => exact ⟨_, fun _ => rfl, .whenDue _ (takeDue_storeLegal (.timer .proceed n))⟩
  | generatorWaitTimerExpiry n =>
    exact ⟨_, fun _ => rfl, .whenDue _ (takeDue_storeLegal (.timer .generatorWait n))⟩
  | escapeTimerExpiry n => exact ⟨_, fun _ => rfl, .whenDue _ (takeDue_storeLegal (.timer .escape n))⟩
  | muteTailExpiry n => exact ⟨_, fun _ => rfl, .whenDue _ (takeDue_storeLegal (.timer .muteTail n))⟩
  | flashOutExpiry n => exact ⟨_, fun _ => rfl, .whenDue _ (takeDue_storeLegal (.timer .flashOut n))⟩
  | onExpiry g => exact ⟨_, fun _ => rfl, .whenDue _ (takeDue_storeLegal (.onExpiry g))⟩
  | gapExpiry g => exact ⟨_, fun _ => rfl, .whenDue _ (takeDue_storeLegal (.gapExpiry g))⟩
  | holdExpiry g => exact ⟨_, fun _ => rfl, .whenDue _ (takeDue_storeLegal (.holdExpiry g))⟩
  | sweepEvent => exact ⟨_, fun _ => rfl, .whenDue _ (takeDue_storeLegal .sweep)⟩
  | orderMarkReadDone m => exact ⟨_, fun _ => rfl, .whenDone _ (.of_blocks (by simp) (by simp))⟩
  | takenWriteDone => exact ⟨_, fun _ => rfl, .whenDone _ (.unlessAborted (.of_blocks (by simp) (by simp)))⟩
  | unknownOrder b => exact ⟨_, fun _ => rfl, .whenBody _ b (.of_blocks (by simp) (by simp))⟩
  | nop b => exact ⟨_, fun _ => rfl, .whenBody _ b (.of_blocks (by simp) (by simp))⟩
  | identify b => exact ⟨_, fun _ => rfl, .whenBody _ b (.of_blocks (by simp) (by simp))⟩
  | identifyWriteDone => exact ⟨_, fun _ => rfl, .whenDone _ (.of_blocks (by simp) (by simp))⟩
  | readLine b => exact ⟨_, fun _ => rfl, .whenBody _ b (.of_blocks (by simp) (by simp))⟩
  | readLineWriteDone => exact ⟨_, fun _ => rfl, .whenDone _ (.of_blocks (by simp) (by simp))⟩
  | setLine b => exact ⟨_, fun _ => rfl, .whenBody _ b (.of_kept (setLine_kept b))⟩
  | loadProfile b => exact ⟨_, fun _ => rfl, .whenBody _ b (.of_blocks (by simp) (by simp))⟩
  | profileReadDone r => exact ⟨_, fun _ => rfl, .whenDone _ (profileRead_storeLegal r).unlessAborted⟩
  | loadTones b => exact ⟨_, fun _ => rfl, .whenBody _ b (.of_blocks (by simp) (by simp))⟩
  | toneEntryReadDone r => exact ⟨_, fun _ => rfl, .whenDone _ (toneRead_storeLegal r).unlessAborted⟩
  | loadPlan b => exact ⟨_, fun _ => rfl, .whenBody _ b (.of_blocks (by simp) (by simp))⟩
  | planEntryReadDone r => exact ⟨_, fun _ => rfl, .whenDone _ (.unlessAborted (.of_blocks (by simp) (by simp)))⟩
  | switchPlan b => exact ⟨_, fun _ => rfl, .whenBody _ b (.of_blocks (by simp) (by simp))⟩
  | sendTones b => exact ⟨_, fun _ => rfl, .whenBody _ b (.of_blocks (by simp) (by simp))⟩
  | orderResultWriteDone => exact ⟨_, fun _ => rfl, .whenDone _ (.of_blocks (by simp) (by simp))⟩
  | orderDoneWriteDone => exact ⟨_, fun _ => rfl, .whenDone _ (.of_blocks (by simp) (by simp))⟩
  | touchedWriteDone => exact ⟨fun s => whenDone .touchedWrite (touchedWritten (windowInFlight s)) s, fun _ => rfl,
      fun s => KeepsStoreLegal.whenDone _ (.of_blocks (by simp) (by simp)) s⟩
  | recordMarkReadDone m => exact ⟨_, fun _ => rfl, .whenDone _ (.of_blocks (by simp) (by simp))⟩
  | recordBodyWriteDone => exact ⟨_, fun _ => rfl, .whenDone _ (.of_blocks (by simp) (by simp))⟩
  | recordMarkWriteDone => exact ⟨_, fun _ => rfl, .whenDone _ (.of_blocks (by simp) (by simp))⟩
  | headerReadDone h => exact ⟨_, fun _ => rfl, .whenDone _ (.of_blocks (by simp) (by simp))⟩
  | hostBusError => exact ⟨_, fun _ => rfl, .epilogue (.of_blocks (by simp) (by simp))⟩

/-- Settles O7: each command's effect keeps the store legal, and so does the event an idle part takes. -/
theorem stepKeepsStoreLegal : Obligations.StepKeepsStoreLegal := by
  intro s t hs ht
  unfold step at ht
  split at ht
  · cases ht
    exact concludeIfQuiet_storeLegal _ (takeOne_storeLegal s hs)
  · next c rest _ =>
    obtain ⟨k, hk, keeps⟩ := exec_keepsStoreLegal c
    rw [hk] at ht
    cases ht
    exact keeps _ hs

end Sys2Proof.Machine
end

section
/-! A decided number through the checks after an event: where no class A claim waits they end no number, since a line
that requests a generator holds none that a preemption could release in GAP (R112, R116, R119, R125). -/

namespace Sys2Proof.Machine

/-! ### Operations that end no number -/

/-- The state, the decision and the draft of a context are as they were. -/
structure NumberKept (c d : LineCtx) : Prop where
  state : d.state = c.state
  decision : d.decision = c.decision
  draft : d.draft = c.draft

namespace NumberKept

variable {c d e : LineCtx}

theorem refl (c : LineCtx) : NumberKept c c := ⟨rfl, rfl, rfl⟩

theorem trans (h : NumberKept c d) (k : NumberKept d e) : NumberKept c e :=
  ⟨k.state.trans h.state, k.decision.trans h.decision, k.draft.trans h.draft⟩

theorem setTimer (c : LineCtx) (k : TimerKind) (t : Timer) : NumberKept c (c.setTimer k t) := ⟨rfl, rfl, rfl⟩

end NumberKept

/-- Every line keeps its state, its decision and its draft. -/
def NumbersKept (s t : State) : Prop := ∀ m, NumberKept (s.line m) (t.line m)

namespace NumbersKept

variable {s t u : State}

theorem of_lines (h : t.lines = s.lines) : NumbersKept s t := fun m => by
  simp only [State.line_def, h]
  exact .refl _

theorem refl (s : State) : NumbersKept s s := of_lines rfl

theorem trans (h : NumbersKept s t) (k : NumbersKept t u) : NumbersKept s u := fun m => (h m).trans (k m)

theorem after (k : NumbersKept t u) (h : t.lines = s.lines) : NumbersKept s u := (of_lines h).trans k

theorem modLine (s : State) (n : LineNo) {f : LineCtx → LineCtx} (hf : ∀ c, NumberKept c (f c)) :
    NumbersKept s (s.modLine n f) := fun m => by
  by_cases e : m = n
  · rw [e, State.modLine_line]
    exact hf _
  · rw [State.modLine_line_of_ne _ _ e]
    exact .refl _

theorem startGeneratorWait (n : LineNo) (k : ServiceClass) (s : State) : NumbersKept s (startGeneratorWait n k s) := by
  unfold Machine.startGeneratorWait
  split
  · exact refl s
  · exact modLine s n fun c => .setTimer c _ _

theorem joinWait (n : LineNo) (k : ServiceClass) (p : Bool) (s : State) : NumbersKept s (joinWait n k p s) :=
  (startGeneratorWait n k _).after rfl

theorem leaveWait (n : LineNo) (s : State) : NumbersKept s (leaveWait n s) :=
  (modLine _ n fun c => .setTimer c _ _).after rfl

theorem enterOn (g : GenNo) (s : State) : NumbersKept s (enterOn g s) := by
  unfold Machine.enterOn
  split
  · exact refl s
  · split
    · exact refl s
    · refine after (modLine _ _ fun c => ?_) rfl
      exact ⟨rfl, rfl, rfl⟩

theorem grant (g : GenNo) (e : WaitEntry) (s : State) : NumbersKept s (grant g e s) :=
  (leaveWait e.line s).trans ((enterOn g _).after rfl)

theorem arbitrate (k : Nat) (s : State) : NumbersKept s (arbitrate k s) := by
  induction k generalizing s with
  | zero => exact refl s
  | succ k ih =>
    rw [Machine.arbitrate]
    split
    · exact (grant _ _ s).trans (ih _)
    · exact refl s

theorem wakeHold (n : LineNo) (s : State) : NumbersKept s (wakeHold n s) := by
  unfold Machine.wakeHold
  split
  · split
    · exact enterOn _ s
    · exact refl s
  · exact refl s

theorem withdrawIfNot (n : LineNo) (s : State) : NumbersKept s (withdrawIfNot n s) := by
  unfold Machine.withdrawIfNot
  split
  · exact leaveWait n s
  · exact refl s

theorem watchProceed (n : LineNo) (s : State) : NumbersKept s (watchProceed n s) := by
  obtain ⟨t, ht⟩ := watchProceed_eq n s
  rw [ht]
  exact modLine s n fun c => .setTimer c _ _

end NumbersKept

/-! ### Claims that the checks before a request leave -/

theorem arbitrate_claims (k : Nat) {s : State} : ∀ e ∈ (arbitrate k s).pool.waitList, e ∈ s.pool.waitList := by
  induction k generalizing s with
  | zero => exact fun _ => id
  | succ k ih =>
    rw [arbitrate]
    split
    · intro e he
      have kept := ih e he
      rw [grant_waitList] at kept
      exact (List.mem_filter.1 kept).1
    · exact fun _ => id

theorem wakeHold_waitList (n : LineNo) (s : State) : (wakeHold n s).pool.waitList = s.pool.waitList := by
  unfold wakeHold
  split
  · split
    · obtain ⟨-, -, waits, -⟩ := enterOn_others ‹GenNo› s
      exact waits
    · rfl
  · rfl

theorem withdrawIfNot_claims (n : LineNo) {s : State} :
    ∀ e ∈ (withdrawIfNot n s).pool.waitList, e ∈ s.pool.waitList := by
  unfold withdrawIfNot
  split
  · exact fun e he => (List.mem_filter.1 he).1
  · exact fun _ => id

/-- R116, R119: where no class A claim waits the pool only grants. -/
theorem poolRun_keepsNumbers {s : State} (calm : ∀ e ∈ s.pool.waitList, e.cls ≠ .a) :
    NumbersKept s (poolRun s) := by
  unfold poolRun
  split
  · rw [preemptAll_idle fun e he => calm e (arbitrate_claims _ e he)]
    exact .arbitrate _ s
  · exact .refl s

/-! ### A line that holds no generator in GAP -/

/-- R125: no generator of the line is in GAP, where a release may end its number. -/
def NoGap (n : LineNo) (s : State) : Prop := ∀ g, (s.gen g).attached = some n → (s.gen g).state ≠ .gap

theorem enterOn_state (g : GenNo) (s : State) :
    ((enterOn g s).gen g).state = .on ∨ ((enterOn g s).gen g).state = (s.gen g).state := by
  unfold enterOn
  split
  · exact .inr rfl
  · split
    · exact .inr rfl
    · exact .inl (by simp)

/-- R118: a generator just granted plays, or has stayed FREE. -/
theorem grant_state_ne_gap {g : GenNo} {s : State} (free : (s.gen g).state = .free) (e : WaitEntry) :
    ((grant g e s).gen g).state ≠ .gap := by
  have attached : (((leaveWait e.line s).modGen g fun x =>
      { x with attached := some e.line, served := some e.cls, clip := false }).gen g).state = .free := by
    simpa [leaveWait] using free
  rcases enterOn_state g ((leaveWait e.line s).modGen g fun x =>
    { x with attached := some e.line, served := some e.cls, clip := false }) with on | kept
  · exact fun gap => GenState.noConfusion (on.symm.trans gap)
  · exact fun gap => GenState.noConfusion ((kept.trans attached).symm.trans gap)

theorem endNumber_line_of_ne {m n : LineNo} (h : n ≠ m) (s : State) : (endNumber m s).line n = s.line n := by
  unfold endNumber
  rw [State.modLine_line_of_ne _ _ h]
  unfold closeDraft
  split
  · rfl
  · exact State.modLine_line_of_ne _ _ h
  · simp [Table.get_set_ne _ _ h.symm]

/-- R120: of the generators a preemption changes only the one released. -/
theorem preempt_gens (g : GenNo) (s : State) : (preempt g s).pool.gens = (releaseGen g s).pool.gens := by
  have early : ∀ m, (releaseEarly g m s).pool = (releaseGen g s).pool := fun m => by
    unfold releaseEarly
    split <;> simp
  unfold preempt
  split
  · rfl
  · dsimp only
    split
    · rw [joinWait_pool, early]
    · rw [early]

namespace NoGap

variable {n : LineNo} {s t : State}

theorem of_gens (h : NoGap n s) (k : t.pool.gens = s.pool.gens) : NoGap n t := fun g => by
  rw [gen_congr k]
  exact h g

theorem grant (h : NoGap n s) {g : GenNo} (hg : firstFree s = some g) (e : WaitEntry) : NoGap n (grant g e s) :=
  fun x hx => by
    by_cases same : x = g
    · rw [same]
      exact grant_state_ne_gap (firstFree_eq_some_iff.1 hg).1 e
    · rw [grant_gen_of_ne same] at hx ⊢
      exact h x hx

theorem arbitrate (h : NoGap n s) (k : Nat) : NoGap n (arbitrate k s) := by
  induction k generalizing s with
  | zero => exact h
  | succ k ih =>
    rw [Machine.arbitrate]
    split
    · next hg _ => exact ih (h.grant hg _)
    · exact h

theorem preempt (h : NoGap n s) (g : GenNo) : NoGap n (preempt g s) := by
  obtain ⟨-, detached, others⟩ := releaseGen_gens g s
  refine of_gens (s := releaseGen g s) (fun x hx => ?_) (preempt_gens g s)
  by_cases same : x = g
  · rw [same, detached] at hx
    cases hx
  · rw [others x same] at hx ⊢
    exact h x hx

/-- R120, R125: a preemption ends no number of the line. -/
theorem preempt_keepsNumber (h : NoGap n s) (g : GenNo) : NumberKept (s.line n) ((Machine.preempt g s).line n) := by
  have early : ∀ m, (s.gen g).attached = some m → (releaseEarly g m s).line n = s.line n := fun m hm => by
    unfold releaseEarly
    split
    · next gap =>
      have other : n ≠ m := fun e => h g (e ▸ hm) gap.1
      exact endNumber_line_of_ne other _
    · rfl
  unfold Machine.preempt
  split
  · exact .refl _
  · next m hm =>
    dsimp only
    split
    · have joined := NumbersKept.joinWait m ((s.gen g).served.getD (requestClass s m)) true (releaseEarly g m s) n
      rwa [early m hm] at joined
    · rw [early m hm]
      exact .refl _

theorem preemptAll_keepsNumber (h : NoGap n s) (k : Nat) : NumberKept (s.line n) ((preemptAll k s).line n) := by
  induction k generalizing s with
  | zero => exact .refl _
  | succ k ih =>
    rw [preemptAll]
    split
    · split
      · next g _ =>
        exact ((h.preempt_keepsNumber g).trans (NumbersKept.arbitrate _ _ n)).trans (ih ((h.preempt g).arbitrate _))
      · exact .refl _
    · exact .refl _

theorem poolRun_keepsNumber (h : NoGap n s) : NumberKept (s.line n) ((poolRun s).line n) := by
  unfold poolRun
  split
  · exact (NumbersKept.arbitrate _ s n).trans ((h.arbitrate _).preemptAll_keepsNumber _)
  · exact .refl _

end NoGap

/-- R112, R119, R125: where no class A claim waits, the checks after an event on a line end no number of it. -/
theorem afterEvent_keepsNumber {n : LineNo} {s : State} (calm : s.noEmergency = true) :
    NumberKept (s.line n) ((afterEvent n s).line n) := by
  have prior : NumbersKept s (withdrawIfNot n (wakeHold n s)) := (NumbersKept.wakeHold n s).trans (.withdrawIfNot n _)
  have stillCalm : ∀ e ∈ (withdrawIfNot n (wakeHold n s)).pool.waitList, e.cls ≠ .a := fun e he =>
    State.noEmergency_iff.1 calm e (wakeHold_waitList n s ▸ withdrawIfNot_claims n e he)
  unfold afterEvent
  split
  · refine (prior n).trans ?_
    generalize withdrawIfNot n (wakeHold n s) = w at stillCalm
    by_cases request : requests w n = true
    · have noGap : NoGap n w := fun g hg => absurd hg (genOf_eq_none_iff.1 (genOf_of_requests request) g)
      have watched : NoGap n (watchProceed n (joinWait n (requestClass w n) false w)) :=
        noGap.of_gens (by simp [joinWait_pool])
      rw [raiseRequest, if_pos request]
      exact ((NumbersKept.joinWait n _ false w).trans (.watchProceed n _) n).trans watched.poolRun_keepsNumber
    · rw [raiseRequest_of_none (Bool.eq_false_iff.2 request)]
      exact ((NumbersKept.watchProceed n w).trans (poolRun_keepsNumbers (by simpa using stillCalm))) n
  · exact .refl _

end Sys2Proof.Machine
end

section
/-! The expiries of the escape timer, the mute tail and the flash-out (O45). -/

namespace Sys2Proof.Machine

section
variable {n : LineNo} {s : State}

theorem exec_escapeTimerExpiry_due (h : isDue (.timer .escape n) s = true) :
    exec (.escapeTimerExpiry n) s = .next (epilogue (escapeExpires n s)) :=
  congrArg _ (whenDue_of_due h _)

theorem exec_muteTailExpiry_due (h : isDue (.timer .muteTail n) s = true) :
    exec (.muteTailExpiry n) s = .next (epilogue (muteTailExpires n s)) :=
  congrArg _ (whenDue_of_due h _)

theorem exec_flashOutExpiry_due (h : isDue (.timer .flashOut n) s = true) :
    exec (.flashOutExpiry n) s = .next (epilogue (flashOutExpires n s)) :=
  congrArg _ (whenDue_of_due h _)

end

/-! ### A timer that only stops (R67, R78, R79) -/

theorem LineCtx.stopTimer_timer (k : TimerKind) (c : LineCtx) : (c.stopTimer k).timer k = .stopped :=
  c.timer_setTimer k .stopped

theorem LineCtx.stopTimer_timer_of_ne {k j : TimerKind} (h : j ≠ k) (c : LineCtx) :
    (c.stopTimer k).timer j = c.timer j :=
  c.timer_setTimer_of_ne h .stopped

section
variable (n : LineNo) (s : State)

/-- The stop of one timer of a line leaves the rest of its context. -/
theorem modLine_stopTimer (k : TimerKind) :
    ((s.modLine n fun c => c.stopTimer k).line n).timer k = .stopped ∧
      (∀ j, j ≠ k → ((s.modLine n fun c => c.stopTimer k).line n).timer j = (s.line n).timer j) ∧
      { (s.modLine n fun c => c.stopTimer k).line n with timers := (s.line n).timers } = s.line n := by
  rw [State.modLine_line]
  exact ⟨LineCtx.stopTimer_timer k _, fun _ hj => LineCtx.stopTimer_timer_of_ne hj _, rfl⟩

/-- R78, R80: with its mute tail ended the slot is muted by a pulse in progress or a generator alone. -/
theorem muteTailExpires_muted :
    muted (muteTailExpires n s) n = ((s.classifier n).pulse.inProgress || (genOf s n).isSome) := by
  have holder : genOf (muteTailExpires n s) n = genOf s n := rfl
  have pulse : (muteTailExpires n s).classifier n = s.classifier n := rfl
  obtain ⟨stopped, -⟩ := modLine_stopTimer n s .muteTail
  rw [muted, holder, pulse, muteTailExpires, stopped]
  simp [Timer.isRunning]

/-- R79, R80: with the flash-out ended the switch sees the line's own state. -/
theorem flashOutExpires_cleanedHook : cleanedHook (flashOutExpires n s) n = (s.line n).state.seizedOn := by
  obtain ⟨stopped, -, rest⟩ := modLine_stopTimer n s .flashOut
  rw [cleanedHook, flashOutExpires, stopped, (congrArg LineCtx.state rest :)]
  exact Bool.and_true _

end

/-! ### The forwarded flash and the plain flash (R68, R70) -/

section
variable {n : LineNo} {t : State}

/-- R79: a flash-out that is not running starts from zero. -/
theorem forwardFlash_starts (h : ((t.line n).timer .flashOut).isRunning = false) :
    ((forwardFlash n t).line n).timer .flashOut = .running 0 (t.boundProfile n).flashOutMs := by
  rw [forwardFlash, if_neg (by rw [h]; decide), State.modLine_line]
  exact LineCtx.timer_setTimer _ _ _

theorem plainFlash_converting (h : (t.line n).state = .converting) :
    plainFlash n t =
      (inDraft n (Draft.record .flash) (ensureDraft n (forwardFlash n t))).modLine n fun c => c.zeroTimer .quiet := by
  unfold plainFlash
  rw [h]

theorem plainFlash_sending (h : (t.line n).state = .sending) : plainFlash n t = inDraft n Draft.countIgnored t := by
  unfold plainFlash
  rw [h]

theorem plainFlash_lockout (h : (t.line n).state = .lockout) : plainFlash n t = t := by
  unfold plainFlash
  rw [h]

end

namespace EscapeEnded

variable {n : LineNo} {t : State}

theorem forwardFlash (h : EscapeEnded n t) : EscapeEnded n (forwardFlash n t) := by
  unfold Machine.forwardFlash
  split
  · exact h
  · exact h.modLine fun c => .startTimer c (k := .flashOut) nofun _

theorem redial (h : EscapeEnded n t) : EscapeEnded n (redial n t) :=
  (h.inDraft _).unbindBank.modLine fun c =>
    ((EscapeKept.stopTimer c (k := .complete) nofun).trans (.startTimer _ (k := .firstDigit) nofun _)).trans
      ⟨rfl, rfl, rfl⟩

/-- R68: a flash acted on plainly opens no escape. -/
theorem plainFlash (h : EscapeEnded n t) : EscapeEnded n (plainFlash n t) := by
  unfold Machine.plainFlash
  split
  · exact h.forwardFlash.inDraft _
  · exact (h.forwardFlash.ensureDraft.inDraft _).modLine fun c => .setTimer c (k := .quiet) nofun _
  · exact h.redial
  · exact h.inDraft _
  · exact h
  · exact h
  · exact h

end EscapeEnded

/-! ### What a plain flash comes to in each state of the line -/

section
variable {n : LineNo} {t : State}

/-- R68: in SEIZED the flash is recorded and forwarded. -/
theorem plainFlash_seized_after (h : (t.line n).state = .seized) :
    ((afterEvent n (plainFlash n t)).line n).state = .seized ∧
      ((afterEvent n (plainFlash n t)).line n).timer .flashOut = ((forwardFlash n t).line n).timer .flashOut ∧
      ∀ d, (t.line n).draft = .opened d →
        ((afterEvent n (plainFlash n t)).line n).draft = .opened (d.record .flash) := by
  obtain ⟨forwarded, -⟩ := forwardFlash_line n t
  have flashed : (plainFlash n t).line n = ((forwardFlash n t).line n).mapDraft (Draft.record .flash) := by
    rw [plainFlash_seized h, inDraft_line]
  obtain ⟨stays, -, timers⟩ := LineCtx.mapDraft_kept (Draft.record .flash) ((forwardFlash n t).line n)
  have seized : ((plainFlash n t).line n).state = .seized := by
    rw [flashed, stays]
    exact (congrArg LineCtx.state forwarded :).trans h
  have keeps := afterEvent_keeps (s := plainFlash n t) (by rw [seized]; exact nofun)
  refine ⟨keeps.state.trans seized, ?_, fun d hd => ?_⟩
  · rw [keeps.timer .flashOut nofun nofun, flashed, LineCtx.timer, timers]
    rfl
  · rw [keeps.draft, flashed]
    exact LineCtx.mapDraft_draft_opened ((congrArg LineCtx.draft forwarded :).trans hd)

/-- R65, R68: in CONVERTING the flash is forwarded and recorded in the draft that is open, or opens for it. -/
theorem plainFlash_converting_after (h : (t.line n).state = .converting) :
    ((afterEvent n (plainFlash n t)).line n).state = .converting ∧
      ((afterEvent n (plainFlash n t)).line n).hasDraft = true ∧
      (((afterEvent n (plainFlash n t)).line n).timer .flashOut).isRunning = true ∧
      ∀ d, (t.line n).draft = .opened d →
        ((afterEvent n (plainFlash n t)).line n).draft = .opened (d.record .flash) := by
  obtain ⟨forwarded, running⟩ := forwardFlash_line n t
  have ensured := ensureDraft_ensures n (forwardFlash n t)
  have flashed : (plainFlash n t).line n
      = (((ensureDraft n (forwardFlash n t)).line n).mapDraft (Draft.record .flash)).zeroTimer .quiet := by
    rw [plainFlash_converting h, State.modLine_line, inDraft_line]
  obtain ⟨stays, -, timers⟩ :=
    LineCtx.mapDraft_kept (Draft.record .flash) ((ensureDraft n (forwardFlash n t)).line n)
  have converting : ((plainFlash n t).line n).state = .converting := by
    rw [flashed]
    exact (stays.trans ensured.state).trans ((congrArg LineCtx.state forwarded :).trans h)
  have keeps := afterEvent_keeps (s := plainFlash n t) (by rw [converting]; exact nofun)
  refine ⟨keeps.state.trans converting, ?_, ?_, fun d hd => ?_⟩
  · rw [keeps.hasDraft, flashed]
    exact (LineCtx.mapDraft_hasDraft _ _).trans ensured.hasDraft
  · have flashOut : (((ensureDraft n (forwardFlash n t)).line n).mapDraft (Draft.record .flash)).timer .flashOut
        = ((forwardFlash n t).line n).timer .flashOut := by
      rw [LineCtx.timer, timers]
      exact ensured.timer .flashOut nofun
    have other : TimerKind.flashOut ≠ .quiet := nofun
    rw [keeps.timer .flashOut nofun nofun, flashed, LineCtx.zeroTimer, LineCtx.timer_setTimer_of_ne _ other, flashOut]
    exact running
  · have opened := (congrArg LineCtx.draft forwarded :).trans hd
    rw [keeps.draft, flashed, ensured.opened d opened]
    exact LineCtx.mapDraft_draft_opened opened

/-- R70, R93: a re-dial unbinds the line's bank. -/
theorem redial_refCount {b : BankNo} (h : (t.line n).boundBank = some b) :
    ((redial n t).bank b).refCount = (t.bank b).refCount - 1 := by
  have bound : ((inDraft n (fun d => { d.record .flash with numberLen := 0 }) t).line n).boundBank = some b := by
    rw [inDraft_line]
    exact (congrArg LineCtx.boundBank ((t.line n).mapDraft_rest _) :).trans h
  exact unbindBank_refCount bound

/-- R70: in COLLECTING the flash is a re-dial. -/
theorem plainFlash_collecting_after (h : (t.line n).state = .collecting) :
    ((afterEvent n (plainFlash n t)).line n).state = .seized ∧
      ((afterEvent n (plainFlash n t)).line n).number = [] ∧
      ((afterEvent n (plainFlash n t)).line n).boundBank = none ∧
      ((afterEvent n (plainFlash n t)).line n).timer .complete = .stopped ∧
      ((afterEvent n (plainFlash n t)).line n).timer .firstDigit
        = .running 0 (1000 * (t.boundProfile n).firstDigitWait) ∧
      (∀ b, (t.line n).boundBank = some b →
        ((afterEvent n (plainFlash n t)).bank b).refCount = (t.bank b).refCount - 1) ∧
      ∀ d, (t.line n).draft = .opened d →
        ((afterEvent n (plainFlash n t)).line n).draft = .opened { d.record .flash with numberLen := 0 } := by
  have again := redial_line n t
  have keeps := afterEvent_keeps (n := n) (s := redial n t) (by rw [again]; exact nofun)
  have other : TimerKind.complete ≠ .firstDigit := nofun
  rw [plainFlash_collecting h, keeps.state, keeps.number, keeps.boundBank, keeps.timer .complete nofun nofun,
    keeps.timer .firstDigit nofun nofun, keeps.draft]
  refine ⟨by rw [again], by rw [again], by rw [again]; rfl, ?_, ?_, fun b hb => ?_, fun d hd => ?_⟩
  · rw [again]
    exact (LineCtx.timer_setTimer_of_ne _ other _).trans (LineCtx.timer_setTimer _ _ _)
  · rw [again]
    exact LineCtx.timer_setTimer _ _ _
  · have plan : (afterEvent n (redial n t)).plan = (redial n t).plan := by simp
    rw [State.bank_def, plan, ← State.bank_def]
    exact redial_refCount hb
  · rw [again]
    exact LineCtx.mapDraft_draft_opened (c := t.line n) hd

/-- R68: in SENDING the flash is counted as ignored, and the decided number goes on. -/
theorem plainFlash_sending_after (h : (t.line n).state = .sending) (calm : t.noEmergency = true) :
    ((afterEvent n (plainFlash n t)).line n).state = .sending ∧
      ((afterEvent n (plainFlash n t)).line n).queue.map QueueEntry.what = (t.line n).queue.map QueueEntry.what ∧
      ((afterEvent n (plainFlash n t)).line n).decision = (t.line n).decision ∧
      ((afterEvent n (plainFlash n t)).line n).timer .flashOut = (t.line n).timer .flashOut ∧
      ∀ d, (t.line n).draft = .opened d →
        ((afterEvent n (plainFlash n t)).line n).draft = .opened { d with ignored := min 255 (d.ignored + 1) } := by
  have counted := inDraft_line n t Draft.countIgnored
  obtain ⟨stays, queue, timers⟩ := LineCtx.mapDraft_kept Draft.countIgnored (t.line n)
  have number := afterEvent_keepsNumber (n := n) (s := inDraft n Draft.countIgnored t) calm
  have touched := afterEvent_touches n (inDraft n Draft.countIgnored t) n
  rw [plainFlash_sending h, number.state, number.decision, number.draft, touched.queue,
    touched.timers .flashOut nofun nofun nofun, counted]
  refine ⟨stays.trans h, by rw [queue], (congrArg LineCtx.decision ((t.line n).mapDraft_rest _) :), ?_,
    fun d hd => ?_⟩
  · rw [LineCtx.timer, timers]
    rfl
  · exact LineCtx.mapDraft_draft_opened hd

/-- R64: in LOCKOUT a flash has no effect. -/
theorem plainFlash_lockout_after (h : (t.line n).state = .lockout) :
    ((afterEvent n (plainFlash n t)).line n).state = .lockout ∧
      ((afterEvent n (plainFlash n t)).line n).draft = (t.line n).draft ∧
      ((afterEvent n (plainFlash n t)).line n).timer .flashOut = (t.line n).timer .flashOut ∧
      ((afterEvent n (plainFlash n t)).line n).queue.map QueueEntry.what = (t.line n).queue.map QueueEntry.what := by
  have keeps := afterEvent_keeps (s := t) (n := n) (by rw [h]; exact nofun)
  rw [plainFlash_lockout h]
  exact ⟨keeps.state.trans h, keeps.draft, keeps.timer .flashOut nofun nofun, keeps.queue⟩

end

/-! ### The expiry of the escape timer (R55, R67) -/

section
variable {n : LineNo} {s : State}

theorem escapeExpires_escaped (h : (s.line n).escapedDigit = true) :
    escapeExpires n s = s.modLine n fun c => c.stopTimer .escape := by
  rw [escapeExpires, if_pos h]

theorem escapeExpires_plain (h : (s.line n).escapedDigit = false) :
    escapeExpires n s = afterEvent n (plainFlash n (endEscape n s)) := by
  rw [escapeExpires, if_neg (by rw [h]; decide)]

/-- R67: the escape timer has stopped, whatever became of the flash. -/
theorem escapeExpires_stops : ((escapeExpires n s).line n).timer .escape = .stopped := by
  by_cases h : (s.line n).escapedDigit = true
  · rw [escapeExpires_escaped h, State.modLine_line]
    exact LineCtx.stopTimer_timer _ _
  · obtain ⟨-, -, timer⟩ := (EscapeEnded.endEscape n s).plainFlash.afterEvent n
    rw [escapeExpires_plain (by simpa using h)]
    exact timer

end

/-- R54, R55: the end of an escape leaves what the flash meets. -/
theorem endEscape_kept (n : LineNo) (s : State) :
    ((endEscape n s).line n).state = (s.line n).state ∧ ((endEscape n s).line n).draft = (s.line n).draft ∧
      ((endEscape n s).line n).queue = (s.line n).queue ∧ ((endEscape n s).line n).boundBank = (s.line n).boundBank ∧
      ((endEscape n s).line n).decision = (s.line n).decision ∧
      ((endEscape n s).line n).timer .flashOut = (s.line n).timer .flashOut ∧
      (endEscape n s).boundProfile n = s.boundProfile n := by
  have line : (endEscape n s).line n = (s.line n).endEscape := by rw [endEscape_eq, State.modLine_line]
  have other : TimerKind.flashOut ≠ .escape := nofun
  rw [State.boundProfile_congr (n := n) (s := s) (t := endEscape n s) rfl (by rw [line]; rfl), line]
  exact ⟨rfl, rfl, rfl, rfl, rfl, LineCtx.stopTimer_timer_of_ne other _, rfl⟩

/-- Settles O45. -/
theorem slotTimerExpiries : Obligations.SlotTimerExpiries := by
  refine ⟨fun n s due => ⟨escapeExpires n s, exec_escapeTimerExpiry_due due, by simp [HostSideKept], by simp, by simp,
    by simp, escapeExpires_stops, fun escaped => ?_, fun plain => ?_⟩, fun n s due => ?_, fun n s due => ?_⟩
  · rw [escapeExpires_escaped escaped, State.modLine_line]
    exact ⟨.modLine s _, rfl, escaped, rfl, rfl, fun k hk => LineCtx.stopTimer_timer_of_ne hk _⟩
  · obtain ⟨state, draft, queue, bank, decision, flashOut, profile⟩ := endEscape_kept n s
    obtain ⟨pending, -⟩ := (EscapeEnded.endEscape n s).plainFlash.afterEvent n
    rw [escapeExpires_plain plain, ← state, ← draft, ← queue, ← bank, ← decision, ← flashOut, ← profile]
    refine ⟨pending, fun seized => ?_, plainFlash_converting_after, plainFlash_collecting_after,
      fun sending calm => plainFlash_sending_after sending calm, plainFlash_lockout_after⟩
    obtain ⟨stays, timer, flashed⟩ := plainFlash_seized_after seized
    obtain ⟨-, running⟩ := forwardFlash_line n (endEscape n s)
    exact ⟨stays, by rw [timer]; exact running, fun fresh => timer.trans (forwardFlash_starts fresh), flashed⟩
  · obtain ⟨stopped, others, rest⟩ := modLine_stopTimer n s .muteTail
    exact ⟨_, exec_muteTailExpiry_due due, ⟨rfl, rfl, rfl, rfl, rfl⟩, .modLine s _, rfl, rfl, rfl, rfl, rfl, rfl,
      stopped, others, rest, muteTailExpires_muted n s⟩
  · obtain ⟨stopped, others, rest⟩ := modLine_stopTimer n s .flashOut
    exact ⟨_, exec_flashOutExpiry_due due, ⟨rfl, rfl, rfl, rfl, rfl⟩, .modLine s _, rfl, rfl, rfl, rfl, rfl, rfl,
      stopped, others, rest, flashOutExpires_cleanedHook n s⟩

end Sys2Proof.Machine
end

section
/-! A line with no claim, no symbol and no finished number: whatever generators the pool holds attached to it, grants
and preemptions pass it over (R112, R117, R119, R120). Such is a line torn down, however many generators were attached to
it before (R82, R83). -/

namespace Sys2Proof.Machine

/-! ### What the pool passes over -/

/-- No claim of the line stands in the wait list, no symbol is queued on it, and it has no finished number to end. -/
structure Unclaiming (n : LineNo) (s : State) : Prop where
  waits : ∀ e ∈ s.pool.waitList, e.line ≠ n
  queue : (s.line n).queue = []
  unfinished : (s.line n).finished = false

/-- `t` has the context of line `n` as in `s`, and no claim of it that `s` has not. -/
structure PassesOver (n : LineNo) (s t : State) : Prop where
  line : t.line n = s.line n
  claims : ∀ e ∈ t.pool.waitList, e.line = n → e ∈ s.pool.waitList

namespace PassesOver

variable {n : LineNo} {s t u : State}

theorem of_blocks (hl : t.lines = s.lines) (hw : t.pool.waitList = s.pool.waitList) : PassesOver n s t :=
  ⟨by rw [State.line_def, hl, ← State.line_def], fun e he _ => hw ▸ he⟩

theorem refl (s : State) : PassesOver n s s := of_blocks rfl rfl

theorem trans (h : PassesOver n s t) (k : PassesOver n t u) : PassesOver n s u :=
  ⟨k.line.trans h.line, fun e he hn => h.claims e (k.claims e he hn) hn⟩

/-- A line passed over stays one that claims nothing. -/
theorem unclaiming (k : PassesOver n s t) (h : Unclaiming n s) : Unclaiming n t where
  waits := fun e he hn => h.waits e (k.claims e he hn) hn
  queue := by rw [k.line]; exact h.queue
  unfinished := by rw [k.line]; exact h.unfinished

/-- Another line's claim joins the list. -/
theorem joinWait {m : LineNo} (hm : m ≠ n) (k : ServiceClass) (p : Bool) (s : State) :
    PassesOver n s (joinWait m k p s) := by
  refine ⟨joinWait_line_of_ne hm.symm k p s, fun e he hn => ?_⟩
  rw [joinWait_pool] at he
  rcases Machine.mem_insertWait.1 he with rfl | old
  · exact absurd hn hm
  · exact old

/-- The early release of another line's generator may end that line's number. -/
theorem releaseEarly {m : LineNo} (hm : m ≠ n) (g : GenNo) (s : State) : PassesOver n s (releaseEarly g m s) := by
  unfold Machine.releaseEarly
  split
  · exact ⟨endNumber_line_of_ne hm.symm _, fun e he _ => by simpa [releaseGen] using he⟩
  · exact of_blocks rfl rfl

end PassesOver

namespace Unclaiming

variable {n : LineNo} {s : State}

theorem isWaiting (h : Unclaiming n s) : isWaiting s n = false := isWaiting_eq_false_iff.2 h.waits

theorem requests (h : Unclaiming n s) : requests s n = false := by
  unfold Machine.requests
  simp only [h.queue, List.isEmpty_nil, Bool.not_true, Bool.and_false, Bool.false_and]

theorem grant (h : Unclaiming n s) (g : GenNo) {e : WaitEntry} (he : e ∈ s.pool.waitList) :
    PassesOver n s (grant g e s) := by
  refine ⟨grant_line_of_ne g (h.waits e he).symm s, fun x hx _ => ?_⟩
  rw [grant_waitList] at hx
  exact (List.mem_filter.1 hx).1

theorem arbitrate (h : Unclaiming n s) (k : Nat) : PassesOver n s (arbitrate k s) := by
  induction k generalizing s with
  | zero => exact .refl s
  | succ k ih =>
    rw [Machine.arbitrate]
    split
    · next g _ _ he =>
      have granted := h.grant g (List.mem_of_find?_eq_some he)
      exact granted.trans (ih (granted.unclaiming h))
    · exact .refl s

/-- R120, R125: of a line that has no number to end and nothing to send a preemption takes the generator alone. -/
theorem releaseEarly (h : Unclaiming n s) (g : GenNo) : releaseEarly g n s = releaseGen g s := by
  have unfinished : numberFinished s n = false := h.unfinished
  unfold Machine.releaseEarly
  rw [unfinished, if_neg (by simp)]

theorem preempt (h : Unclaiming n s) (g : GenNo) : PassesOver n s (preempt g s) := by
  have released : PassesOver n s (releaseGen g s) := .of_blocks rfl rfl
  unfold Machine.preempt
  split
  · exact released
  · next m _ =>
    dsimp only
    by_cases own : m = n
    · subst own
      rw [h.releaseEarly, (released.unclaiming h).requests]
      exact released
    · split
      · exact (PassesOver.releaseEarly own g s).trans (.joinWait own _ _ _)
      · exact .releaseEarly own g s

theorem preemptAll (h : Unclaiming n s) (k : Nat) : PassesOver n s (preemptAll k s) := by
  induction k generalizing s with
  | zero => exact .refl s
  | succ k ih =>
    rw [Machine.preemptAll]
    split
    · split
      · next g _ =>
        have preempted := h.preempt g
        have granted := preempted.trans ((preempted.unclaiming h).arbitrate Config.generators)
        exact granted.trans (ih (granted.unclaiming h))
      · exact .refl s
    · exact .refl s

theorem poolRun (h : Unclaiming n s) : PassesOver n s (poolRun s) := by
  unfold Machine.poolRun
  split
  · have granted := h.arbitrate Config.generators
    exact granted.trans ((granted.unclaiming h).preemptAll _)
  · exact .refl s

theorem wakeHold (h : Unclaiming n s) : wakeHold n s = s := by
  unfold Machine.wakeHold
  split
  · rw [if_neg fun wakes => wakes.2 h.queue]
  · rfl

theorem watchProceed (h : Unclaiming n s) : watchProceed n s = s.modLine n fun c => c.stopTimer .proceed := by
  have waits : proceedWaits s n = false := by
    unfold proceedWaits
    simp only [h.queue, List.isEmpty_nil, Bool.not_true, Bool.and_false, Bool.false_and]
  unfold Machine.watchProceed
  rw [waits]
  rfl

/-- The checks after an event on a line that claims nothing stop its proceed timer and change nothing else of it. -/
theorem afterEvent (h : Unclaiming n s) :
    Unclaiming n (afterEvent n s) ∧
      (afterEvent n s).line n = if s.running then (s.line n).stopTimer .proceed else s.line n := by
  unfold Machine.afterEvent
  split
  · have line := s.modLine_line (n := n) fun c => c.stopTimer .proceed
    have stopped : Unclaiming n (s.modLine n fun c => c.stopTimer .proceed) :=
      ⟨h.waits, by rw [line]; exact h.queue, by rw [line]; exact h.unfinished⟩
    rw [h.wakeHold, withdrawIfNot_of_not_waiting h.isWaiting, raiseRequest_of_none h.requests, h.watchProceed]
    exact ⟨stopped.poolRun.unclaiming stopped, stopped.poolRun.line.trans line⟩
  · exact ⟨h, rfl⟩

end Unclaiming

/-! ### A line torn down -/

section
variable (n : LineNo) (cause : CloseCause) (s : State)

theorem tornDown_line : ∃ k, (tornDown n cause s).line n = ((s.line n).torn k).enterAfter cause.stateAfter := by
  obtain ⟨k, steps⟩ := teardownSteps_line n cause s
  exact ⟨k, by rw [tornDown, State.modLine_line, steps]⟩

theorem LineCtx.enterAfter_decision (st : LineState) (c : LineCtx) : (c.enterAfter st).decision = c.decision := by
  cases st <;> rfl

/-- R82: a line torn down claims nothing. -/
theorem tornDown_unclaiming : Unclaiming n (tornDown n cause s) := by
  have pool : (tornDown n cause s).pool = (givenUp n s).pool := by simp [tornDown, teardownSteps_eq, emptiedLine]
  obtain ⟨k, line⟩ := tornDown_line n cause s
  refine ⟨fun e he => ?_, ?_, ?_⟩
  · rw [pool, givenUp_waitList] at he
    simpa using (List.mem_filter.1 he).2
  · rw [line, (LineCtx.enterAfter_kept _ _).1]
    rfl
  · have decision : ((tornDown n cause s).line n).decision = none := by rw [line, LineCtx.enterAfter_decision]; rfl
    rw [LineCtx.finished, decision]
    exact Bool.and_false _

/-- R82, R83: the context of a line that has been torn down, whatever generators were attached to it. -/
theorem teardown_context :
    ∃ k, (teardown n cause s).line n = ((s.line n).torn k).enterAfter cause.stateAfter := by
  obtain ⟨k, line⟩ := tornDown_line n cause s
  have stopped := LineCtx.stopTimer_of_stopped (c := ((s.line n).torn k).enterAfter cause.stateAfter)
    ((LineCtx.enterAfter_kept _ _).2) .proceed
  exact ⟨k, by rw [teardown_eq, (tornDown_unclaiming n cause s).afterEvent.2, line, stopped, ite_self]⟩

theorem teardown_isWaiting : isWaiting (teardown n cause s) n = false :=
  (tornDown_unclaiming n cause s).afterEvent.1.isWaiting

end

/-- What a teardown into LOCKOUT leaves of a context. -/
structure LockedOut (c d : LineCtx) : Prop where
  state : d.state = .lockout
  bound : d.bound = c.bound
  queue : d.queue = []
  number : d.number = []
  boundBank : d.boundBank = none
  decision : d.decision = none
  draft : d.draft = .none
  escapePending : d.escapePending = false
  timer : ∀ k, d.timer k = .stopped

/-- R59, R82, R83. -/
theorem teardown_lockedOut {cause : CloseCause} (after : cause.stateAfter = .lockout) (n : LineNo) (s : State) :
    LockedOut (s.line n) ((teardown n cause s).line n) := by
  obtain ⟨k, line⟩ := teardown_context n cause s
  rw [line, after]
  exact ⟨rfl, rfl, rfl, rfl, rfl, rfl, rfl, rfl, fun _ => Table.get_replicate _ _⟩

end Sys2Proof.Machine
end

section
/-! A tone symbol that is ignored (O43), and the expiries of the timers of a call: first digit, quiet, proceed and
generator wait (O44). -/

namespace Sys2Proof.Machine

/-! ### A tone symbol in SENDING and in LOCKOUT (R64) -/

theorem takeSymbol_sending {n : LineNo} {s : State} (h : (s.line n).state = .sending) (t : Tone) (e : Bool) :
    takeSymbol n t e s = inDraft n Draft.countIgnored s := by
  unfold takeSymbol
  rw [h]

theorem takeSymbol_lockout {n : LineNo} {s : State} (h : (s.line n).state = .lockout) (t : Tone) (e : Bool) :
    takeSymbol n t e s = s := by
  unfold takeSymbol
  rw [h]

/-- Settles O43. -/
theorem symbolIgnored : Obligations.SymbolIgnored := by
  refine ⟨fun n t e s sending => ?_, fun n t e s lockout => takeSymbol_lockout lockout t e,
    fun n s i t due plain clean pulses translated => ?_, fun n cause s after => ?_⟩
  · have line := inDraft_line n s Draft.countIgnored
    rw [takeSymbol_sending sending]
    refine ⟨⟨rfl, rfl, rfl, rfl, rfl⟩, .modLine s _, rfl, rfl, rfl, rfl, rfl, ?_, fun d hd => ?_⟩
    · rw [line]
      exact LineCtx.mapDraft_rest _ _
    · rw [line]
      exact LineCtx.mapDraft_draft_opened hd
  · have run := completeDigit_tone plain clean pulses (digitOutcome_plain translated)
    rw [if_neg Bool.false_ne_true] at run
    exact ⟨completeDigit n s, exec_digitComplete_due due, run⟩
  · have locked := teardown_lockedOut after n s
    exact ⟨locked.state, locked.draft⟩

/-! ### A close and the draft that opens for it (R149, R153, R154) -/

/-- What closing its draft leaves of a context. -/
structure DraftClosed (c d : LineCtx) : Prop where
  draft : d.draft = .none
  state : d.state = c.state
  bound : d.bound = c.bound
  escapePending : d.escapePending = c.escapePending
  number : d.number = c.number
  boundBank : d.boundBank = c.boundBank
  decision : d.decision = c.decision
  queue : d.queue = c.queue
  timer : ∀ k, k ≠ .quiet → d.timer k = c.timer k
  quiet : c.timer .quiet = .stopped → d.timer .quiet = .stopped

theorem closeDraft_closes (n : LineNo) (k : CloseCause) (s : State) :
    DraftClosed (s.line n) ((closeDraft n k s).line n) := by
  have others : ∀ j, j ≠ .quiet → ((s.line n).stopTimer .quiet).timer j = (s.line n).timer j := fun j hj =>
    LineCtx.stopTimer_timer_of_ne hj _
  have quiet : ((s.line n).stopTimer .quiet).timer .quiet = .stopped := LineCtx.stopTimer_timer _ _
  rw [closeDraft_line]
  split
  · next none => exact ⟨none, rfl, rfl, rfl, rfl, rfl, rfl, rfl, fun _ _ => rfl, id⟩
  · exact ⟨rfl, rfl, rfl, rfl, rfl, rfl, rfl, rfl, others, fun _ => quiet⟩
  · exact ⟨rfl, rfl, rfl, rfl, rfl, rfl, rfl, rfl, others, fun _ => quiet⟩

/-- R153: a draft closed in a state `t` with the clock and the estimators of `s` stands in the FIFO of every state that
keeps what is there. -/
theorem ClosedInto.of_close {n : LineNo} {s t u : State} {d : Draft} {cause : CloseCause}
    (clock : t.slotPath = s.slotPath) (estimators : t.estimators = s.estimators) (draft : (t.line n).draft = .opened d)
    (fifo : ∀ x ∈ (closeDraft n cause t).writer.fifo, x ∈ u.writer.fifo) : ClosedInto s u n d cause := by
  have joined := fifo _ (closeDraft_joins n cause t d draft)
  rw [clock, State.estimator_def, estimators] at joined
  exact joined

theorem LineCtx.hasDraft_of_none {c : LineCtx} (h : c.draft = .none) : c.hasDraft = false := by
  rw [hasDraft, h]

/-- R149: with no closed draft of the line waiting, the draft that opens is a new one. -/
theorem ensureDraft_opens {n : LineNo} {s : State} (none : (s.line n).draft = .none)
    (free : closedWaiting s n = false) : ((ensureDraft n s).line n).draft = .opened (newDraft s n) := by
  rw [ensureDraft, LineCtx.hasDraft_of_none none, if_neg Bool.false_ne_true, openDraft, State.modLine_line, free]
  dsimp only
  split <;> rfl

/-- R75: a line with no draft enters CONVERTING and starts no timer. -/
theorem enterConverting_line_of_none {n : LineNo} {s : State} (h : (s.line n).draft = .none) :
    (enterConverting n s).line n = { s.line n with state := .converting } := by
  rw [enterConverting, State.modLine_line]
  exact if_neg fun has => Bool.false_ne_true ((LineCtx.hasDraft_of_none h).symm.trans has)

/-! ### The timers of a call whose expiry is due -/

section
variable {n : LineNo} {s : State}

theorem exec_firstDigitTimerExpiry_due (h : isDue (.timer .firstDigit n) s = true) :
    exec (.firstDigitTimerExpiry n) s = .next (epilogue (firstDigitExpires n s)) :=
  congrArg _ (whenDue_of_due h _)

theorem exec_quietTimerExpiry_due (h : isDue (.timer .quiet n) s = true) :
    exec (.quietTimerExpiry n) s = .next (epilogue (quietExpires n s)) :=
  congrArg _ (whenDue_of_due h _)

theorem exec_proceedTimerExpiry_due (h : isDue (.timer .proceed n) s = true) :
    exec (.proceedTimerExpiry n) s = .next (epilogue (teardown n .noProceed s)) :=
  congrArg _ (whenDue_of_due h _)

theorem exec_generatorWaitTimerExpiry_due (h : isDue (.timer .generatorWait n) s = true) :
    exec (.generatorWaitTimerExpiry n) s = .next (epilogue (teardown n .noGenerator s)) :=
  congrArg _ (whenDue_of_due h _)

end

/-! ### The first-digit expiry (R73) -/

section
variable (n : LineNo) (s : State)

/-- R73: the state in which the draft of the call without a digit is closed. -/
def callWithoutDigit : State := ensureDraft n (s.modLine n fun c => c.stopTimer .firstDigit)

theorem firstDigitExpires_eq :
    firstDigitExpires n s = afterEvent n (enterConverting n (closeDraft n .noDial (callWithoutDigit n s))) := rfl

theorem callWithoutDigit_ensures : DraftEnsured ((s.line n).stopTimer .firstDigit) ((callWithoutDigit n s).line n) := by
  have ensured := ensureDraft_ensures n (s.modLine n fun c => c.stopTimer .firstDigit)
  rw [State.modLine_line] at ensured
  exact ensured

/-- R73, R75: the context at the first-digit expiry, before the checks that follow. -/
theorem noDial_line :
    (enterConverting n (closeDraft n .noDial (callWithoutDigit n s))).line n
      = { (closeDraft n .noDial (callWithoutDigit n s)).line n with state := .converting } :=
  enterConverting_line_of_none (closeDraft_closes n .noDial _).draft

theorem firstDigitExpires_line :
    ((firstDigitExpires n s).line n).state = .converting ∧ ((firstDigitExpires n s).line n).draft = .none ∧
      ((firstDigitExpires n s).line n).timer .firstDigit = .stopped ∧
      ((firstDigitExpires n s).line n).escapePending = (s.line n).escapePending ∧
      ((firstDigitExpires n s).line n).bound = (s.line n).bound ∧
      ((firstDigitExpires n s).line n).queue.map QueueEntry.what = (s.line n).queue.map QueueEntry.what := by
  have line := noDial_line n s
  have closed := closeDraft_closes n .noDial (callWithoutDigit n s)
  have ensured := callWithoutDigit_ensures n s
  have keeps := afterEvent_keeps (n := n) (s := enterConverting n (closeDraft n .noDial (callWithoutDigit n s)))
    (by rw [line]; exact nofun)
  rw [firstDigitExpires_eq, keeps.state, keeps.draft, keeps.timer .firstDigit nofun nofun, keeps.escapePending,
    keeps.bound, keeps.queue, line]
  exact ⟨rfl, closed.draft,
    (closed.timer .firstDigit nofun).trans ((ensured.timer .firstDigit nofun).trans (LineCtx.stopTimer_timer _ _)),
    closed.escapePending.trans ensured.escapePending, closed.bound.trans ensured.bound,
    congrArg (List.map QueueEntry.what) (closed.queue.trans ensured.queue)⟩

end

/-- R73, R153: the draft with which the call without a digit stands is closed NO_DIAL. -/
theorem firstDigitExpires_closedInto {n : LineNo} {s : State} {d : Draft}
    (draft : ((callWithoutDigit n s).line n).draft = .opened d) : ClosedInto s (firstDigitExpires n s) n d .noDial := by
  refine .of_close (t := callWithoutDigit n s) (by simp [callWithoutDigit]) (by simp [callWithoutDigit]) draft
    fun x hx => ?_
  have entered : Records (closeDraft n .noDial (callWithoutDigit n s))
      (enterConverting n (closeDraft n .noDial (callWithoutDigit n s))) := .of_frame (by simp) (by simp)
  exact (entered.trans (afterEvent_records n _)).fifo x hx

/-! ### The quiet expiry (R75) -/

section
variable {n : LineNo} {s : State}

theorem quietExpires_line (converting : (s.line n).state = .converting) :
    ((quietExpires n s).line n).state = .converting ∧ ((quietExpires n s).line n).draft = .none ∧
      ((quietExpires n s).line n).timer .quiet = .stopped ∧
      ((quietExpires n s).line n).escapePending = (s.line n).escapePending ∧
      ((quietExpires n s).line n).queue.map QueueEntry.what = (s.line n).queue.map QueueEntry.what := by
  have closed := closeDraft_closes n .quiet (s.modLine n fun c => c.stopTimer .quiet)
  rw [State.modLine_line] at closed
  have still := closed.state.trans converting
  have keeps := afterEvent_keeps (n := n) (s := closeDraft n .quiet (s.modLine n fun c => c.stopTimer .quiet))
    (by rw [still]; exact nofun)
  rw [quietExpires, keeps.state, keeps.draft, keeps.timer .quiet nofun nofun, keeps.escapePending, keeps.queue]
  exact ⟨still, closed.draft, closed.quiet (LineCtx.stopTimer_timer _ _), closed.escapePending,
    congrArg (List.map QueueEntry.what) closed.queue⟩

theorem quietExpires_closedInto {d : Draft} (draft : (s.line n).draft = .opened d) :
    ClosedInto s (quietExpires n s) n d .quiet :=
  .of_close (t := s.modLine n fun c => c.stopTimer .quiet) rfl rfl (by rw [State.modLine_line]; exact draft)
    (afterEvent_records n _).fifo

end

/-- R83: the proceed and the generator-wait expiry tear the line down into LOCKOUT. -/
theorem callWaitExpires {n : LineNo} {s : State} {c : Instr} {cause : CloseCause}
    (h : (isDue (.timer .proceed n) s = true ∧ c = .proceedTimerExpiry n ∧ cause = .noProceed) ∨
      (isDue (.timer .generatorWait n) s = true ∧ c = .generatorWaitTimerExpiry n ∧ cause = .noGenerator)) :
    exec c s = .next (epilogue (teardown n cause s)) ∧ cause.stateAfter = .lockout := by
  rcases h with ⟨due, rfl, rfl⟩ | ⟨due, rfl, rfl⟩
  · exact ⟨exec_proceedTimerExpiry_due due, rfl⟩
  · exact ⟨exec_generatorWaitTimerExpiry_due due, rfl⟩

/-- Settles O44. -/
theorem callTimerExpiries : Obligations.CallTimerExpiries := by
  refine ⟨fun n s due => ?_, fun n s due converting => ?_, fun n s c cause h => ?_⟩
  · obtain ⟨state, draft, timer, escape, bound, queue⟩ := firstDigitExpires_line n s
    refine ⟨firstDigitExpires n s, exec_firstDigitTimerExpiry_due due, by simp [HostSideKept], by simp, by simp,
      by simp, by simp, state, draft, timer, escape, bound, queue, fun d hd => ?_, fun none free => ⟨?_, rfl⟩⟩
    · have same := (callWithoutDigit_ensures n s).opened d hd
      exact firstDigitExpires_closedInto (by rw [same]; exact hd)
    · have line := s.modLine_line (n := n) fun c => c.stopTimer .firstDigit
      have opened := ensureDraft_opens (s := s.modLine n fun c => c.stopTimer .firstDigit)
        (by rw [line]; exact none) free
      have fresh : newDraft (s.modLine n fun c => c.stopTimer .firstDigit) n = newDraft s n := by
        unfold newDraft
        rw [line]
        rfl
      rw [fresh] at opened
      exact firstDigitExpires_closedInto opened
  · obtain ⟨state, draft, timer, escape, queue⟩ := quietExpires_line converting
    exact ⟨quietExpires n s, exec_quietTimerExpiry_due due, by simp [HostSideKept], by simp, by simp, by simp,
      by simp, state, draft, timer, escape, queue, fun d => quietExpires_closedInto⟩
  · obtain ⟨run, after⟩ := callWaitExpires h
    have locked := teardown_lockedOut after n s
    exact ⟨teardown n cause s, run, by simp [HostSideKept], by simp, by simp, locked.state, locked.queue,
      locked.number, locked.boundBank, locked.decision, locked.draft, locked.escapePending, locked.timer, locked.bound,
      teardown_isWaiting n cause s, fun d => teardown_closedInto cause⟩

end Sys2Proof.Machine
end

section
/-! What a decision comes to (O16): the entries that send, BARRED and INCOMPLETE, EMERGENCY, and the complete expiry
that brings one (R74, R99 to R101). -/

namespace Sys2Proof.Machine

/-! ### What a decision that sends records (R99, R101) -/

/-- R99: what a decision that sends makes of the draft. -/
def Draft.decide (bank : Option BankNo) (entry : Option Nat) (action : PlanAction) (count : Nat)
    (emergency unmatched : Bool) (d : Draft) : Draft :=
  { d with
    bank, entry, action := some action, toSend := count, emergency := d.emergency || emergency,
    unmatched := d.unmatched || unmatched }

/-- An entry's decision makes the draft of the statements. -/
theorem Draft.decide_entry (s : State) (n : LineNo) (i : Nat) (e : PlanEntry) :
    Draft.decide (s.line n).boundBank (some i) e.action (e.sends (s.line n).number).length (e.cls == .a) false
      = decidedDraft s n i e := by
  funext d
  simp only [decide, decidedDraft, Bool.or_false]

/-- R99: the context of a line that has recorded a decision: its complete timer stopped and its bank unbound. -/
def LineCtx.decided (entry : Option Nat) (action : PlanAction) (count : Nat) (emergency unmatched : Bool)
    (c : LineCtx) : LineCtx :=
  { c.stopTimer .complete with boundBank := none }.mapDraft
    (Draft.decide c.boundBank entry action count emergency unmatched)

section
variable (i : Option Nat) (a : PlanAction) (count : Nat) (e u : Bool)

theorem LineCtx.decided_kept (c : LineCtx) :
    (c.decided i a count e u).queue = c.queue ∧ (c.decided i a count e u).decision = c.decision ∧
      (c.decided i a count e u).boundBank = none ∧ (c.decided i a count e u).timer .complete = .stopped := by
  have rest := { c.stopTimer .complete with boundBank := none }.mapDraft_rest
    (Draft.decide c.boundBank i a count e u)
  obtain ⟨-, queue, timers⟩ := { c.stopTimer .complete with boundBank := none }.mapDraft_kept
    (Draft.decide c.boundBank i a count e u)
  refine ⟨queue, (congrArg LineCtx.decision rest :), (congrArg LineCtx.boundBank rest :), ?_⟩
  rw [timer, decided, timers]
  exact c.stopTimer_timer .complete

theorem LineCtx.decided_draft {c : LineCtx} {d : Draft} (h : c.draft = .opened d) :
    (c.decided i a count e u).draft = .opened (d.decide c.boundBank i a count e u) :=
  LineCtx.mapDraft_draft_opened (c := { c.stopTimer .complete with boundBank := none }) h

variable (n : LineNo) (s : State)

/-- R99: a recorded decision, before EMERGENCY is raised. -/
def decisionRecorded : State :=
  inDraft n (Draft.decide (s.line n).boundBank i a count e u)
    (unbindBank n (s.modLine n fun c => c.stopTimer .complete))

theorem recordDecision_eq :
    recordDecision n i a count e u s =
      if e then raise .emergency (decisionRecorded i a count e u n s) else decisionRecorded i a count e u n s := rfl

theorem recordDecision_line : (recordDecision n i a count e u s).line n = (s.line n).decided i a count e u := by
  have recorded : (decisionRecorded i a count e u n s).line n = (s.line n).decided i a count e u := by
    rw [decisionRecorded, inDraft_line, unbindBank_line, State.modLine_line]
    rfl
  rw [← recorded, recordDecision_eq]
  split <;> rfl

/-- R93, R99: the bank of a decided number counts one line less. -/
theorem recordDecision_refCount {b : BankNo} (h : (s.line n).boundBank = some b) :
    ((recordDecision n i a count e u s).bank b).refCount = (s.bank b).refCount - 1 := by
  have bound : ((s.modLine n fun c => c.stopTimer .complete).line n).boundBank = some b := by
    rw [State.modLine_line]
    exact h
  have unbound := unbindBank_refCount bound
  rw [recordDecision_eq]
  split <;> exact unbound

/-- R101: a class A entry raises EMERGENCY, and no other raises anything. -/
theorem recordDecision_control :
    (e = true → Raised .emergency s.control (recordDecision n i a count e u s).control) ∧
      (e = false → (recordDecision n i a count e u s).control = s.control) := by
  have kept : (decisionRecorded i a count e u n s).control = s.control := by simp [decisionRecorded]
  rw [recordDecision_eq]
  refine ⟨fun h => ?_, fun h => ?_⟩
  · rw [if_pos h, ← kept]
    exact raise_raised .emergency _
  · rw [if_neg (by rw [h]; exact Bool.false_ne_true), kept]

end

/-! ### A decision that sends (R99, R100) -/

section
variable (n : LineNo) (i : Option Nat) (a : PlanAction) (cls : ServiceClass) (symbols : List Tone) (e u : Bool)
  (s : State)

theorem decideSend_control :
    (decideSend n i a cls symbols e u s).control = (recordDecision n i a symbols.length e u s).control := by
  unfold decideSend
  dsimp only
  split <;> simp

theorem decideSend_plan :
    (decideSend n i a cls symbols e u s).plan = (recordDecision n i a symbols.length e u s).plan := by
  unfold decideSend
  dsimp only
  split <;> simp

/-- R99: the context after a decision that sends one symbol or more. -/
theorem decideSend_line_of_ne_nil (h : symbols ≠ []) :
    (decideSend n i a cls symbols e u s).line n =
      { (s.line n).decided i a symbols.length e u with
        decision := some { cls, toSend := symbols.length, sent := 0 }, number := [],
        queue := ((s.line n).decided i a symbols.length e u).queue ++
          symbols.map fun t => { symbol := t, origin := .subscriber, begun := false },
        state := .sending } := by
  unfold decideSend
  dsimp only
  rw [if_neg (by simpa using h), State.modLine_line, recordDecision_line]

/-- R99: the queue after a decision that sends one symbol or more. -/
theorem decideSend_queue (h : symbols ≠ []) :
    ((decideSend n i a cls symbols e u s).line n).queue.map QueueEntry.what
      = (s.line n).queue.map QueueEntry.what ++ symbols.map fun t => (t, Origin.subscriber) := by
  obtain ⟨queue, -⟩ := LineCtx.decided_kept i a symbols.length e u (s.line n)
  rw [decideSend_line_of_ne_nil n i a cls symbols e u s h]
  dsimp only
  rw [queue, List.map_append, List.map_map]
  rfl

/-- R100: the state in which a decision that sends nothing closes its draft. -/
def nothingToSend : State := (recordDecision n i a 0 e u s).modLine n fun c => { c with number := [] }

theorem decideSend_nil :
    decideSend n i a cls [] e u s
      = (closeDraft n .complete (nothingToSend n i a e u s)).modLine n fun c => { c with state := .converting } := rfl

theorem nothingToSend_line :
    (nothingToSend n i a e u s).line n = { (s.line n).decided i a 0 e u with number := [] } := by
  rw [nothingToSend, State.modLine_line, recordDecision_line]

/-- R100: what a decision that sends nothing leaves of the context. -/
theorem decideSend_nil_line :
    ((decideSend n i a cls [] e u s).line n).state = .converting ∧
      ((decideSend n i a cls [] e u s).line n).queue = (s.line n).queue ∧
      ((decideSend n i a cls [] e u s).line n).decision = (s.line n).decision ∧
      ((decideSend n i a cls [] e u s).line n).draft = .none := by
  obtain ⟨queue, decision, -⟩ := LineCtx.decided_kept i a 0 e u (s.line n)
  have closed := closeDraft_closes n .complete (nothingToSend n i a e u s)
  rw [nothingToSend_line] at closed
  rw [decideSend_nil, State.modLine_line]
  exact ⟨rfl, closed.queue.trans queue, closed.decision.trans decision, closed.draft⟩

/-- R100: the draft of a decision that sends nothing closes COMPLETE. -/
theorem decideSend_nil_closedInto {d : Draft} (h : (s.line n).draft = .opened d) :
    ClosedInto s (decideSend n i a cls [] e u s) n (d.decide (s.line n).boundBank i a 0 e u) .complete := by
  refine .of_close (t := nothingToSend n i a e u s) (by simp [nothingToSend]) (by simp [nothingToSend]) ?_
    fun _ hx => hx
  rw [nothingToSend_line]
  exact LineCtx.decided_draft i a 0 e u h

/-- R99, R100: what every decision that sends, or would, leaves of the number register, the bank and the timer. -/
theorem decideSend_register :
    ((decideSend n i a cls symbols e u s).line n).number = [] ∧
      ((decideSend n i a cls symbols e u s).line n).boundBank = none ∧
      ((decideSend n i a cls symbols e u s).line n).timer .complete = .stopped := by
  obtain ⟨-, -, bank, complete⟩ := LineCtx.decided_kept i a symbols.length e u (s.line n)
  cases symbols with
  | nil =>
    have closed := closeDraft_closes n .complete (nothingToSend n i a e u s)
    rw [nothingToSend_line] at closed
    rw [decideSend_nil, State.modLine_line]
    exact ⟨closed.number, closed.boundBank.trans bank, (closed.timer .complete nofun).trans complete⟩
  | cons t ts =>
    rw [decideSend_line_of_ne_nil n i a cls (t :: ts) e u s nofun]
    exact ⟨rfl, bank, complete⟩

end

/-! ### A decision that refuses (R100) -/

/-- R100: what a refusal makes of the draft. -/
def Draft.refuse (bank : Option BankNo) (entry : Option Nat) (action : Option PlanAction) (d : Draft) : Draft :=
  { d with bank, entry, action, toSend := 0 }

section
variable (n : LineNo) (i : Option Nat) (a : Option PlanAction) (s : State)

/-- R100: a refusal that the draft has recorded. -/
def refusalRecorded : State :=
  inDraft n (Draft.refuse (s.line n).boundBank i a) (s.modLine n fun c => c.stopTimer .complete)

theorem decideRefuse_eq (cause : CloseCause) :
    decideRefuse n i a cause s = teardown n cause (refusalRecorded n i a s) := by
  have bank : ((s.modLine n fun c => c.stopTimer .complete).line n).boundBank = (s.line n).boundBank := by
    rw [State.modLine_line]
    rfl
  unfold decideRefuse
  dsimp only
  rw [bank]
  rfl

theorem refusalRecorded_line :
    (refusalRecorded n i a s).line n
      = ((s.line n).stopTimer .complete).mapDraft (Draft.refuse (s.line n).boundBank i a) := by
  rw [refusalRecorded, inDraft_line, State.modLine_line]

/-- R93, R100: a refusal unbinds the bank. -/
theorem decideRefuse_refCount (cause : CloseCause) {b : BankNo} (h : (s.line n).boundBank = some b) :
    ((decideRefuse n i a cause s).bank b).refCount = (s.bank b).refCount - 1 := by
  have bound : ((refusalRecorded n i a s).line n).boundBank = some b := by
    rw [refusalRecorded_line, (LineCtx.mapDraft_register _ _).2]
    exact h
  have kept : (refusalRecorded n i a s).bank b = s.bank b := rfl
  rw [decideRefuse_eq, ← kept]
  exact teardown_refCount cause bound

/-- R100, R153: the draft of a refused number closes with the refusal's cause. -/
theorem decideRefuse_closedInto (cause : CloseCause) {d : Draft} (h : (s.line n).draft = .opened d) :
    ClosedInto s (decideRefuse n i a cause s) n (d.refuse (s.line n).boundBank i a) cause := by
  have draft : ((refusalRecorded n i a s).line n).draft = .opened (d.refuse (s.line n).boundBank i a) := by
    rw [refusalRecorded_line]
    exact LineCtx.mapDraft_draft_opened h
  have clock : (refusalRecorded n i a s).slotPath = s.slotPath := rfl
  have estimator : (refusalRecorded n i a s).estimator n = s.estimator n := rfl
  have closed := teardown_closedInto cause draft
  rw [ClosedInto, clock, estimator] at closed
  rw [decideRefuse_eq]
  exact closed

end

/-! ### Acting on a verdict -/

section
variable {n : LineNo} {s : State}

theorem actOn_sends {e : PlanEntry} (h : e.action ≠ .bar) (i : Nat) :
    actOn n (.entry i e) s
      = decideSend n (some i) e.action e.cls (e.sends (s.line n).number) (e.cls == .a) false s := by
  obtain ⟨_, _, _, action, _, _, _⟩ := e
  cases action with
  | pass => rfl
  | prepend => rfl
  | stripPrepend => rfl
  | bar => exact absurd rfl h

theorem actOn_unmatchedPass :
    actOn n .unmatchedPass s = decideSend n none .pass (s.setting n).cls (s.line n).number false true s := rfl

theorem actOn_incomplete : actOn n .incomplete s = decideRefuse n none none .incomplete s := rfl

/-- R100: the verdicts that refuse, and the line state they lead to. -/
theorem actOn_refuses {v : Verdict} {entry : Option Nat} {action : Option PlanAction} {cause : CloseCause}
    (h : (∃ i e, v = .entry i e ∧ e.action = .bar ∧ entry = some i ∧ action = some .bar ∧ cause = .barred) ∨
      (v = .unmatchedBar ∧ entry = none ∧ action = some .bar ∧ cause = .barred) ∨
      (v = .incomplete ∧ entry = none ∧ action = none ∧ cause = .incomplete)) :
    actOn n v s = decideRefuse n entry action cause s ∧ cause.stateAfter = .lockout := by
  rcases h with ⟨i, e, rfl, bar, rfl, rfl, rfl⟩ | ⟨rfl, rfl, rfl, rfl⟩ | ⟨rfl, rfl, rfl, rfl⟩
  · obtain ⟨_, _, _, _, _, _, _⟩ := e
    cases bar
    exact ⟨rfl, rfl⟩
  · exact ⟨rfl, rfl⟩
  · exact ⟨rfl, rfl⟩

end

/-! ### The complete expiry (R74) -/

section
variable {n : LineNo} {s : State}

theorem exec_completeTimerExpiry_due (h : isDue (.timer .complete n) s = true) :
    exec (.completeTimerExpiry n) s = .next (epilogue (completeExpires n s)) :=
  congrArg _ (whenDue_of_due h _)

theorem completeExpires_decides {v : Verdict}
    (h : matchExpiry (boundEntries s n) (s.boundProfile n).unmatchedAction (s.line n).number = v) :
    completeExpires n s = afterEvent n (actOn n v (s.modLine n fun c => c.stopTimer .complete)) := by
  rw [completeExpires, h]

/-- The checks after an event keep a decided number that has a symbol still to send. -/
theorem afterEvent_keepsUnsent {d : Decision} (decision : (s.line n).decision = some d) (unsent : d.sent < d.toSend) :
    ((afterEvent n s).line n).state = (s.line n).state ∧ ((afterEvent n s).line n).decision = some d := by
  have unfinished : (s.line n).finished = false := by
    unfold LineCtx.finished
    rw [decision]
    simp [unsent]
  obtain ⟨state, kept, -⟩ := (afterEvent_touches n s n).unfinished unfinished
  exact ⟨state, kept.trans decision⟩

/-- R99: what the checks after the event leave of a decision that has just been made. -/
theorem afterEvent_decideSend (i : Option Nat) (a : PlanAction) (cls : ServiceClass) {symbols : List Tone}
    (h : symbols ≠ []) (e u : Bool) {t : State} (ht : t = afterEvent n (decideSend n i a cls symbols e u s)) :
    (t.line n).state = .sending ∧
      (t.line n).queue.map QueueEntry.what
        = (s.line n).queue.map QueueEntry.what ++ symbols.map (fun t => (t, Origin.subscriber)) ∧
      (t.line n).decision = some { cls, toSend := symbols.length, sent := 0 } ∧ (t.line n).number = [] ∧
      (t.line n).boundBank = none := by
  have line := decideSend_line_of_ne_nil n i a cls symbols e u s h
  have touched := afterEvent_touches n (decideSend n i a cls symbols e u s) n
  obtain ⟨number, bank, -⟩ := decideSend_register n i a cls symbols e u s
  obtain ⟨state, decision⟩ := afterEvent_keepsUnsent (n := n) (s := decideSend n i a cls symbols e u s)
    (d := { cls, toSend := symbols.length, sent := 0 }) (by rw [line]) (List.length_pos_of_ne_nil h)
  rw [ht, state, decision, touched.number, touched.boundBank, touched.queue]
  exact ⟨by rw [line], decideSend_queue n i a cls symbols e u s h, rfl, number, bank⟩

/-- R96, R100: what the checks after the event leave of a line that a refusal has put into LOCKOUT. -/
theorem afterEvent_lockedOut {c : LineCtx} (h : LockedOut c (s.line n)) :
    ((afterEvent n s).line n).state = .lockout ∧ ((afterEvent n s).line n).queue = [] ∧
      ((afterEvent n s).line n).number = [] ∧ ((afterEvent n s).line n).boundBank = none ∧
      ((afterEvent n s).line n).draft = .none := by
  have keeps := afterEvent_keeps (n := n) (s := s) (by rw [h.state]; exact nofun)
  have queue := keeps.queue
  rw [h.queue] at queue
  exact ⟨keeps.state.trans h.state, List.map_eq_nil_iff.1 queue, keeps.number.trans h.number,
    keeps.boundBank.trans h.boundBank, keeps.draft.trans h.draft⟩

end

/-- An event that leaves the classifiers and the estimators reaches no line's. -/
theorem OtherLoopsKept.of_blocks {n : LineNo} {s u : State} (hc : u.classifiers = s.classifiers)
    (he : u.estimators = s.estimators) : OtherLoopsKept n s u := fun m _ => by
  rw [State.classifier_def, hc, State.estimator_def, he]
  exact ⟨rfl, rfl⟩

/-- Settles O16. -/
theorem completeExpiryActsOnTheDecision : Obligations.CompleteExpiryActsOnTheDecision := by
  refine fun n s due _ => ⟨fun pass symbols empty => ?_, fun incomplete => ?_, fun n i e s sends => ?_,
    fun n v s entry action cause refuses => ?_⟩
  · have run := completeExpires_decides pass
    have loops : OtherLoopsKept n s (completeExpires n s) := .of_blocks (by simp) (by simp)
    have line := s.modLine_line (n := n) fun c => c.stopTimer .complete
    have number : ((s.modLine n fun c => c.stopTimer .complete).line n).number = (s.line n).number := by rw [line]; rfl
    have queue : ((s.modLine n fun c => c.stopTimer .complete).line n).queue = [] := by rw [line]; exact empty
    rw [actOn_unmatchedPass, number] at run
    have control : (completeExpires n s).control = s.control := by
      have checks : ∀ t, (afterEvent n t).control = t.control := by simp
      obtain ⟨-, quiet⟩ := recordDecision_control none .pass (s.line n).number.length false true n
        (s.modLine n fun c => c.stopTimer .complete)
      rw [run, checks, decideSend_control]
      exact quiet rfl
    obtain ⟨state, queued, decision, cleared, bank⟩ := afterEvent_decideSend _ _ _ symbols _ _ run
    rw [queue] at queued
    exact ⟨completeExpires n s, exec_completeTimerExpiry_due due, ⟨by simp, by simp, control, by simp, by simp⟩,
      loops,
      state, queued, decision, cleared, bank⟩
  · have run := completeExpires_decides incomplete
    rw [actOn_incomplete, decideRefuse_eq] at run
    have locked := teardown_lockedOut (cause := .incomplete) rfl n
      (refusalRecorded n none none (s.modLine n fun c => c.stopTimer .complete))
    obtain ⟨state, queue, number, bank, draft⟩ := afterEvent_lockedOut locked
    rw [← run] at state queue number bank draft
    have kept : (completeExpires n s).control = s.control := by
      rw [run]
      simp [refusalRecorded]
    exact ⟨completeExpires n s, exec_completeTimerExpiry_due due, ⟨by simp, by simp, kept, by simp, by simp⟩,
      .of_blocks (by simp) (by simp), state, queue, number, bank, draft⟩
  · have decided := Draft.decide_entry s n i e
    rw [actOn_sends sends]
    obtain ⟨number, bank, timer⟩ :=
      decideSend_register n (some i) e.action e.cls (e.sends (s.line n).number) (e.cls == .a) false s
    obtain ⟨raises, quiet⟩ :=
      recordDecision_control (some i) e.action (e.sends (s.line n).number).length (e.cls == .a) false n s
    refine ⟨fun symbols => ⟨by simp, by simp, ?_, ?_, ?_, fun d hd => ?_⟩, fun nothing => ?_, number, bank, timer,
      fun b hb => ?_, fun classA => ?_, fun other => ?_⟩
    · rw [decideSend_line_of_ne_nil _ _ _ _ _ _ _ _ symbols]
    · exact decideSend_queue _ _ _ _ _ _ _ _ symbols
    · rw [decideSend_line_of_ne_nil _ _ _ _ _ _ _ _ symbols]
    · rw [decideSend_line_of_ne_nil _ _ _ _ _ _ _ _ symbols, ← decided]
      exact LineCtx.decided_draft _ _ _ _ _ hd
    · rw [nothing] at decided ⊢
      obtain ⟨state, queue, decision, draft⟩ := decideSend_nil_line n (some i) e.action e.cls (e.cls == .a) false s
      refine ⟨by simp, by simp, state, queue, decision, draft, fun d hd => ?_⟩
      rw [← decided]
      exact decideSend_nil_closedInto _ _ _ _ _ _ _ hd
    · rw [State.bank_def, decideSend_plan, ← State.bank_def]
      exact recordDecision_refCount _ _ _ _ _ _ _ hb
    · rw [decideSend_control]
      exact raises (by rw [classA]; rfl)
    · rw [decideSend_control]
      exact quiet (beq_false_of_ne other)
  · obtain ⟨run, after⟩ := actOn_refuses (n := n) (s := s) refuses
    rw [run]
    have locked := teardown_lockedOut after n (refusalRecorded n entry action s)
    rw [← decideRefuse_eq] at locked
    exact ⟨by simp [HostSideKept], locked.state, locked.queue, locked.number, locked.boundBank, locked.draft,
      locked.timer, fun b => decideRefuse_refCount n entry action s cause,
      fun d => decideRefuse_closedInto n entry action s cause⟩

end Sys2Proof.Machine
end

section
/-! An order carried out: a completed access that no ABORT ends, the order that stays current while its work changes,
its answer, and its next access, allowed or refused (R169, R174 to R176). -/

namespace Sys2Proof.Machine

/-! ### The access that completes -/

theorem onBus_iff {s : State} {p : Purpose} :
    s.onBus p = true ↔ ∃ a, s.port.inFlight = some a ∧ a.purpose = p ∧ a.abandoned = none := by
  unfold State.onBus
  split <;> simp_all

theorem whenDone_of_onBus {s : State} {p : Purpose} (h : s.onBus p = true) (k : State → State) :
    whenDone p k s = epilogue (k (freeBus s)) := by
  obtain ⟨a, inFlight, purpose, kept⟩ := onBus_iff.1 h
  unfold whenDone
  rw [inFlight]
  dsimp only
  rw [if_pos purpose, kept]
  rfl

/-- R176: an order with no ABORT waiting goes on. -/
theorem unlessAborted_of_working {s : State} {c : CurrentOrder} (h : s.working c) (k : State → State) :
    unlessAborted k s = k s := by
  obtain ⟨current, free⟩ := h
  have goes : abortWaits s = false := by
    unfold abortWaits
    rw [current]
    exact free
  rw [unlessAborted, goes]
  rfl

/-- A read of the current order completes, and the order goes on. -/
theorem whenDone_working {s : State} {c : CurrentOrder} {p : Purpose} (h : s.onBus p = true) (w : s.working c)
    (k : State → State) : whenDone p (unlessAborted k) s = epilogue (k (freeBus s)) := by
  have working : (freeBus s).working c := w
  rw [whenDone_of_onBus h, unlessAborted_of_working working]

/-- R174: the state in which an order is carried out: its body is held. -/
def bodyHeld (b : OrderBody) (s : State) : State := holdBody b (freeBus s)

/-- R174: an order whose body has its code is carried out. -/
theorem whenBody_executing {s : State} {c : CurrentOrder} {i : Instr} {b : OrderBody} (h : s.executing c)
    (code : i.wellFormed = true) (k : State → State) : whenBody i b k s = epilogue (k (bodyHeld b s)) := by
  obtain ⟨-, bus, working⟩ := h
  rw [whenBody, if_pos code, whenDone_working bus working]
  rfl

theorem bodyHeld_orders {s : State} {c : CurrentOrder} (h : s.orders.current = some c) (b : OrderBody) :
    (bodyHeld b s).orders = { s.orders with state := .executing, current := some { c with body := some b } } := by
  have current : (freeBus s).orders.current = some c := h
  simp only [bodyHeld, holdBody, onCurrent, State.modOrders_orders, current]
  rfl

/-! ### What only the order unit changes -/

theorem ClosedInto.of_clock {n : LineNo} {s t u : State} {d : Draft} {cause : CloseCause} (h : ClosedInto t u n d cause)
    (clock : t.slotPath = s.slotPath) (estimators : t.estimators = s.estimators) : ClosedInto s u n d cause := by
  rw [ClosedInto, clock, State.estimator_def, estimators] at h
  exact h

theorem isWaiting_congr {s t : State} (h : t.pool = s.pool) (n : LineNo) : isWaiting t n = isWaiting s n := by
  simp only [isWaiting, waitEntry, h]

theorem ClosedInto.of_writer {n : LineNo} {s t u : State} {d : Draft} {cause : CloseCause}
    (h : ClosedInto s t n d cause) (writer : u.writer = t.writer) : ClosedInto s u n d cause := by
  rw [ClosedInto, writer]
  exact h

namespace OrderUnitOnly

variable {s t u : State}

theorem trans (h : OrderUnitOnly s t) (k : OrderUnitOnly t u) : OrderUnitOnly s u := by
  unfold OrderUnitOnly at *
  obtain ⟨h1, h2, h3, h4, h5, h6, h7, h8, h9, h10, h11, h12⟩ := h
  obtain ⟨k1, k2, k3, k4, k5, k6, k7, k8, k9, k10, k11, k12⟩ := k
  exact ⟨k1.trans h1, k2.trans h2, k3.trans h3, k4.trans h4, k5.trans h5, k6.trans h6, k7.trans h7, k8.trans h8,
    k9.trans h9, k10.trans h10, k11.trans h11, k12.trans h12⟩

theorem freeBus (s : State) : OrderUnitOnly s (freeBus s) := by simp [OrderUnitOnly]

theorem bodyHeld (b : OrderBody) (s : State) : OrderUnitOnly s (bodyHeld b s) := by
  simp [OrderUnitOnly, Machine.bodyHeld]

theorem onCurrent (f : CurrentOrder → CurrentOrder) (s : State) : OrderUnitOnly s (onCurrent f s) := by
  simp [OrderUnitOnly]

theorem askOrder (a : Access) (s : State) : OrderUnitOnly s (askOrder a s) := by simp [OrderUnitOnly]

theorem chooseResult (status : OrderStatus) (details : Details) (s : State) :
    OrderUnitOnly s (chooseResult status details s) := by simp [OrderUnitOnly]

theorem line (h : OrderUnitOnly s t) (n : LineNo) : t.line n = s.line n := by
  obtain ⟨-, -, -, -, -, -, lines, -⟩ := h
  rw [State.line_def, lines, ← State.line_def]

theorem classifier (h : OrderUnitOnly s t) (n : LineNo) : t.classifier n = s.classifier n := by
  obtain ⟨-, -, -, -, classifiers, -⟩ := h
  rw [State.classifier_def, classifiers, ← State.classifier_def]

theorem otherLoops (h : OrderUnitOnly s t) (n : LineNo) : OtherLoopsKept n s t := by
  obtain ⟨-, -, -, -, classifiers, estimators, -⟩ := h
  exact .of_blocks classifiers estimators

theorem isWaiting (h : OrderUnitOnly s t) (n : LineNo) : isWaiting t n = isWaiting s n := by
  obtain ⟨-, -, -, -, -, -, -, -, -, pool, -⟩ := h
  exact isWaiting_congr pool n

theorem closedInto {s' : State} (h : OrderUnitOnly s t) {n : LineNo} {d : Draft} {cause : CloseCause}
    (k : ClosedInto s' s n d cause) : ClosedInto s' t n d cause := by
  obtain ⟨-, -, -, -, -, -, -, -, -, -, -, writer⟩ := h
  exact k.of_writer writer

end OrderUnitOnly

/-! ### The order that stays current -/

/-- The order unit has the same order in hand, of the same slot, under the same windows, whatever its work. -/
structure SameOrder (s t : State) : Prop where
  cursor : t.orders.cursor = s.orders.cursor
  area : t.orders.area = s.orders.area
  slot : t.orders.current.map CurrentOrder.slot = s.orders.current.map CurrentOrder.slot
  windows : t.port.windows = s.port.windows

namespace SameOrder

variable {s t u : State}

theorem trans (h : SameOrder s t) (k : SameOrder t u) : SameOrder s u :=
  ⟨k.cursor.trans h.cursor, k.area.trans h.area, k.slot.trans h.slot, k.windows.trans h.windows⟩

theorem of_orders (ho : t.orders = s.orders) (hw : t.port.windows = s.port.windows) : SameOrder s t :=
  ⟨by rw [ho], by rw [ho], by rw [ho], hw⟩

theorem freeBus (s : State) : SameOrder s (freeBus s) := of_orders rfl rfl

theorem onCurrent {f : CurrentOrder → CurrentOrder} (hf : ∀ c, (f c).slot = c.slot) (s : State) :
    SameOrder s (onCurrent f s) := by
  refine ⟨rfl, rfl, ?_, rfl⟩
  have same : CurrentOrder.slot ∘ f = CurrentOrder.slot := funext hf
  rw [Machine.onCurrent, State.modOrders_orders, Option.map_map, same]

theorem bodyHeld (b : OrderBody) (s : State) : SameOrder s (bodyHeld b s) := by
  have executing : SameOrder s ((Machine.freeBus s).modOrders fun o => { o with state := .executing }) :=
    ⟨rfl, rfl, rfl, rfl⟩
  exact executing.trans (onCurrent (f := fun c => { c with body := some b }) (fun _ => rfl) _)

end SameOrder

theorem readAccess_congr {s t : State} (h : t.port.windows = s.port.windows) : readAccess t = readAccess s := by
  funext p sa len
  rw [readAccess, h]
  rfl

/-- R175: the result that the order in hand chooses answers it. -/
theorem SameOrder.answered {s t : State} {c : CurrentOrder} (same : SameOrder s t) (h : s.orders.current = some c)
    (status : OrderStatus) (details : Details) : Answered s (chooseResult status details t) status details := by
  have slot := same.slot
  rw [h, Option.map_some, Option.map_eq_some_iff] at slot
  obtain ⟨d, current, slot⟩ := slot
  obtain ⟨state, cursor, d', e, hd, he, slot', result, waits⟩ := chooseResult_answered current status details
  obtain rfl : d' = d := Option.some.inj (hd.symm.trans current)
  refine ⟨state, cursor.trans same.cursor, c, e, h, he, slot'.trans slot, result, ?_⟩
  rw [waits, writeAccess_congr same.windows, slot, orderSlot, same.area]
  rfl

/-- R175: an order that only answers. -/
theorem bodyHeld_answers {s : State} {c : CurrentOrder} (h : s.orders.current = some c) (b : OrderBody)
    (status : OrderStatus) (details : Details) :
    OrderUnitOnly s (chooseResult status details (bodyHeld b s)) ∧
      Answered s (chooseResult status details (bodyHeld b s)) status details :=
  ⟨(OrderUnitOnly.bodyHeld b s).trans (.chooseResult _ _ _), (SameOrder.bodyHeld b s).answered h _ _⟩

/-! ### The next access of the order (R169) -/

section
variable {s t : State} {sa : Word} {len : Nat} (same : SameOrder s t) (p : Purpose) (i : Nat)
include same

/-- R169: a read that passes the port's check is asked for. -/
theorem SameOrder.read_allowed (h : accessAllowed s.port.windows sa len false = true) :
    orderAccess p sa len [] i t = askOrder (readAccess s p sa len) t := by
  rw [orderAccess, same.windows, List.isEmpty_nil, Bool.not_true, if_pos h, if_pos rfl, readAccess_congr same.windows]

/-- R169: a read that does not pass ends the order WINDOW_FAULT. -/
theorem SameOrder.read_refused (h : accessAllowed s.port.windows sa len false = false) :
    orderAccess p sa len [] i t = chooseResult .windowFault { address := sa.toNat, kind := 0, index := i }
      (raise .windowFault (emptyCurrentLoad t)) := by
  rw [orderAccess, same.windows, List.isEmpty_nil, Bool.not_true, if_neg (by rw [h]; exact Bool.false_ne_true)]
  rfl

/-- R169: a refused read answers the order and raises the cause. -/
theorem SameOrder.refused_answered {c : CurrentOrder} (current : s.orders.current = some c)
    (control : t.control = s.control) (h : accessAllowed s.port.windows sa len false = false) :
    Raised .windowFault s.control (orderAccess p sa len [] i t).control ∧
      Answered s (orderAccess p sa len [] i t) .windowFault { address := sa.toNat, kind := 0, index := i } := by
  have emptied : (emptyCurrentLoad t).control = s.control := by rw [← control]; simp
  have kept : SameOrder t (raise .windowFault (emptyCurrentLoad t)) := .of_orders (by simp) (by simp)
  have chosen : ∀ (d : Details) (v : State), (chooseResult .windowFault d v).control = v.control := by simp
  rw [same.read_refused p i h, chosen, ← emptied]
  exact ⟨raise_raised .windowFault _, (same.trans kept).answered current _ _⟩

end

/-- R105: only LOAD_PLAN has a target to empty. -/
theorem emptyCurrentLoad_of_not_loadPlan {s : State} {c : CurrentOrder} (h : s.orders.current = some c)
    (work : ∀ source b count, c.work ≠ .loadPlan source b count) : emptyCurrentLoad s = s := by
  unfold emptyCurrentLoad
  rw [h]
  dsimp only
  unfold emptyLoad
  split
  · next source b count hw => exact absurd hw (work source b count)
  all_goals rfl

/-- A next access, allowed or refused, reaches no plan bank unless the order is a LOAD_PLAN. -/
theorem orderAccess_plan {s : State} {c : CurrentOrder} (h : s.orders.current = some c)
    (work : ∀ source b count, c.work ≠ .loadPlan source b count) (p : Purpose) (sa : Word) (len : Nat)
    (data : List Byte) (i : Nat) : (orderAccess p sa len data i s).plan = s.plan := by
  unfold orderAccess
  rw [emptyCurrentLoad_of_not_loadPlan h work]
  split <;> simp

end Sys2Proof.Machine
end

section
/-! SET_LINE (O53): the checks in order, the setting written, and the line that acts on it (R83, R87). -/

namespace Sys2Proof.Machine

/-! ### The checks -/

section
variable {b : OrderBody} {s : State}

theorem setLine_badLine (h : 64 ≤ param b 0x08) : setLine b s = badParameter 0x08 s := by
  unfold setLine
  rw [dif_neg (Nat.not_lt.2 h)]

variable (line : param b 0x08 < 64)
include line

theorem setLine_badEnable (h : 1 < param b 0x09) : setLine b s = badParameter 0x09 s := by
  unfold setLine
  rw [dif_pos line, if_pos h]

variable (enable : param b 0x09 ≤ 1)
include enable

theorem setLine_badProfile (h : 8 ≤ param b 0x0A) : setLine b s = badParameter 0x0A s := by
  unfold setLine
  rw [dif_pos line, if_neg (Nat.not_lt.2 enable), dif_neg (Nat.not_lt.2 h)]

theorem setLine_badClass (profile : param b 0x0A < 8) (h : classOfCode (param b 0x0B) = none) :
    setLine b s = badParameter 0x0B s := by
  unfold setLine
  rw [dif_pos line, if_neg (Nat.not_lt.2 enable), dif_pos profile, h]

end

theorem exec_setLine {b : OrderBody} {s : State} {c : CurrentOrder} (h : s.executing c) (code : b.code = 0x04) :
    exec (.setLine b) s = .next (epilogue (setLine b (bodyHeld b s))) :=
  congrArg _ (whenBody_executing (i := .setLine b) h (beq_iff_eq.2 code) _)

/-- R87: a SET_LINE whose parameters are all in range. -/
theorem setLine_applies {b : OrderBody} {s : State} {n : LineNo} {i : ProfileNo} {cls : ServiceClass}
    (line : param b 0x08 = n.val) (enable : param b 0x09 ≤ 1) (profile : param b 0x0A = i.val)
    (hc : classOfCode (param b 0x0B) = some cls) :
    setLine b s = chooseResult .ok {} (applySetting n { enabled := param b 0x09 == 1, profile := i, cls } s) := by
  have inLines : param b 0x08 < Config.lines := line ▸ n.isLt
  have inProfiles : param b 0x0A < Config.profiles := profile ▸ i.isLt
  obtain rfl : (⟨param b 0x08, inLines⟩ : LineNo) = n := Fin.ext line
  obtain rfl : (⟨param b 0x0A, inProfiles⟩ : ProfileNo) = i := Fin.ext profile
  unfold setLine
  rw [dif_pos inLines, if_neg (Nat.not_lt.2 enable), dif_pos inProfiles, hc]

/-! ### A teardown and the order in hand -/

/-- R130: a teardown ends no order that is not IN_PROGRESS. -/
theorem endSendTones_of_not_inProgress {n : LineNo} {cause : CloseCause} {s : State}
    (h : s.orders.state ≠ .inProgress) : endSendTones n cause s = s := by
  unfold endSendTones
  split
  · next state => exact absurd state h
  · rfl

/-- A teardown during an order that is not IN_PROGRESS leaves the order in hand. -/
theorem teardown_sameOrder (n : LineNo) (cause : CloseCause) {s : State} (h : s.orders.state ≠ .inProgress) :
    SameOrder s (teardown n cause s) := by
  have orders : (givenUp n s).orders = s.orders := by simp [givenUp]
  have ended := endSendTones_of_not_inProgress (n := n) (cause := cause) (s := givenUp n s) (by rw [orders]; exact h)
  have emptied : (emptiedLine n cause s).port = s.port := by
    rw [emptiedLine, ended]
    simp [givenUp]
  obtain ⟨closed, -⟩ := (closeDraft_records n cause (emptiedLine n cause s)).port
  obtain ⟨checked, -⟩ := (afterEvent_records n (tornDown n cause s)).port
  refine .of_orders ?_ (checked.trans (closed.trans (by rw [emptied])))
  simp [teardown_eq, tornDown, teardownSteps_eq, emptiedLine, ended, orders]

/-! ### The line acts on its setting (R87) -/

section
variable {n : LineNo} {s : State}

/-- R83, R87: a DISABLED line that is enabled enters IDLE. -/
theorem applyEnable_enables (h : (s.line n).state = .disabled) :
    applyEnable n true s =
      (s.modLine n (LineCtx.enterAfter .idle)).modClassifier n (Classifier.enterIdle s.slotPath.lineHw.present) := by
  unfold applyEnable
  rw [h]

/-- R87: a line already as asked is left alone. -/
theorem applyEnable_stays {enable : Bool} (h : (s.line n).state = .disabled ↔ enable = false) :
    applyEnable n enable s = s := by
  unfold applyEnable
  cases enable with
  | false => rw [h.2 rfl]
  | true =>
    have enabled : (s.line n).state ≠ .disabled := fun disabled => Bool.noConfusion (h.1 disabled)
    cases state : (s.line n).state with
    | disabled => exact absurd state enabled
    | _ => rfl

/-- R83, R87: a line that is disabled is torn down. -/
theorem applyEnable_disables (h : (s.line n).state ≠ .disabled) :
    applyEnable n false s =
      (teardown n .disabled s).modClassifier n fun c => { c with bound := none, change := false } := by
  unfold applyEnable
  cases state : (s.line n).state with
  | disabled => exact absurd state h
  | _ => rfl

end

theorem applyEnable_cases (n : LineNo) (enable : Bool) (s : State) :
    (enable = true ∧ (s.line n).state = .disabled) ∨ ((s.line n).state = .disabled ↔ enable = false) ∨
      (enable = false ∧ (s.line n).state ≠ .disabled) := by
  by_cases h : (s.line n).state = .disabled
  · cases enable with
    | false => exact .inr (.inl (iff_of_true h rfl))
    | true => exact .inl ⟨rfl, h⟩
  · cases enable with
    | false => exact .inr (.inr ⟨rfl, h⟩)
    | true => exact .inr (.inl (iff_of_false h nofun))

theorem applyEnable_otherLoops (n : LineNo) (enable : Bool) (s : State) :
    OtherLoopsKept n s (applyEnable n enable s) := by
  rcases applyEnable_cases n enable s with ⟨rfl, off⟩ | same | ⟨rfl, on⟩
  · rw [applyEnable_enables off]
    exact .of_modClassifier rfl rfl
  · rw [applyEnable_stays same]
    exact .of_blocks rfl rfl
  · rw [applyEnable_disables on]
    exact .of_modClassifier (f := fun c => { c with bound := none, change := false }) (by simp) (by simp)

theorem applyEnable_sameOrder (n : LineNo) (enable : Bool) {s : State} (h : s.orders.state ≠ .inProgress) :
    SameOrder s (applyEnable n enable s) := by
  rcases applyEnable_cases n enable s with ⟨rfl, off⟩ | same | ⟨rfl, on⟩
  · rw [applyEnable_enables off]
    exact .of_orders rfl rfl
  · rw [applyEnable_stays same]
    exact .of_orders rfl rfl
  · rw [applyEnable_disables on]
    exact (teardown_sameOrder n .disabled h).trans
      (.of_orders (State.modClassifier_orders _ _ _) (congrArg Port.windows (State.modClassifier_port _ _ _)))

/-- R12, R41, R42: the classifier of a line that enters IDLE. -/
theorem Classifier.enterIdle_kept (present : Bool) (c : Classifier) :
    (c.enterIdle present).waiting = true ∧ (c.enterIdle present).accepted = c.accepted ∧
      (present = false → (c.enterIdle present).pulse = .steadyOpen) := by
  cases present
  · exact ⟨rfl, rfl, fun _ => rfl⟩
  · exact ⟨rfl, rfl, nofun⟩

/-- R87: the setting of line `n` is written. -/
def settingWritten (n : LineNo) (x : LineSetting) (s : State) : State :=
  s.modSettings fun st => { st with lines := st.lines.set n x }

/-- With the order's body held and the setting written, the line stands as it stood. -/
theorem settingWritten_line (b : OrderBody) (n m : LineNo) (x : LineSetting) (s : State) :
    (settingWritten n x (bodyHeld b s)).line m = s.line m ∧
      (settingWritten n x (bodyHeld b s)).classifier m = s.classifier m ∧
      (settingWritten n x (bodyHeld b s)).slotPath = s.slotPath ∧
      (settingWritten n x (bodyHeld b s)).estimators = s.estimators := by
  simp [settingWritten, bodyHeld]

theorem applySetting_eq (n : LineNo) (x : LineSetting) (s : State) :
    applySetting n x s = applyEnable n x.enabled (settingWritten n x s) := rfl

/-- R87: an order that acts on a line's setting is not IN_PROGRESS, and goes on to its answer. -/
theorem applySetting_answered {s : State} {c : CurrentOrder} (current : s.orders.current = some c) (b : OrderBody)
    (n : LineNo) (x : LineSetting) :
    Answered s (chooseResult .ok {} (applySetting n x (bodyHeld b s))) .ok {} := by
  have written : SameOrder s (settingWritten n x (bodyHeld b s)) :=
    (SameOrder.bodyHeld b s).trans (.of_orders rfl rfl)
  have executing : (settingWritten n x (bodyHeld b s)).orders.state = .executing :=
    congrArg Orders.state (bodyHeld_orders current b)
  have enabled := applyEnable_sameOrder n x.enabled (s := settingWritten n x (bodyHeld b s))
    (by rw [executing]; exact nofun)
  exact (written.trans enabled).answered current _ _

theorem applySetting_settings (n : LineNo) (x : LineSetting) (s : State) :
    (applySetting n x s).settings = { s.settings with lines := s.settings.lines.set n x } := by
  rw [applySetting_eq]
  simp [settingWritten]

section
variable {n : LineNo} {s : State}

/-- R83, R87: what enabling a DISABLED line leaves of it. -/
theorem applyEnable_enables_line (h : (s.line n).state = .disabled) :
    (applyEnable n true s).line n = (s.line n).enterAfter .idle ∧
      (applyEnable n true s).classifier n = (s.classifier n).enterIdle s.slotPath.lineHw.present ∧
      (applyEnable n true s).pool = s.pool ∧ (applyEnable n true s).writer = s.writer := by
  rw [applyEnable_enables h, State.modClassifier_classifier, State.line_def, State.modClassifier_lines,
    ← State.line_def]
  exact ⟨State.modLine_line s _, rfl, rfl, rfl⟩

/-- R82, R83, R87: what disabling a line leaves of it. -/
theorem applyEnable_disables_line (h : (s.line n).state ≠ .disabled) :
    (∃ k, (applyEnable n false s).line n = ((s.line n).torn k).enterAfter .disabled) ∧
      isWaiting (applyEnable n false s) n = false ∧
      ∀ d, (s.line n).draft = .opened d → ClosedInto s (applyEnable n false s) n d .disabled := by
  have waits := teardown_isWaiting n .disabled s
  rw [applyEnable_disables h, isWaiting_congr (State.modClassifier_pool _ _ _), State.line_def,
    State.modClassifier_lines, ← State.line_def]
  exact ⟨teardown_context n .disabled s, waits,
    fun d hd => (teardown_closedInto .disabled hd).of_writer (State.modClassifier_writer _ _ _)⟩

end

/-- What a line's setting leaves of the rest of the part, and the setting itself. -/
theorem applySetting_kept (b : OrderBody) (n : LineNo) (x : LineSetting) (s : State) {u : State}
    (hu : OrderUnitOnly (applySetting n x (bodyHeld b s)) u) :
    u.control = s.control ∧ u.slotPath = s.slotPath ∧ u.estimators = s.estimators ∧ OtherLoopsKept n s u ∧
      u.settings.profiles = s.settings.profiles ∧ u.settings.tones = s.settings.tones ∧ u.setting n = x ∧
      ∀ m, m ≠ n → u.setting m = s.setting m := by
  have loops : OtherLoopsKept n s (applySetting n x (bodyHeld b s)) :=
    applyEnable_otherLoops n x.enabled (settingWritten n x (bodyHeld b s))
  have others := hu.otherLoops n
  obtain ⟨-, -, control, slotPath, -, estimators, -, settings, -⟩ := hu
  rw [applySetting_settings] at settings
  refine ⟨control.trans (by simp [bodyHeld]), slotPath.trans (by simp [bodyHeld]),
    estimators.trans (by simp [bodyHeld]), fun m hm => ?_, ?_, ?_, ?_, fun m hm => ?_⟩
  · obtain ⟨classifier, estimator⟩ := loops m hm
    obtain ⟨classifier', estimator'⟩ := others m hm
    exact ⟨classifier'.trans classifier, estimator'.trans estimator⟩
  · rw [settings]; rfl
  · rw [settings]; rfl
  · rw [State.setting_def, settings]
    exact Table.get_set_self _ _ _
  · rw [State.setting_def, settings]
    exact Table.get_set_ne _ _ hm.symm

/-! ### What SET_LINE brings about on its line -/

section
variable {b : OrderBody} {n : LineNo} {x : LineSetting} {s u : State}
  (only : OrderUnitOnly (applySetting n x (bodyHeld b s)) u)
include only

theorem applySetting_enables (on : x.enabled = true) (off : (s.line n).state = .disabled) :
    u.line n = (s.line n).enterAfter .idle ∧
      u.classifier n = (s.classifier n).enterIdle s.slotPath.lineHw.present ∧ u.pool = s.pool ∧
      u.writer = s.writer := by
  rw [applySetting_eq, on] at only
  obtain ⟨same, sameClassifier, clock, -⟩ := settingWritten_line b n n x s
  obtain ⟨line, classifier, pool, writer⟩ :=
    applyEnable_enables_line (n := n) (s := settingWritten n x (bodyHeld b s)) (by rw [same]; exact off)
  rw [same] at line
  rw [sameClassifier, clock] at classifier
  have line' := only.line n
  have classifier' := only.classifier n
  obtain ⟨-, -, -, -, -, -, -, -, -, pool', -, writer'⟩ := only
  exact ⟨line'.trans line, classifier'.trans classifier, pool'.trans pool, writer'.trans writer⟩

theorem applySetting_stays (same : (s.line n).state = .disabled ↔ x.enabled = false) :
    u.lines = s.lines ∧ u.classifiers = s.classifiers ∧ u.pool = s.pool ∧ u.writer = s.writer := by
  obtain ⟨line, -⟩ := settingWritten_line b n n x s
  rw [applySetting_eq, applyEnable_stays (by rw [line]; exact same)] at only
  obtain ⟨-, -, -, -, classifiers, -, lines, -, -, pool, -, writer⟩ := only
  exact ⟨lines.trans (by simp [settingWritten, bodyHeld]), classifiers.trans (by simp [settingWritten, bodyHeld]),
    pool.trans (by simp [settingWritten, bodyHeld]), writer.trans (by simp [settingWritten, bodyHeld])⟩

theorem applySetting_disables (off : x.enabled = false) (on : (s.line n).state ≠ .disabled) :
    (∃ k, u.line n = ((s.line n).torn k).enterAfter .disabled) ∧ isWaiting u n = false ∧
      ∀ d, (s.line n).draft = .opened d → ClosedInto s u n d .disabled := by
  rw [applySetting_eq, off] at only
  obtain ⟨same, -, clock, estimators⟩ := settingWritten_line b n n x s
  obtain ⟨⟨k, line⟩, waits, closed⟩ :=
    applyEnable_disables_line (n := n) (s := settingWritten n x (bodyHeld b s)) (by rw [same]; exact on)
  rw [same] at line closed
  exact ⟨⟨k, (only.line n).trans line⟩, (only.isWaiting n).trans waits,
    fun d hd => only.closedInto ((closed d hd).of_clock clock estimators)⟩

end

/-- Settles O53. -/
theorem Proofs.setLine : Obligations.SetLine := by
  intro b s c executing code
  have run := exec_setLine executing code
  obtain ⟨-, -, current, -⟩ := executing
  refine ⟨_, run, fun line => ?_, fun line enable => ?_, fun line enable profile => ?_,
    fun line enable profile cls => ?_, fun n i cls line enable profile hc => ?_⟩
  · rw [setLine_badLine line]
    exact bodyHeld_answers current b _ _
  · rw [setLine_badEnable line enable]
    exact bodyHeld_answers current b _ _
  · rw [setLine_badProfile line enable profile]
    exact bodyHeld_answers current b _ _
  · rw [setLine_badClass line enable profile cls]
    exact bodyHeld_answers current b _ _
  · have answered := applySetting_answered current b n { enabled := param b 0x09 == 1, profile := i, cls }
    have only := OrderUnitOnly.chooseResult .ok {}
      (applySetting n { enabled := param b 0x09 == 1, profile := i, cls } (bodyHeld b s))
    rw [← setLine_applies line enable profile hc] at answered only
    obtain ⟨control, slotPath, estimators, loops, profiles, tones, own, others⟩ := applySetting_kept b n _ s only
    refine ⟨answered, control, slotPath, estimators, loops, profiles, tones, own, others, ?_⟩
    refine ⟨fun on off => ?_, fun on enabled => ?_, fun off disabled => ?_, fun off enabled => ?_⟩
    · obtain ⟨state, classifier, pool, writer⟩ := applySetting_enables only (beq_iff_eq.2 on) off
      obtain ⟨waiting, accepted, pulse⟩ := (s.classifier n).enterIdle_kept s.slotPath.lineHw.present
      rw [state, classifier]
      exact ⟨rfl, rfl, rfl, waiting, accepted, pulse, rfl, pool, writer⟩
    · exact applySetting_stays only (iff_of_false enabled (by simp [on]))
    · exact applySetting_stays only (iff_of_true disabled (by simp [off]))
    · obtain ⟨⟨k, torn⟩, waits, closed⟩ := applySetting_disables only (by simp [off]) enabled
      rw [torn]
      exact ⟨rfl, rfl, rfl, rfl, rfl, rfl, waits, closed⟩

end Sys2Proof.Machine
end

section
/-! The loads begin (O54): LOAD_PROFILE, LOAD_TONES and LOAD_PLAN check their parameters and read the first record or
entry (R86, R102, R103, R138, R169). -/

namespace Sys2Proof.Machine

/-! ### The work an order begins -/

/-- R174: the order of slot `c.slot` begins its work, its body held. -/
def begun (b : OrderBody) (work : OrderWork) (s : State) : State :=
  onCurrent (fun c => { c with work }) (bodyHeld b s)

section
variable (b : OrderBody) (work : OrderWork) (s : State)

theorem begun_sameOrder : SameOrder s (begun b work s) :=
  (SameOrder.bodyHeld b s).trans (.onCurrent (f := fun c => { c with work }) (fun _ => rfl) _)

theorem begun_orderUnitOnly : OrderUnitOnly s (begun b work s) :=
  (OrderUnitOnly.bodyHeld b s).trans (.onCurrent _ _)

variable {s}

theorem begun_orders {c : CurrentOrder} (h : s.orders.current = some c) :
    (begun b work s).orders =
      { s.orders with state := .executing, current := some { c with body := some b, work } } := by
  simp only [begun, onCurrent, State.modOrders_orders, bodyHeld_orders h]
  rfl

end

theorem askOrder_waits (a : Access) (s : State) :
    (askOrder a s).orders = s.orders ∧ (askOrder a s).port.waitOrder = some a := ⟨rfl, rfl⟩

/-- R86, R138, R169: the first read of a load of the settings store. -/
theorem begun_reads {s : State} {c : CurrentOrder} (current : s.orders.current = some c) (b : OrderBody)
    (work : OrderWork) (settings : ∀ source b count, work ≠ .loadPlan source b count) (p : Purpose) (sa : Word)
    (len : Nat) :
    (orderAccess p sa len [] 0 (begun b work s)).plan = s.plan ∧
      (accessAllowed s.port.windows sa len false = true →
        OrderUnitOnly s (orderAccess p sa len [] 0 (begun b work s)) ∧
          (orderAccess p sa len [] 0 (begun b work s)).orders.state = .executing ∧
          (orderAccess p sa len [] 0 (begun b work s)).orders.current = some { c with body := some b, work } ∧
          (orderAccess p sa len [] 0 (begun b work s)).port.waitOrder = some (readAccess s p sa len)) ∧
      (accessAllowed s.port.windows sa len false = false →
        Raised .windowFault s.control (orderAccess p sa len [] 0 (begun b work s)).control ∧
          Answered s (orderAccess p sa len [] 0 (begun b work s)) .windowFault { address := sa.toNat, kind := 0 }) := by
  have same := begun_sameOrder b work s
  have only := begun_orderUnitOnly b work s
  have orders := begun_orders b work current
  have inHand : (begun b work s).orders.current = some { c with body := some b, work } := by rw [orders]
  refine ⟨?_, fun allowed => ?_, fun refused => ?_⟩
  · rw [orderAccess_plan inHand settings]
    simp [begun, bodyHeld]
  · obtain ⟨asked, waits⟩ := askOrder_waits (readAccess s p sa len) (begun b work s)
    rw [same.read_allowed p 0 allowed, asked, waits, orders]
    exact ⟨only.trans (.askOrder _ _), rfl, rfl, rfl⟩
  · obtain ⟨-, -, control, -⟩ := only
    exact same.refused_answered p 0 current control refused

/-! ### LOAD_PROFILE and LOAD_TONES -/

section
variable {b : OrderBody} {s : State} {c : CurrentOrder}

theorem exec_loadProfile (h : s.executing c) (code : b.code = 0x05) :
    exec (.loadProfile b) s = .next (epilogue (loadProfile b (bodyHeld b s))) :=
  congrArg _ (whenBody_executing (i := .loadProfile b) h (beq_iff_eq.2 code) _)

theorem exec_loadTones (h : s.executing c) (code : b.code = 0x06) :
    exec (.loadTones b) s = .next (epilogue (loadTones b (bodyHeld b s))) :=
  congrArg _ (whenBody_executing (i := .loadTones b) h (beq_iff_eq.2 code) _)

theorem exec_loadPlan (h : s.executing c) (code : b.code = 0x07) :
    exec (.loadPlan b) s = .next (epilogue (loadPlan b (bodyHeld b s))) :=
  congrArg _ (whenBody_executing (i := .loadPlan b) h (beq_iff_eq.2 code) _)

theorem loadProfile_badIndex (h : 8 ≤ param b 0x08) : loadProfile b s = badParameter 0x08 s := by
  unfold loadProfile
  rw [dif_neg (Nat.not_lt.2 h)]

theorem loadProfile_reads {i : ProfileNo} (h : param b 0x08 = i.val) :
    loadProfile b (bodyHeld b s)
      = orderAccess .profileRead (paramAddress b 0x0C) 64 [] 0 (begun b (.loadProfile i) s) := by
  have inProfiles : param b 0x08 < Config.profiles := h ▸ i.isLt
  obtain rfl : (⟨param b 0x08, inProfiles⟩ : ProfileNo) = i := Fin.ext h
  unfold loadProfile
  rw [dif_pos inProfiles]
  rfl

/-- The address of entry 0 is the source. -/
theorem firstEntry (source : Word) (size : Nat) : source + BitVec.ofNat 32 (size * 0) = source := by simp

theorem loadTones_reads :
    loadTones b (bodyHeld b s)
      = orderAccess .toneRead (paramAddress b 0x0C) 8 [] 0 (begun b (.loadTones (paramAddress b 0x0C) []) s) := by
  rw [loadTones, readToneEntry, firstEntry]
  rfl

end

/-! ### LOAD_PLAN -/

/-- R91, R102: of the two banks, the one that is not active is the target. -/
theorem otherBank_eq {s : State} {target : BankNo} (h : target ≠ s.plan.active) : otherBank s = target := by
  unfold otherBank
  revert h
  generalize s.plan.active = a
  revert a target
  decide

/-- Every bank but `b` and the active pointer are kept. -/
structure OtherBanksKept (b : BankNo) (s t : State) : Prop where
  active : t.plan.active = s.plan.active
  banks : ∀ k, k ≠ b → t.bank k = s.bank k

namespace OtherBanksKept

variable {b : BankNo} {s t u : State}

theorem of_plan (h : t.plan = s.plan) : OtherBanksKept b s t :=
  ⟨by rw [h], fun k _ => by rw [State.bank_def, h, ← State.bank_def]⟩

theorem trans (h : OtherBanksKept b s t) (k : OtherBanksKept b t u) : OtherBanksKept b s u :=
  ⟨k.active.trans h.active, fun j hj => (k.banks j hj).trans (h.banks j hj)⟩

theorem modBank (f : Bank → Bank) (s : State) : OtherBanksKept b s (s.modBank b f) :=
  ⟨rfl, fun _ hk => Table.get_set_ne _ _ hk.symm⟩

end OtherBanksKept

theorem State.modBank_bank (s : State) (b : BankNo) (f : Bank → Bank) : (s.modBank b f).bank b = f (s.bank b) :=
  Table.get_set_self _ _ _

/-- R105: a LOAD_PLAN that ends short of STAGED leaves its target EMPTY. -/
def Bank.emptied (x : Bank) : Bank := { x with state := .empty, entries := [] }

/-- R102: the target of a LOAD_PLAN that begins is LOADING and empty. -/
def Bank.loading (x : Bank) : Bank := { x with state := .loading, entries := [] }

theorem emptyCurrentLoad_of_loadPlan {s : State} {c : CurrentOrder} {source : Word} {b : BankNo} {count : Nat}
    (h : s.orders.current = some c) (work : c.work = .loadPlan source b count) :
    emptyCurrentLoad s = s.modBank b Bank.emptied := by
  unfold emptyCurrentLoad
  rw [h]
  dsimp only
  rw [work]
  rfl

/-- R169: of the plan a read that is asked for changes nothing, and one that is refused empties the target. -/
theorem loadPlan_access {s : State} {c : CurrentOrder} {source : Word} {b : BankNo} {count : Nat}
    (h : s.orders.current = some c) (work : c.work = .loadPlan source b count) (p : Purpose) (sa : Word) (len i : Nat) :
    (accessAllowed s.port.windows sa len false = true → (orderAccess p sa len [] i s).plan = s.plan) ∧
      (accessAllowed s.port.windows sa len false = false →
        (orderAccess p sa len [] i s).plan = (s.modBank b Bank.emptied).plan) := by
  have same : SameOrder s s := .of_orders rfl rfl
  refine ⟨fun allowed => ?_, fun refused => ?_⟩
  · rw [same.read_allowed p i allowed]
    rfl
  · have chosen : ∀ (d : Details) (v : State), (chooseResult .windowFault d v).plan = v.plan := by simp
    have raised : ∀ v : State, (raise .windowFault v).plan = v.plan := by simp
    rw [same.read_refused p i refused, chosen, raised, emptyCurrentLoad_of_loadPlan h work]

theorem loadPlan_access_otherBanks {s : State} {c : CurrentOrder} {source : Word} {b : BankNo} {count : Nat}
    (h : s.orders.current = some c) (work : c.work = .loadPlan source b count) (p : Purpose) (sa : Word) (len i : Nat) :
    OtherBanksKept b s (orderAccess p sa len [] i s) := by
  obtain ⟨asked, refused⟩ := loadPlan_access h work p sa len i
  cases allowed : accessAllowed s.port.windows sa len false with
  | true => exact .of_plan (asked allowed)
  | false => exact (OtherBanksKept.modBank Bank.emptied s).trans (.of_plan (refused allowed))

section
variable {b : OrderBody} {s : State} {target : BankNo} (other : target ≠ s.plan.active)
include other

theorem loadPlan_badCount (h : paramHalf b 0x08 = 0 ∨ 128 < paramHalf b 0x08) :
    loadPlan b (bodyHeld b s)
      = chooseResult .badParameter { field := 0x08, bank := target.val } (bodyHeld b s) := by
  have count : inRange 1 Config.planEntries (paramHalf b 0x08) = false := by
    simp only [inRange, Config.planEntries, Bool.and_eq_false_iff, decide_eq_false_iff_not]
    omega
  have bank : otherBank (bodyHeld b s) = target := otherBank_eq other
  unfold loadPlan
  simp only [count, bank, Bool.false_eq_true, if_false]

variable (low : 1 ≤ paramHalf b 0x08) (high : paramHalf b 0x08 ≤ 128)
include low high

theorem loadPlan_inUse (h : 0 < (s.bank target).refCount) :
    loadPlan b (bodyHeld b s)
      = chooseResult .planInUse { bank := target.val, refCount := (s.bank target).refCount } (bodyHeld b s) := by
  have count : inRange 1 Config.planEntries (paramHalf b 0x08) = true := by simp [inRange, low, high]
  have bank : otherBank (bodyHeld b s) = target := otherBank_eq other
  have same : (bodyHeld b s).bank target = s.bank target := rfl
  unfold loadPlan
  simp only [count, bank, same, h, if_true]

/-- R102, R103: a LOAD_PLAN that begins reads its first entry. -/
theorem loadPlan_begins (h : (s.bank target).refCount = 0) :
    loadPlan b (bodyHeld b s) = orderAccess .planRead (paramAddress b 0x0C) 32 [] 0
      ((begun b (.loadPlan (paramAddress b 0x0C) target (paramHalf b 0x08)) s).modBank target Bank.loading) := by
  have count : inRange 1 Config.planEntries (paramHalf b 0x08) = true := by simp [inRange, low, high]
  have bank : otherBank (bodyHeld b s) = target := otherBank_eq other
  have same : (bodyHeld b s).bank target = s.bank target := rfl
  unfold loadPlan
  simp only [count, bank, same, h, if_true, Nat.lt_irrefl, if_false, readPlanEntry, firstEntry]
  rfl

end

/-- R102, R103: LOAD_PLAN reads the first entry of a target that is LOADING. -/
theorem loadPlan_first {s : State} {c : CurrentOrder} (current : s.orders.current = some c) (b : OrderBody)
    (source : Word) (target : BankNo) (count : Nat) {t : State}
    (ht : t = (begun b (.loadPlan source target count) s).modBank target Bank.loading) :
    SameOrder s t ∧ t.orders.current = some { c with body := some b, work := .loadPlan source target count } ∧
      t.control = s.control ∧ OtherBanksKept target s t ∧ t.bank target = (s.bank target).loading := by
  have orders := begun_orders b (.loadPlan source target count) current
  obtain ⟨-, -, control, -, -, -, -, -, plan, -⟩ := begun_orderUnitOnly b (.loadPlan source target count) s
  subst ht
  refine ⟨(begun_sameOrder b _ s).trans (.of_orders rfl rfl), ?_, control,
    (OtherBanksKept.of_plan plan).trans (.modBank _ _), ?_⟩
  · exact congrArg Orders.current orders
  · rw [State.modBank_bank, State.bank_def, plan, ← State.bank_def]

theorem loadPlan_otherBanks {s : State} {c : CurrentOrder} (current : s.orders.current = some c) {target : BankNo}
    (other : target ≠ s.plan.active) (b : OrderBody) : OtherBanksKept target s (loadPlan b (bodyHeld b s)) := by
  have answers : ∀ status details, OtherBanksKept target s (chooseResult status details (bodyHeld b s)) :=
    fun status details => .of_plan (by simp [bodyHeld])
  by_cases bad : paramHalf b 0x08 = 0 ∨ 128 < paramHalf b 0x08
  · rw [loadPlan_badCount other bad]
    exact answers _ _
  · have low : 1 ≤ paramHalf b 0x08 := by omega
    have high : paramHalf b 0x08 ≤ 128 := by omega
    by_cases used : 0 < (s.bank target).refCount
    · rw [loadPlan_inUse other low high used]
      exact answers _ _
    · obtain ⟨-, inHand, -, banks, -⟩ :=
        loadPlan_first current b (paramAddress b 0x0C) target (paramHalf b 0x08) rfl
      rw [loadPlan_begins other low high (by omega)]
      exact banks.trans (loadPlan_access_otherBanks inHand rfl _ _ _ _)

/-- Settles O54. -/
theorem loadsBegin : Obligations.LoadsBegin := by
  refine ⟨fun b s c executing code => ?_, fun b s c executing code => ?_,
    fun b s c target executing code other => ?_⟩
  · have run := exec_loadProfile executing code
    obtain ⟨-, -, current, -⟩ := executing
    refine ⟨_, run, by simp [bodyHeld], by simp [bodyHeld], ?_, fun bad => ?_, fun i index allowed => ?_,
      fun index refused => ?_⟩
    · by_cases index : param b 0x08 < 8
      · rw [loadProfile_reads (i := ⟨_, index⟩) rfl]
        obtain ⟨plan, -⟩ := begun_reads current b (.loadProfile ⟨_, index⟩) (fun _ _ _ => nofun) .profileRead
          (paramAddress b 0x0C) 64
        exact plan
      · rw [loadProfile_badIndex (Nat.not_lt.1 index)]
        simp [badParameter, bodyHeld]
    · rw [loadProfile_badIndex bad]
      exact bodyHeld_answers current b _ _
    · obtain ⟨-, reads, -⟩ := begun_reads current b (.loadProfile i) (fun _ _ _ => nofun) .profileRead
        (paramAddress b 0x0C) 64
      rw [loadProfile_reads index]
      exact reads allowed
    · rw [loadProfile_reads (i := ⟨_, index⟩) rfl]
      obtain ⟨-, -, faults⟩ :=
        begun_reads current b (.loadProfile ⟨_, index⟩) (fun _ _ _ => nofun) .profileRead (paramAddress b 0x0C) 64
      exact faults refused
  · have run := exec_loadTones executing code
    obtain ⟨-, -, current, -⟩ := executing
    obtain ⟨plan, reads, faults⟩ := begun_reads current b (.loadTones (paramAddress b 0x0C) []) (fun _ _ _ => nofun)
      .toneRead (paramAddress b 0x0C) 8
    rw [← loadTones_reads] at plan reads faults
    exact ⟨_, run, by simp [bodyHeld], by simp [bodyHeld], plan, reads, faults⟩
  · have run := exec_loadPlan executing code
    obtain ⟨-, -, current, -⟩ := executing
    obtain ⟨active, banks⟩ := loadPlan_otherBanks current other b
    refine ⟨_, run, by simp [bodyHeld], by simp [bodyHeld], active, banks _ other.symm, fun bad => ?_,
      fun low high used => ?_, fun low high free allowed => ?_, fun low high free refused => ?_⟩
    · rw [loadPlan_badCount other bad]
      exact bodyHeld_answers current b _ _
    · rw [loadPlan_inUse other low high used]
      exact bodyHeld_answers current b _ _
    · obtain ⟨same, -, control, -, loading⟩ :=
        loadPlan_first current b (paramAddress b 0x0C) target (paramHalf b 0x08) rfl
      rw [loadPlan_begins other low high free, same.read_allowed .planRead 0 allowed]
      refine ⟨control, loading.trans ?_, congrArg Orders.current (begun_orders b _ current), rfl⟩
      rw [Bank.loading, free]
    · obtain ⟨same, inHand, control, -, loading⟩ :=
        loadPlan_first current b (paramAddress b 0x0C) target (paramHalf b 0x08) rfl
      obtain ⟨-, emptied⟩ := loadPlan_access inHand rfl .planRead (paramAddress b 0x0C) 32 0
      rw [loadPlan_begins other low high free]
      refine ⟨?_, same.refused_answered .planRead 0 current control refused⟩
      rw [State.bank_def, emptied (same.windows ▸ refused), ← State.bank_def, State.modBank_bank, loading,
        Bank.emptied, Bank.loading, free]

end Sys2Proof.Machine
end

section
/-! The reads of a load complete (O55): a profile record, a tone entry and a plan entry (R86, R103 to R105, R138, R139,
R169). -/

namespace Sys2Proof.Machine

/-! ### A profile record (R86) -/

section
variable {r : ProfileBytes} {s : State} {c : CurrentOrder} {i : ProfileNo}

theorem exec_profileReadDone (bus : s.onBus .profileRead = true) (working : s.working c) :
    exec (.profileReadDone r) s = .next (epilogue (profileRead r (freeBus s))) :=
  congrArg _ (whenDone_working bus working _)

theorem profileRead_eq (current : s.orders.current = some c) (work : c.work = .loadProfile i) :
    profileRead r s = installProfile i r.toList s := by
  obtain ⟨slot, body, work', abort, result, progressed⟩ := c
  cases work
  unfold profileRead
  rw [current]

end

section
variable {i : ProfileNo} {r : List Byte} {s : State}

theorem installProfile_fails {field : Nat} (h : firstFailure (profileChecks r) = some field) :
    installProfile i r s = chooseResult .badParameter { field } s := by
  unfold installProfile
  rw [h]
  rfl

theorem installProfile_installs (h : firstFailure (profileChecks r) = none) :
    installProfile i r s
      = chooseResult .ok {} (s.modSettings fun st => { st with profiles := st.profiles.set i (profileOf r) }) := by
  unfold installProfile
  rw [h]

end

/-! ### A tone entry (R138, R139) -/

/-- The order in hand goes on with its work changed. -/
def goesOn (work : OrderWork) (s : State) : State := onCurrent (fun c => { c with work }) s

section
variable (work : OrderWork) {s : State}

theorem goesOn_sameOrder (s : State) : SameOrder s (goesOn work (freeBus s)) :=
  (SameOrder.freeBus s).trans (.onCurrent (f := fun c => { c with work }) (fun _ => rfl) _)

theorem goesOn_orderUnitOnly (s : State) : OrderUnitOnly s (goesOn work (freeBus s)) :=
  (OrderUnitOnly.freeBus s).trans (.onCurrent _ _)

theorem goesOn_current {c : CurrentOrder} (current : s.orders.current = some c) :
    (goesOn work (freeBus s)).orders.current = some { c with work } := by
  have free : (freeBus s).orders.current = some c := current
  simp only [goesOn, onCurrent, State.modOrders_orders, free]
  rfl

end

section
variable {r : ToneBytes} {s : State} {c : CurrentOrder} {source : Word} {passed : List ToneFields}

theorem exec_toneEntryReadDone (bus : s.onBus .toneRead = true) (working : s.working c) :
    exec (.toneEntryReadDone r) s = .next (epilogue (toneRead r (freeBus s))) :=
  congrArg _ (whenDone_working bus working _)

variable (current : s.orders.current = some c) (work : c.work = .loadTones source passed)
include current work

theorem toneRead_fails {field : Nat} (h : firstFailure (toneChecks r.toList) = some field) :
    toneRead r s = chooseResult .badParameter { field, index := passed.length } s := by
  obtain ⟨slot, body, work', abort, result, progressed⟩ := c
  cases work
  unfold toneRead
  rw [current]
  dsimp only
  rw [h]

theorem toneRead_passes (h : firstFailure (toneChecks r.toList) = none) :
    toneRead r s = tonePassed source (passed ++ [toneFields r.toList]) s := by
  obtain ⟨slot, body, work', abort, result, progressed⟩ := c
  cases work
  unfold toneRead
  rw [current]
  dsimp only
  rw [h]

/-- R138: an entry that passed, with more to come, is kept and the next is read. -/
theorem toneRead_next (h : firstFailure (toneChecks r.toList) = none) (more : passed.length < 15) :
    toneRead r s = orderAccess .toneRead (source + BitVec.ofNat 32 (8 * (passed.length + 1))) 8 []
      (passed.length + 1) (goesOn (.loadTones source (passed ++ [toneFields r.toList])) s) := by
  have length : (passed ++ [toneFields r.toList]).length = passed.length + 1 := by simp
  rw [toneRead_passes current work h, tonePassed, length, if_pos (by omega)]
  rfl

/-- R139: the last entry installs the table. -/
theorem toneRead_installs (h : firstFailure (toneChecks r.toList) = none) (last : 15 ≤ passed.length) :
    toneRead r s = chooseResult .ok {}
      (s.modSettings fun st => { st with tones := toneTable (passed ++ [toneFields r.toList]) }) := by
  have length : (passed ++ [toneFields r.toList]).length = passed.length + 1 := by simp
  rw [toneRead_passes current work h, tonePassed, length, if_neg (by omega)]

end

theorem toneTable_get {passed : List ToneFields} {j : Fin 16} {f : ToneFields} (h : passed[j.val]? = some f) :
    (toneTable passed).get j = toneEntry f.lowHz f.highHz f.lowAmp f.highAmp := by
  rw [toneTable, Table.get_ofFn, List.getD_eq_getElem?_getD, h]
  rfl

/-- R138, R139: what every read of a tone entry leaves of the plan and the store. -/
theorem toneRead_kept {r : ToneBytes} {s : State} {c : CurrentOrder} {source : Word} {passed : List ToneFields}
    (current : s.orders.current = some c) (work : c.work = .loadTones source passed) :
    (toneRead r (freeBus s)).plan = s.plan ∧ (toneRead r (freeBus s)).settings.profiles = s.settings.profiles ∧
      (toneRead r (freeBus s)).settings.lines = s.settings.lines := by
  have free : (freeBus s).orders.current = some c := current
  cases h : firstFailure (toneChecks r.toList) with
  | some field =>
    rw [toneRead_fails free work h]
    simp
  | none =>
    by_cases more : passed.length < 15
    · have inHand := goesOn_current (.loadTones source (passed ++ [toneFields r.toList])) current
      rw [toneRead_next free work h more, orderAccess_plan inHand fun _ _ _ => nofun]
      simp [goesOn]
    · rw [toneRead_installs free work h (by omega)]
      simp

/-! ### A plan entry (R103 to R105) -/

section
variable {r : PlanBytes} {s : State} {c : CurrentOrder} {source : Word} {target : BankNo} {count : Nat}

theorem exec_planEntryReadDone (bus : s.onBus .planRead = true) (working : s.working c) :
    exec (.planEntryReadDone r) s = .next (epilogue (planRead r (freeBus s))) :=
  congrArg _ (whenDone_working bus working _)

theorem planRead_eq (current : s.orders.current = some c) (work : c.work = .loadPlan source target count) :
    planRead r s = takePlanEntry source target count r.toList s := by
  obtain ⟨slot, body, work', abort, result, progressed⟩ := c
  cases work
  unfold planRead
  rw [current]

end

/-- R103: an entry that passed is written. -/
def Bank.write (e : PlanEntry) (x : Bank) : Bank := { x with entries := x.entries ++ [e] }

section
variable {s : State} {c : CurrentOrder} {source : Word} {target : BankNo} {count : Nat} {r : List Byte}

theorem takePlanEntry_fails (current : s.orders.current = some c) (work : c.work = .loadPlan source target count)
    {field : Nat} (h : firstFailure (planChecks r (s.bank target).entries) = some field) :
    takePlanEntry source target count r s
      = chooseResult .badParameter { field, bank := target.val, index := (s.bank target).entries.length }
          (s.modBank target Bank.emptied) := by
  unfold takePlanEntry
  dsimp only
  rw [h, emptyCurrentLoad_of_loadPlan current work]

variable (h : firstFailure (planChecks r (s.bank target).entries) = none)
include h

theorem takePlanEntry_next (more : (s.bank target).entries.length + 1 < count) :
    takePlanEntry source target count r s
      = orderAccess .planRead (source + BitVec.ofNat 32 (32 * ((s.bank target).entries.length + 1))) 32 []
          ((s.bank target).entries.length + 1) (s.modBank target (Bank.write (planEntryOf r))) := by
  unfold takePlanEntry
  dsimp only
  rw [h]
  exact if_pos more

theorem takePlanEntry_stages (last : count ≤ (s.bank target).entries.length + 1) :
    takePlanEntry source target count r s
      = chooseResult .ok { bank := target.val, index := count }
          ((s.modBank target (Bank.write (planEntryOf r))).modBank target fun x => { x with state := .staged }) := by
  unfold takePlanEntry
  dsimp only
  rw [h]
  exact if_neg (Nat.not_lt.2 last)

end

/-- R103 to R105: what every read of a plan entry leaves of the other bank. -/
theorem planRead_otherBanks {r : PlanBytes} {s : State} {c : CurrentOrder} {source : Word} {target : BankNo}
    {count : Nat} (current : s.orders.current = some c) (work : c.work = .loadPlan source target count) :
    OtherBanksKept target s (planRead r (freeBus s)) := by
  have free : (freeBus s).orders.current = some c := current
  have kept : OtherBanksKept target s (freeBus s) := .of_plan rfl
  have answers : ∀ status details t, OtherBanksKept target s t →
      OtherBanksKept target s (chooseResult status details t) := fun status details t h => h.trans (.of_plan (by simp))
  rw [planRead_eq free work]
  cases h : firstFailure (planChecks r.toList ((freeBus s).bank target).entries) with
  | some field =>
    rw [takePlanEntry_fails free work h]
    exact answers _ _ _ (kept.trans (.modBank _ _))
  | none =>
    by_cases more : ((freeBus s).bank target).entries.length + 1 < count
    · rw [takePlanEntry_next h more]
      have next := loadPlan_access_otherBanks (s := (freeBus s).modBank target (Bank.write (planEntryOf r.toList)))
        free work .planRead (source + BitVec.ofNat 32 (32 * (((freeBus s).bank target).entries.length + 1))) 32
        (((freeBus s).bank target).entries.length + 1)
      exact (kept.trans (.modBank _ _)).trans next
    · rw [takePlanEntry_stages h (Nat.not_lt.1 more)]
      exact answers _ _ _ ((kept.trans (.modBank _ _)).trans (.modBank _ _))

/-- Settles O55. -/
theorem tableReadsDone : Obligations.TableReadsDone := by
  refine ⟨fun r s c i bus working work => ?_, fun r s c source passed bus working work => ?_,
    fun r s c source target count bus working work => ?_⟩
  · have run := exec_profileReadDone (r := r) bus working
    obtain ⟨current, -⟩ := working
    have same := SameOrder.freeBus s
    rw [profileRead_eq (s := freeBus s) current work] at run
    refine ⟨_, run, by simp, by simp, by simp, ?_⟩
    cases h : firstFailure (profileChecks r.toList) with
    | some field =>
      rw [installProfile_fails h]
      refine ⟨by simp, by simp, fun _ failed => ⟨by simp, ?_⟩, nofun⟩
      cases failed
      exact same.answered current _ _
    | none =>
      rw [installProfile_installs h]
      have installed : SameOrder s ((freeBus s).modSettings fun st =>
          { st with profiles := st.profiles.set i (profileOf r.toList) }) := same.trans (.of_orders rfl rfl)
      refine ⟨by simp, by simp, nofun, fun _ => ⟨installed.answered current _ _, by simp, profileOf_legal h,
        fun j hj => ?_⟩⟩
      simp [Table.get_set_ne _ _ hj.symm]
  · have run := exec_toneEntryReadDone (r := r) bus working
    obtain ⟨current, -⟩ := working
    have free : (freeBus s).orders.current = some c := current
    obtain ⟨plan, profiles, lines⟩ := toneRead_kept (r := r) current work
    refine ⟨_, run, by simp, plan, profiles, lines, fun field fails => ?_, fun passes more allowed => ?_,
      fun passes more refused => ?_, fun passes last => ?_⟩
    · rw [toneRead_fails free work fails]
      exact ⟨by simp, by simp, (SameOrder.freeBus s).answered current _ _⟩
    · have same := goesOn_sameOrder (.loadTones source (passed ++ [toneFields r.toList])) s
      rw [toneRead_next free work passes more, same.read_allowed .toneRead _ allowed]
      exact ⟨(goesOn_orderUnitOnly _ s).trans (.askOrder _ _), goesOn_current _ current, rfl⟩
    · have same := goesOn_sameOrder (.loadTones source (passed ++ [toneFields r.toList])) s
      obtain ⟨raised, answered⟩ :=
        same.refused_answered .toneRead (passed.length + 1) current (by simp [goesOn]) refused
      rw [toneRead_next free work passes more]
      exact ⟨raised, by simp [goesOn], answered⟩
    · rw [toneRead_installs free work passes last.ge]
      have installed : SameOrder s ((freeBus s).modSettings fun st =>
          { st with tones := toneTable (passed ++ [toneFields r.toList]) }) :=
        (SameOrder.freeBus s).trans (.of_orders rfl rfl)
      refine ⟨installed.answered current _ _, fun j f hf => ?_⟩
      rw [← toneTable_get hf]
      simp
  · have run := exec_planEntryReadDone (r := r) bus working
    obtain ⟨current, -⟩ := working
    have free : (freeBus s).orders.current = some c := current
    have same := SameOrder.freeBus s
    obtain ⟨active, banks⟩ := planRead_otherBanks (r := r) current work
    have bank : (freeBus s).bank target = s.bank target := rfl
    refine ⟨_, run, by simp, by simp, active, banks, ?_⟩
    rw [planRead_eq free work]
    have written : SameOrder s ((freeBus s).modBank target (Bank.write (planEntryOf r.toList))) :=
      same.trans (.of_orders rfl rfl)
    refine ⟨fun field fails => ?_, fun passes more allowed => ?_, fun passes more refused => ?_,
      fun passes last => ?_⟩
    · have emptied : SameOrder s ((freeBus s).modBank target Bank.emptied) := same.trans (.of_orders rfl rfl)
      rw [takePlanEntry_fails free work fails]
      exact ⟨by simp [Bank.emptied], by simp [Bank.emptied], by simp, emptied.answered current _ _⟩
    · rw [takePlanEntry_next (s := freeBus s) passes more, bank, written.read_allowed .planRead _ allowed]
      exact ⟨State.modBank_bank _ _ _, rfl, rfl, rfl⟩
    · obtain ⟨-, emptied⟩ := loadPlan_access
        (s := (freeBus s).modBank target (Bank.write (planEntryOf r.toList))) free work .planRead
        (source + BitVec.ofNat 32 (32 * ((s.bank target).entries.length + 1))) 32 ((s.bank target).entries.length + 1)
      obtain ⟨raised, answered⟩ :=
        written.refused_answered .planRead ((s.bank target).entries.length + 1) current rfl refused
      have plan := emptied refused
      rw [takePlanEntry_next (s := freeBus s) passes more, bank, State.bank_def, plan, ← State.bank_def,
        State.modBank_bank]
      exact ⟨rfl, rfl, raised, answered⟩
    · have staged : SameOrder s (((freeBus s).modBank target (Bank.write (planEntryOf r.toList))).modBank target
          fun x => { x with state := .staged }) := written.trans (.of_orders rfl rfl)
      rw [takePlanEntry_stages (s := freeBus s) passes last]
      exact ⟨by simp, by simp [Bank.write], by simp, staged.answered current _ _⟩

end Sys2Proof.Machine
end

section
/-! The matcher and what it decides: candidates, the selected entry and the decision after each tone symbol (O14), the
decision at the complete expiry (O15), and the symbols a decision sends (O17). -/

namespace Sys2Proof.Machine

/-! ### Candidates (R94) -/

/-- Every element of a zip satisfies `p` when the two lists do so at each place they share. -/
theorem zip_all_iff {α β : Type} {p : α × β → Bool} {xs : List α} {ys : List β} :
    (xs.zip ys).all p = true ↔
      ∀ (i : Nat) (x : α) (y : β), xs[i]? = some x → ys[i]? = some y → p (x, y) = true := by
  rw [List.all_eq_true]
  constructor
  · intro h i x y hx hy
    exact h _ (List.mem_of_getElem? (List.getElem?_zip_eq_some.2 ⟨hx, hy⟩))
  · intro h z hz
    obtain ⟨i, hi⟩ := List.mem_iff_getElem?.1 hz
    obtain ⟨hx, hy⟩ := List.getElem?_zip_eq_some.1 hi
    exact h i z.1 z.2 hx hy

section
variable {e : PlanEntry} {number : List Tone}

theorem PlanEntry.candidate_iff : e.candidate number = true ↔ number.length ≤ e.maxLen ∧
    ∀ (i : Nat) (x : PatternSymbol) (t : Tone),
      e.pattern[i]? = some x → number[i]? = some t → x.matchesTone t = true := by
  rw [candidate, Bool.and_eq_true, decide_eq_true_iff, agrees, zip_all_iff]

/-- An entry that is no candidate is none for a longer number. -/
theorem PlanEntry.candidate_of_append {more : List Tone} (h : e.candidate (number ++ more) = true) :
    e.candidate number = true := by
  obtain ⟨short, agrees⟩ := candidate_iff.1 h
  rw [List.length_append] at short
  refine candidate_iff.2 ⟨by omega, fun i x t hx ht => agrees i x t hx ?_⟩
  rw [List.getElem?_append_left (List.getElem?_eq_some_iff.1 ht).1]
  exact ht

theorem PlanEntry.boundFor_iff :
    e.boundFor number = true ↔ e.candidate number = true ∧ e.pattern.length ≤ number.length := by
  rw [boundFor, Bool.and_eq_true, decide_eq_true_iff]

theorem PlanEntry.openFor_iff :
    e.openFor number = true ↔ e.candidate number = true ∧ number.length < e.pattern.length := by
  rw [openFor, Bool.and_eq_true, decide_eq_true_iff]

end

/-! ### The selected entry (R94) -/

/-- Entry `e` stands before entry `f`: its pattern is longer, or as long and its index not higher. -/
def PlanEntry.preferred (i : Nat) (e : PlanEntry) (j : Nat) (f : PlanEntry) : Prop :=
  f.pattern.length < e.pattern.length ∨ (f.pattern.length = e.pattern.length ∧ i ≤ j)

/-- Entry `i`, `e`, is bound for the number and stands before every other one that is. -/
structure Selects (entries : List PlanEntry) (number : List Tone) (i : Nat) (e : PlanEntry) : Prop where
  entry : entries[i]? = some e
  bound : e.boundFor number = true
  best : ∀ (j : Nat) (f : PlanEntry), entries[j]? = some f → f.boundFor number = true → e.preferred i j f

/-- Of two entries selected, each stands before the other. -/
theorem Selects.unique {entries : List PlanEntry} {number : List Tone} {i j : Nat} {e f : PlanEntry}
    (h : Selects entries number i e) (k : Selects entries number j f) : i = j ∧ e = f := by
  have before := h.best j f k.entry k.bound
  have after := k.best i e h.entry h.bound
  unfold PlanEntry.preferred at before after
  obtain rfl : i = j := by omega
  exact ⟨rfl, Option.some.inj (h.entry.symm.trans k.entry)⟩

section
variable {e : PlanEntry} {es : List PlanEntry} {number : List Tone}

theorem Selects.head (he : e.boundFor number = true)
    (longest : ∀ f ∈ es, f.boundFor number = true → f.pattern.length ≤ e.pattern.length) :
    Selects (e :: es) number 0 e := by
  refine ⟨rfl, he, fun j f hf bound => ?_⟩
  cases j with
  | zero => exact .inr ⟨congrArg _ (congrArg _ (Option.some.inj hf).symm), le_rfl⟩
  | succ j =>
    have shorter := longest f (List.mem_of_getElem? hf) bound
    unfold PlanEntry.preferred
    omega

theorem Selects.tail {i : Nat} {f : PlanEntry} (h : Selects es number i f)
    (shorter : e.boundFor number = true → e.pattern.length < f.pattern.length) :
    Selects (e :: es) number (i + 1) f := by
  refine ⟨h.entry, h.bound, fun j g hg bound => ?_⟩
  cases j with
  | zero =>
    obtain rfl : e = g := Option.some.inj hg
    exact .inl (shorter bound)
  | succ j =>
    have best := h.best j g hg bound
    unfold PlanEntry.preferred at *
    omega

end

/-- R94: what is selected from index `k` on: the best bound candidate, or none where there is no bound candidate. -/
theorem selectFrom_cases (number : List Tone) (k : Nat) (entries : List PlanEntry) :
    (selectFrom number k entries = none ∧ ∀ e ∈ entries, e.boundFor number = false) ∨
      ∃ i e, selectFrom number k entries = some (k + i, e) ∧ Selects entries number i e := by
  induction entries generalizing k with
  | nil => exact .inl ⟨rfl, nofun⟩
  | cons e es ih =>
    rw [selectFrom]
    rcases ih (k + 1) with ⟨rest, none⟩ | ⟨i, f, rest, best⟩
    · rw [rest]
      cases bound : e.boundFor number with
      | true => exact .inr ⟨0, e, rfl, .head bound fun f hf hb => by rw [none f hf] at hb; cases hb⟩
      | false => exact .inl ⟨rfl, List.forall_mem_cons.2 ⟨bound, none⟩⟩
    · rw [rest]
      dsimp only
      split
      · next first =>
        obtain ⟨bound, longer⟩ := Bool.and_eq_true_iff.1 first
        rw [decide_eq_true_iff] at longer
        refine .inr ⟨0, e, rfl, .head bound fun g hg hb => ?_⟩
        obtain ⟨j, hj⟩ := List.mem_iff_getElem?.1 hg
        have second := best.best j g hj hb
        unfold PlanEntry.preferred at second
        omega
      · next later =>
        refine .inr ⟨i + 1, f, by rw [Nat.add_right_comm, Nat.add_assoc], best.tail fun bound => ?_⟩
        rw [bound, Bool.true_and, decide_eq_true_iff] at later
        omega

section
variable {entries : List PlanEntry} {number : List Tone}

theorem selected_eq_some_iff {i : Nat} {e : PlanEntry} :
    selected entries number = some (i, e) ↔ Selects entries number i e := by
  have found := selectFrom_cases number 0 entries
  simp only [Nat.zero_add] at found
  rcases found with ⟨sel, none⟩ | ⟨j, f, sel, best⟩
  · rw [selected, sel]
    refine ⟨nofun, fun h => ?_⟩
    have bound := h.bound
    rw [none e (List.mem_of_getElem? h.entry)] at bound
    cases bound
  · rw [selected, sel]
    constructor
    · intro h
      cases h
      exact best
    · intro h
      obtain ⟨rfl, rfl⟩ := best.unique h
      rfl

/-! ### Whether there is a candidate -/

theorem hasCandidate_iff : hasCandidate entries number = true ↔ ∃ e ∈ entries, e.candidate number = true :=
  List.any_eq_true

theorem hasCandidate_eq_false_iff :
    hasCandidate entries number = false ↔ ∀ e ∈ entries, e.candidate number = false := by
  simp only [hasCandidate, List.any_eq_false, Bool.not_eq_true]

theorem hasOpen_eq_false_iff : hasOpen entries number = false ↔
    ∀ e ∈ entries, e.candidate number = true → e.pattern.length ≤ number.length := by
  rw [hasOpen, List.any_eq_false]
  simp only [PlanEntry.openFor_iff, not_and, not_lt]

theorem hasCandidate_of_selected {i : Nat} {e : PlanEntry} (h : selected entries number = some (i, e)) :
    hasCandidate entries number = true := by
  have best := selected_eq_some_iff.1 h
  exact hasCandidate_iff.2 ⟨e, List.mem_of_getElem? best.entry, (PlanEntry.boundFor_iff.1 best.bound).1⟩

theorem selected_of_no_candidate (h : hasCandidate entries number = false) : selected entries number = none := by
  cases sel : selected entries number with
  | none => rfl
  | some x =>
    rw [hasCandidate_of_selected sel] at h
    cases h

/-! ### The decision after a tone symbol (R95) -/

variable {u : UnmatchedAction}

/-- Case (a). -/
theorem matchSymbol_bars (h : hasCandidate entries number = false) :
    matchSymbol entries .bar number = some .unmatchedBar := by
  rw [matchSymbol, h]
  rfl

/-- Cases (b) and (c) of a selected entry. -/
theorem matchSymbol_selected {i : Nat} {e : PlanEntry} (h : selected entries number = some (i, e)) :
    matchSymbol entries u number =
      if (number.length = e.maxLen ∧ hasOpen entries number = false) ∨ number.length = 24 then some (.entry i e)
      else none := by
  rw [matchSymbol, hasCandidate_of_selected h, h]
  simp only [Bool.not_true, Bool.false_and, Bool.false_eq_true, if_false, Config.numberRegister, Bool.and_eq_true,
    beq_iff_eq, Bool.not_eq_true']
  by_cases complete : number.length = e.maxLen ∧ hasOpen entries number = false <;> simp [complete]

/-- Case (c) with no selected entry. -/
theorem matchSymbol_full (h : selected entries number = none) (full : number.length = 24) :
    matchSymbol entries u number = some (unmatchedVerdict u) := by
  rw [matchSymbol, h]
  split
  · next bars =>
    obtain ⟨-, bar⟩ := Bool.and_eq_true_iff.1 bars
    rw [beq_iff_eq.1 bar]
    rfl
  · dsimp only
    rw [if_pos (beq_iff_eq.2 full)]

/-- None of the cases, with no selected entry. -/
theorem matchSymbol_waits (h : selected entries number = none)
    (remains : u = .pass ∨ hasCandidate entries number = true) (short : number.length ≠ 24) :
    matchSymbol entries u number = none := by
  have goesOn : (!hasCandidate entries number && u == .bar) = false := by
    rcases remains with rfl | found
    · exact Bool.and_false _
    · rw [found]
      rfl
  rw [matchSymbol, goesOn, h]
  exact if_neg fun full => short (beq_iff_eq.1 full)

end

/-- Settles O14. -/
theorem selectedEntry : Obligations.SelectedEntry := by
  refine ⟨fun e number => PlanEntry.candidate_iff, fun e number more => PlanEntry.candidate_of_append,
    fun entries number i e => ?_, fun entries u number => ⟨fun none bar => ?_, fun i e sel complete closed => ?_,
      fun i e sel full => ?_, fun sel full => ?_, fun goesOn short waits => ?_⟩⟩
  · simp only [selected_eq_some_iff, ← PlanEntry.boundFor_iff]
    exact ⟨fun h => ⟨h.entry, h.bound, fun j f hf candidate whole =>
        h.best j f hf (PlanEntry.boundFor_iff.2 ⟨candidate, whole⟩)⟩,
      fun ⟨entry, bound, best⟩ => ⟨entry, bound, fun j f hf hb =>
        best j f hf (PlanEntry.boundFor_iff.1 hb).1 (PlanEntry.boundFor_iff.1 hb).2⟩⟩
  · rw [bar]
    exact matchSymbol_bars (hasCandidate_eq_false_iff.2 none)
  · rw [matchSymbol_selected sel, if_pos (.inl ⟨complete, hasOpen_eq_false_iff.2 closed⟩)]
  · rw [matchSymbol_selected sel, if_pos (.inr full)]
  · exact matchSymbol_full sel full
  · cases sel : selected entries number with
    | none => exact matchSymbol_waits sel (goesOn.imp_right hasCandidate_iff.2) short
    | some x =>
      obtain ⟨i, e⟩ := x
      rw [matchSymbol_selected sel, if_neg]
      rintro (⟨complete, closed⟩ | full)
      · rcases waits i e sel with longer | ⟨f, hf, candidate, isOpen⟩
        · exact longer complete
        · exact Nat.not_lt.2 (hasOpen_eq_false_iff.1 closed f hf candidate) isOpen
      · exact short full

/-! ### The decision at the complete expiry (R96) -/

section
variable {entries : List PlanEntry} {number : List Tone} {u : UnmatchedAction}

/-- Case (d). -/
theorem matchExpiry_decides {i : Nat} {e : PlanEntry} (h : selected entries number = some (i, e))
    (long : e.minLen ≤ number.length) : matchExpiry entries u number = .entry i e := by
  rw [matchExpiry, h]
  exact if_pos long

/-- Case (e). -/
theorem matchExpiry_incomplete (h : hasCandidate entries number = true)
    (short : ∀ i e, selected entries number = some (i, e) → number.length < e.minLen) :
    matchExpiry entries u number = .incomplete := by
  rw [matchExpiry]
  split
  · next i e sel => exact if_neg (Nat.not_le.2 (short i e sel))
  · exact if_pos h

/-- Cases (f) and (g). -/
theorem matchExpiry_unmatched (h : hasCandidate entries number = false) :
    matchExpiry entries u number = unmatchedVerdict u := by
  rw [matchExpiry, selected_of_no_candidate h, h]
  rfl

end

/-- Settles O15. -/
theorem decisionAtCompleteExpiry : Obligations.DecisionAtCompleteExpiry := by
  refine ⟨fun entries u number => ⟨fun i e sel long => matchExpiry_decides sel long,
    fun found short => matchExpiry_incomplete (hasCandidate_iff.2 found) short, fun none pass => ?_,
    fun none bar => ?_⟩, fun n s due _ => ⟨_, exec_completeTimerExpiry_due due, rfl⟩⟩
  · rw [matchExpiry_unmatched (hasCandidate_eq_false_iff.2 none), pass]
    rfl
  · rw [matchExpiry_unmatched (hasCandidate_eq_false_iff.2 none), bar]
    rfl

/-! ### The symbols a decision sends (R98) -/

section
variable {e : PlanEntry} (number : List Tone)

theorem PlanEntry.sends_pass (h : e.action = .pass) : e.sends number = number := by rw [sends, h]

theorem PlanEntry.sends_prepend (h : e.action = .prepend) : e.sends number = e.insert ++ number := by rw [sends, h]

theorem PlanEntry.sends_stripPrepend (h : e.action = .stripPrepend) :
    e.sends number = e.insert ++ number.drop e.strip := by rw [sends, h]

theorem PlanEntry.sends_bar (h : e.action = .bar) : e.sends number = [] := by rw [sends, h]

/-- At most the insert string and the number are sent. -/
theorem PlanEntry.sends_length_le : (e.sends number).length ≤ e.insert.length + number.length := by
  cases action : e.action with
  | pass => rw [sends_pass number action]; omega
  | prepend => rw [sends_prepend number action, List.length_append]
  | stripPrepend => rw [sends_stripPrepend number action, List.length_append, List.length_drop]; omega
  | bar => rw [sends_bar number action]; exact Nat.zero_le _

end

/-- Settles O17. -/
theorem decisionSends : Obligations.DecisionSends := by
  refine fun e number => ⟨e.sends_pass number, e.sends_prepend number, e.sends_stripPrepend number,
    fun action strip long => ?_, fun insert dialled => ?_⟩
  · rw [e.sends_stripPrepend number action, List.length_append, List.length_drop]
    omega
  · have sent := e.sends_length_le number
    omega

end Sys2Proof.Machine
end

section
/-! SWITCH_PLAN (O56): the STAGED bank becomes active in one step, or the order answers NOT_STAGED (R106). -/

namespace Sys2Proof.Machine

theorem exec_switchPlan {b : OrderBody} {s : State} {c : CurrentOrder} (h : s.executing c) (code : b.code = 0x08) :
    exec (.switchPlan b) s = .next (epilogue (switchPlan (bodyHeld b s))) :=
  congrArg _ (whenBody_executing (i := .switchPlan b) h (beq_iff_eq.2 code) _)

/-- R106: a bank enters ACTIVE. -/
def Bank.activated (x : Bank) : Bank := { x with state := .active }

/-- R106: bank `b` becomes active in one step, and the former is left. -/
def switchedTo (b : BankNo) (s : State) : State :=
  ((s.modBank s.plan.active Bank.retire).modBank b Bank.activated).modPlan fun p => { p with active := b }

section
variable {s : State} {b : BankNo}

theorem switchPlan_staged (other : b ≠ s.plan.active) (h : (s.bank b).state = .staged) :
    switchPlan s =
      chooseResult .ok { bank := b.val, refCount := (s.bank s.plan.active).refCount } (switchedTo b s) := by
  rw [switchPlan, otherBank_eq other]
  exact if_pos h

theorem switchPlan_notStaged (other : b ≠ s.plan.active) (h : (s.bank b).state ≠ .staged) :
    switchPlan s = chooseResult .notStaged { bank := b.val, state := (s.bank b).state.code } s := by
  rw [switchPlan, otherBank_eq other]
  exact if_neg h

theorem switchedTo_bank (other : b ≠ s.plan.active) : (switchedTo b s).bank b = (s.bank b).activated := by
  have kept : (s.modBank s.plan.active Bank.retire).bank b = s.bank b := (OtherBanksKept.modBank _ s).banks b other
  rw [← kept]
  exact State.modBank_bank (s.modBank s.plan.active Bank.retire) b Bank.activated

theorem switchedTo_former (other : b ≠ s.plan.active) :
    (switchedTo b s).bank s.plan.active = (s.bank s.plan.active).retire := by
  have entered : (switchedTo b s).bank s.plan.active = (s.modBank s.plan.active Bank.retire).bank s.plan.active :=
    (OtherBanksKept.modBank Bank.activated (s.modBank s.plan.active Bank.retire)).banks _ other.symm
  rw [entered, State.modBank_bank]

end

/-- R106: of a bank left by a switch only the state changes, and only from ACTIVE. -/
theorem Bank.retire_kept (x : Bank) : x.retire.entries = x.entries ∧ x.retire.refCount = x.refCount ∧
    (x.state = .active → x.retire.state = .inactiveLoaded) ∧ (x.state ≠ .active → x.retire.state = x.state) := by
  unfold retire
  split
  · next h => exact ⟨rfl, rfl, fun _ => rfl, fun k => absurd h k⟩
  · next h => exact ⟨rfl, rfl, fun k => absurd k h, fun _ => rfl⟩

/-- Settles O56. -/
theorem Proofs.switchPlan : Obligations.SwitchPlan := by
  intro b s c other executing code inactive
  have run := exec_switchPlan executing code
  obtain ⟨-, -, current, -⟩ := executing
  have held : (bodyHeld b s).plan = s.plan := rfl
  refine ⟨_, run, by simp [bodyHeld], by simp [bodyHeld], by simp [bodyHeld], by simp [bodyHeld], fun staged => ?_,
    fun notStaged => ?_⟩
  · have same : SameOrder s (switchedTo other (bodyHeld b s)) := (SameOrder.bodyHeld b s).trans (.of_orders rfl rfl)
    have answer : ∀ (d : Details) (t : State), (chooseResult .ok d t).plan = t.plan := by simp
    have newBank : (switchedTo other (bodyHeld b s)).bank other = _ := switchedTo_bank inactive
    have former : (switchedTo other (bodyHeld b s)).bank s.plan.active = _ := switchedTo_former inactive
    obtain ⟨entries, refCount, wasActive, wasEmpty⟩ := Bank.retire_kept (s.bank s.plan.active)
    rw [switchPlan_staged (s := bodyHeld b s) inactive staged]
    refine ⟨by rw [answer]; rfl, ?_, ?_, ?_, fun h => ?_, fun h => ?_, same.answered current _ _⟩
    all_goals rw [State.bank_def, answer, ← State.bank_def]
    · exact newBank
    · exact (congrArg Bank.entries former).trans entries
    · exact (congrArg Bank.refCount former).trans refCount
    · exact (congrArg Bank.state former).trans (wasActive h)
    · exact (congrArg Bank.state former).trans (wasEmpty h)
  · rw [switchPlan_notStaged (s := bodyHeld b s) inactive notStaged]
    exact bodyHeld_answers current b _ _

end Sys2Proof.Machine
end

section
/-! A host-bus error (O60): what it drops at once, the lines' teardowns that follow, and the start it ends (R92, R161,
R163, R166, R171, R177, R183, R186). -/

namespace Sys2Proof.Machine

/-! ### The lines torn down by a stop (R186) -/

theorem afterEvent_of_not_running {s : State} (h : s.running = false) (n : LineNo) : afterEvent n s = s := by
  rw [afterEvent, h]
  rfl

/-- What the teardowns of a stop keep while no order is in progress: the registers, the order unit, the port but for the
record writer's waiting access, the sequence number, and of the plan banks all but the reference counts; no draft leaves
the FIFO. -/
structure StopKept (s t : State) : Prop where
  control : t.control = s.control
  orders : t.orders = s.orders
  port : PortKept s t
  sequence : t.writer.sequence = s.writer.sequence
  fifo : s.writer.fifo.length ≤ t.writer.fifo.length
  banks : ∀ b, (t.bank b).state = (s.bank b).state ∧ (t.bank b).entries = (s.bank b).entries

namespace StopKept

variable {s t u : State}

theorem of_blocks (control : t.control = s.control) (orders : t.orders = s.orders) (port : t.port = s.port)
    (writer : t.writer = s.writer) (plan : t.plan = s.plan) : StopKept s t :=
  ⟨control, orders, .of_port port, by rw [writer], by rw [writer], fun b => by
    rw [State.bank_def, plan, ← State.bank_def]; exact ⟨rfl, rfl⟩⟩

theorem trans (h : StopKept s t) (k : StopKept t u) : StopKept s u :=
  ⟨k.control.trans h.control, k.orders.trans h.orders, h.port.trans k.port, k.sequence.trans h.sequence,
    h.fifo.trans k.fifo, fun b => ⟨(k.banks b).1.trans (h.banks b).1, (k.banks b).2.trans (h.banks b).2⟩⟩

theorem modLine (n : LineNo) (f : LineCtx → LineCtx) (s : State) : StopKept s (s.modLine n f) :=
  .of_blocks rfl rfl rfl rfl rfl

theorem modClassifier (n : LineNo) (f : Classifier → Classifier) (s : State) : StopKept s (s.modClassifier n f) :=
  .of_blocks rfl rfl rfl rfl rfl

theorem unbindBank (n : LineNo) (s : State) : StopKept s (unbindBank n s) := by
  refine ⟨by simp, by simp, .of_port (by simp), by simp, by simp, fun b => ?_⟩
  unfold Machine.unbindBank
  split
  · exact ⟨rfl, rfl⟩
  · next c _ =>
    by_cases same : c = b
    · subst same
      simp
    · simp [Table.get_set_ne _ _ same]

theorem joinFifo (d : ClosedDraft) (s : State) : StopKept s (joinFifo d s) := by
  refine ⟨by simp, by simp, joinFifo_port d s, ?_, ?_, by simp⟩
  · unfold Machine.joinFifo beginPass
    dsimp only
    (repeat' split) <;> simp
  · rw [joinFifo_fifo, List.length_append]
    exact Nat.le_add_right _ _

theorem closeDraft (n : LineNo) (cause : CloseCause) (s : State) : StopKept s (closeDraft n cause s) := by
  unfold Machine.closeDraft
  split
  · exact .of_blocks rfl rfl rfl rfl rfl
  · exact modLine n _ s
  · exact (modLine n _ s).trans (joinFifo _ _)

theorem emptiedLine (n : LineNo) (cause : CloseCause) (idle : s.orders.state ≠ .inProgress) :
    StopKept s (emptiedLine n cause s) := by
  have given : StopKept s (givenUp n s) :=
    .of_blocks (by simp [givenUp]) (by simp [givenUp]) (by simp [givenUp]) (by simp [givenUp]) (by simp [givenUp])
  rw [Machine.emptiedLine, endSendTones_of_not_inProgress (by rw [given.orders]; exact idle)]
  exact (given.trans (unbindBank n _)).trans (modLine n _ _)

theorem tornDown (n : LineNo) (cause : CloseCause) (idle : s.orders.state ≠ .inProgress) :
    StopKept s (tornDown n cause s) := by
  rw [Machine.tornDown, teardownSteps_eq]
  exact (((emptiedLine n cause idle).trans (closeDraft n cause _)).trans (modLine n _ _)).trans (modLine n _ _)

theorem stopLine (n : LineNo) (part : s.running = false) (idle : s.orders.state ≠ .inProgress) :
    StopKept s (stopLine n s) := by
  unfold Machine.stopLine
  split
  · have torn := tornDown n .stopped idle
    have stays : (Machine.tornDown n .stopped s).running = false := by
      rw [State.running_def, torn.control]
      exact part
    rw [teardown_eq, afterEvent_of_not_running stays]
    exact torn.trans (modClassifier n _ _)
  · exact .of_blocks rfl rfl rfl rfl rfl

theorem stopLines (part : s.running = false) (idle : s.orders.state ≠ .inProgress) : StopKept s (stopLines s) := by
  have each : ∀ (l : List LineNo) (t : State),
      StopKept s t → StopKept s (l.foldl (fun t n => Machine.stopLine n t) t) := fun l => by
    induction l with
    | nil => exact fun _ h => h
    | cons n l ih =>
      intro t h
      have stays : t.running = false := by
        rw [State.running_def, h.control]
        exact part
      exact ih _ (h.trans (stopLine n stays (by rw [h.orders]; exact idle)))
  exact each _ s (.of_blocks rfl rfl rfl rfl rfl)

end StopKept

/-- R83, R186: the line a stop has torn down is at rest. -/
theorem stopLine_atRest (n : LineNo) (s : State) : ((stopLine n s).line n).atRest := by
  unfold stopLine
  split
  · obtain ⟨k, line⟩ := teardown_context n .stopped s
    rw [State.line_def, State.modClassifier_lines, ← State.line_def, line]
    exact .inl rfl
  · next h =>
    unfold LineCtx.atRest
    cases e : (s.line n).state <;> simp_all [LineState.seizedOn]

theorem stopLine_keeps_atRest {n m : LineNo} (h : n ≠ m) {s : State} (hm : (s.line m).atRest) :
    ((stopLine n s).line m).atRest := by
  unfold stopLine
  split
  · rw [State.line_def, State.modClassifier_lines, ← State.line_def, LineCtx.atRest, teardown_state_of_ne h _ hm]
    exact hm
  · exact hm

theorem stopLines_atRest (s : State) (n : LineNo) : ((stopLines s).line n).atRest :=
  eachLine_establishes (P := fun n s => (s.line n).atRest) stopLine_atRest
    (fun _ _ _ h k => stopLine_keeps_atRest h k) s n

theorem LineCtx.atRest.not_seizedOn {c : LineCtx} (h : c.atRest) : c.state.seizedOn = false := by
  rcases h with e | e <;> rw [e] <;> rfl

/-! ### What the error drops at once (R92, R171, R177) -/

/-- R92: the bank of a LOAD_PLAN under way is LOADING. -/
theorem loadUnderWay_iff {s : State} : loadUnderWay s = true ↔ ∃ c source b count,
    s.orders.current = some c ∧ c.work = .loadPlan source b count ∧ (s.bank b).state = .loading := by
  unfold loadUnderWay
  split
  · next source b count _ _ _ current =>
    rw [beq_iff_eq]
    refine ⟨fun loading => ⟨_, source, b, count, current, rfl, loading⟩,
      fun ⟨c, _, k, _, current', work, loading⟩ => ?_⟩
    obtain rfl := Option.some.inj (current.symm.trans current')
    cases work
    exact loading
  · next other =>
    refine ⟨nofun, fun ⟨c, source, b, count, current, work, _⟩ => ?_⟩
    obtain ⟨slot, body, work', abort, result, progressed⟩ := c
    cases work
    exact absurd current (other _ _ _ _ _ _ _ _)

/-- R92, R177: an order dropped takes no entries from a bank that is not LOADING. -/
theorem dropOrder_bank {s : State} {b : BankNo} (h : (s.bank b).state ≠ .loading) :
    (dropOrder s).bank b = s.bank b := by
  have dropped : ∀ t : State, (t.modOrders fun o => { o with state := .idle, current := none }).bank b = t.bank b :=
    fun _ => rfl
  rw [dropOrder, dropped]
  split
  · next load =>
    obtain ⟨c, source, k, count, current, work, loading⟩ := loadUnderWay_iff.1 load
    rw [emptyCurrentLoad_of_loadPlan current work]
    refine (OtherBanksKept.modBank Bank.emptied s).banks b fun same => ?_
    rw [same] at h
    exact h loading
  · rfl

/-- R171: the registers at a stop on a host-bus error. -/
def errorRaised (s : State) : State :=
  raise .memoryError (s.modControl fun c => { c with part := .stopping, result := .memoryError })

/-- R161, R171, R177, R186: what a host-bus error has dropped when the lines' teardowns begin: every access, what was
due, and the current order. -/
def errorTaken (s : State) : State :=
  (dropOrder (dropDue ((errorRaised s).modPort fun p =>
    { p with inFlight := none, behind := none, waitStart := none, waitWriter := none, waitOrder := none }))).modControl
    fun c => { c with stopTornDown := true }

theorem stopOnError_eq (s : State) : stopOnError s = dropDrafts (stopLines (errorTaken s)) := rfl

section
variable (s : State)

theorem errorTaken_control :
    (errorTaken s).control = { s.control with
      part := .stopping, result := .memoryError, stopTornDown := true,
      attention := (errorRaised s).control.attention } := by
  have raised : (errorRaised s).control = _ := raise_control .memoryError _
  simp only [errorTaken, State.modControl_control, dropOrder_frame, dropDue_frame, State.modPort_control]
  rw [raised]
  rfl

theorem errorTaken_dropped :
    (errorTaken s).orders.state = .idle ∧ (errorTaken s).orders.current = none ∧
      (errorTaken s).writer = s.writer ∧ (errorTaken s).port.inFlight = none ∧ (errorTaken s).port.behind = none ∧
      (errorTaken s).port.waitStart = none ∧ (errorTaken s).port.waitOrder = none := by
  refine ⟨rfl, rfl, ?_⟩
  simp [errorTaken, errorRaised]

theorem errorTaken_bank {b : BankNo} (h : (s.bank b).state ≠ .loading) : (errorTaken s).bank b = s.bank b :=
  dropOrder_bank h

theorem errorTaken_settings : (errorTaken s).settings = s.settings := by simp [errorTaken, errorRaised]

end

/-! ### The stop on a host-bus error -/

/-- R161, R171, R186: what a stop on a host-bus error comes to. -/
structure ErrorStopped (s u : State) : Prop where
  part : u.control.part = .stopping
  result : u.control.result = .memoryError
  run : u.control.run = s.control.run
  raised : Raised .memoryError s.control u.control
  settings : u.settings = s.settings
  quiet : u.port.quiet = true
  current : u.orders.current = none
  fifo : u.writer.fifo = []
  sequence : u.writer.sequence = s.writer.sequence
  dropped : min 255 (s.control.recordsDropped + s.writer.fifo.length) ≤ u.control.recordsDropped
  saturates : u.control.recordsDropped ≤ 255
  banks : ∀ b, (s.bank b).state ≠ .loading →
    (u.bank b).state = (s.bank b).state ∧ (u.bank b).entries = (s.bank b).entries
  lines : ∀ n, (u.line n).state.seizedOn = false

/-- R161, R163: once the lines are torn down, the drafts in the FIFO are dropped and counted. -/
theorem dropDrafts_stops {s t : State} (kept : StopKept (errorTaken s) t) (settings : t.settings = s.settings)
    (rest : ∀ n, (t.line n).atRest) : ErrorStopped s (dropDrafts t) := by
  obtain ⟨idle, current, writer, inFlight, behind, waitStart, waitOrder⟩ := errorTaken_dropped s
  obtain ⟨-, inFlight', behind', waitStart', waitOrder'⟩ := kept.port
  have control := kept.control.trans (errorTaken_control s)
  have longer := kept.fifo
  have counted : (dropDrafts t).control.recordsDropped = min 255 (s.control.recordsDropped + t.writer.fifo.length) := by
    simp [dropDrafts, control]
  rw [writer] at longer
  constructor
  case part => exact congrArg Control.part control
  case result => exact congrArg Control.result control
  case run => exact (congrArg Control.run control :)
  case raised =>
    have attention : (dropDrafts t).control.attention = (errorRaised s).control.attention :=
      (congrArg Control.attention control :)
    rw [Raised, attention]
    exact raise_raised .memoryError (s.modControl fun c => { c with part := .stopping, result := .memoryError })
  case settings => simpa using settings
  case quiet =>
    simp [Port.quiet, dropDrafts, inFlight', inFlight, behind', behind, waitStart', waitStart, waitOrder', waitOrder]
  case current => exact (congrArg Orders.current kept.orders).trans current
  case fifo => rfl
  case sequence => exact kept.sequence.trans (congrArg Writer.sequence writer)
  case dropped => omega
  case saturates => omega
  case banks =>
    intro b h
    have banks := kept.banks b
    rw [errorTaken_bank s h] at banks
    exact banks
  case lines => exact fun n => (rest n).not_seizedOn

theorem stopOnError_stops (s : State) : ErrorStopped s (stopOnError s) := by
  have idle : (errorTaken s).orders.state ≠ .inProgress := by
    rw [(errorTaken_dropped s).1]
    nofun
  have part : (errorTaken s).running = false := by
    rw [State.running_def, errorTaken_control]
    rfl
  rw [stopOnError_eq]
  refine dropDrafts_stops (.stopLines part idle) ?_ (stopLines_atRest _)
  rw [← errorTaken_settings s]
  simp

/-! ### A start that fails on a host-bus error (R166, R183) -/

/-- R187: raising a cause takes no flag away. -/
theorem raise_keeps_flag (k : Cause) {s : State} {i : Fin 9} (h : s.control.attention.get i = true) :
    (raise k s).control.attention.get i = true := by
  have raised : (raise k s).control.attention = _ := raise_raised k s
  rw [raised]
  split
  · rw [Table.get_set, h, ite_self]
  · exact h

/-- R187: raising an enabled cause sets its flag. -/
theorem raise_sets_flag (k : Cause) {s : State} (h : s.control.attentionMask.getLsbD k.code = true) :
    (raise k s).control.attention.get k.index = true := by
  have raised : (raise k s).control.attention = _ := raise_raised k s
  rw [raised, if_pos h, Table.get_set_self]

/-- R166, R183: the registers after a start that a host-bus error ends. -/
theorem startOnError_control (s : State) : (startOnError s).control = { s.control with
    part := .startFailed, result := .memoryError, attention := (startOnError s).control.attention } := by
  have second : (startOnError s).control = _ := raise_control .startResult _
  rw [second, raise_control .memoryError]
  rfl

theorem startOnError_raises (s : State) :
    (s.control.attentionMask.getLsbD 1 = true → (startOnError s).control.attention.get 0 = true) ∧
      (s.control.attentionMask.getLsbD 7 = true → (startOnError s).control.attention.get 6 = true) := by
  refine ⟨fun enabled => raise_keeps_flag .startResult (raise_sets_flag .memoryError enabled),
    fun enabled => raise_sets_flag .startResult ?_⟩
  rw [raise_control]
  exact enabled

/-! ### The error, by what is on the bus -/

section
variable {s : State}

theorem hostBusError_of_idle_bus (h : s.port.inFlight = none) : hostBusError s = s := by
  rw [hostBusError, h]

theorem hostBusError_of_abandoned {a : Access} {why : Abandon} (h : s.port.inFlight = some a)
    (abandoned : a.abandoned = some why) : hostBusError s = abandonedError why (freeBus s) := by
  simp only [hostBusError, h, abandoned]

theorem hostBusError_of_live (h : ∃ a, s.port.inFlight = some a ∧ a.abandoned = none) :
    hostBusError s = busError (freeBus s) := by
  obtain ⟨a, h, live⟩ := h
  simp only [hostBusError, h, live]

theorem abandonedError_eq (why : Abandon) (s : State) :
    abandonedError why s = if why = .byRunCleared then raise .memoryError s else s := by
  cases why <;> rfl

/-- R166: an abandoned access that completes leaves the bus, and nothing else happens. -/
theorem whenDone_of_abandoned {p : Purpose} {a : Access} (h : s.port.inFlight = some a) (purpose : a.purpose = p)
    (abandoned : a.abandoned.isSome = true) (k : State → State) : whenDone p k s = epilogue (freeBus s) := by
  simp only [whenDone, h, purpose, abandoned, if_true]

/-- R171, R186: the state that stops on the error, in RUNNING and in STOPPING. -/
theorem busError_of_running (h : s.control.part = .running) :
    busError s = stopOnError (s.modControl fun c => { c with run := false, recordsDropped := 0 }) := by
  rw [busError, h]

theorem busError_of_stopping (h : s.control.part = .stopping) : busError s = stopOnError s := by rw [busError, h]

theorem busError_of_starting (h : s.control.part = .starting) : busError s = startOnError s := by rw [busError, h]

end

theorem exec_hostBusError (s : State) : exec .hostBusError s = .next (epilogue (hostBusError s)) := rfl

section
variable {s : State} (live : ∃ a, s.port.inFlight = some a ∧ a.abandoned = none)
include live

/-- R166, R183: an error in STARTING. -/
theorem hostBusError_of_starting (h : s.control.part = .starting) : hostBusError s = startOnError (freeBus s) := by
  rw [hostBusError_of_live live, busError_of_starting (s := freeBus s) h]

/-- R171, R186: an error in RUNNING. -/
theorem hostBusError_of_running (h : s.control.part = .running) :
    hostBusError s = stopOnError ((freeBus s).modControl fun c => { c with run := false, recordsDropped := 0 }) := by
  rw [hostBusError_of_live live, busError_of_running (s := freeBus s) h]

/-- R186: an error in STOPPING. -/
theorem hostBusError_of_stopping (h : s.control.part = .stopping) : hostBusError s = stopOnError (freeBus s) := by
  rw [hostBusError_of_live live, busError_of_stopping (s := freeBus s) h]

end

/-- Settles O60. -/
theorem Proofs.hostBusError : Obligations.HostBusError := by
  refine fun s => ⟨fun idle => ?_, fun a why inFlight abandoned => ?_, fun h a inFlight purpose abandoned => ?_,
    fun live starting => ⟨_, exec_hostBusError s, ?_⟩, fun live part => ⟨_, exec_hostBusError s, ?_⟩⟩
  · rw [exec_hostBusError, hostBusError_of_idle_bus idle]
  · rw [exec_hostBusError, hostBusError_of_abandoned inFlight abandoned, abandonedError_eq]
  · exact congrArg _ (whenDone_of_abandoned inFlight purpose abandoned _)
  · have control := startOnError_control (freeBus s)
    have port : (startOnError (freeBus s)).port = (freeBus s).port := by simp
    rw [hostBusError_of_starting live starting]
    refine ⟨by rw [control], by rw [control], by rw [control]; rfl, by simp, by simp, ?_, ?_,
      startOnError_raises (freeBus s)⟩ <;> rw [port] <;> rfl
  · rcases part with running | stopping
    · have stops := stopOnError_stops ((freeBus s).modControl fun c => { c with run := false, recordsDropped := 0 })
      rw [← hostBusError_of_running live running] at stops
      refine ⟨stops.part, stops.result, fun _ => stops.run, fun k => ?_, stops.raised, stops.settings, stops.quiet,
        stops.current, stops.fifo, stops.sequence, fun few _ => ?_, stops.saturates, stops.banks, stops.lines⟩
      · rw [running] at k
        cases k
      · have dropped : min 255 (0 + s.writer.fifo.length) ≤ _ := stops.dropped
        omega
    · have stops := stopOnError_stops (freeBus s)
      rw [← hostBusError_of_stopping live stopping] at stops
      have notRunning : s.control.part ≠ .running := by rw [stopping]; nofun
      exact ⟨stops.part, stops.result, fun k => absurd k notRunning, fun _ => stops.run, stops.raised, stops.settings,
        stops.quiet, stops.current, stops.fifo, stops.sequence, fun _ k => absurd k notRunning, stops.saturates,
        stops.banks, stops.lines⟩

end Sys2Proof.Machine
end
section
/-! What a step may do to calls, said once for every invariant of drafts and generators: most of the part carries the open
drafts, the queues and the pool on, and a handful of operations opens and closes drafts or moves generators (R82, R112 to
R125, R149, R153). An invariant that each of these keeps is kept by every step. -/

namespace Sys2Proof.Machine

/-! ### What carries a call on -/

theorem Draft.record_line (e : ListEntry) (d : Draft) : (d.record e).line = d.line := by
  unfold Draft.record
  split <;> rfl

theorem Draft.recordTone_line (t : Tone) (escaped : Bool) (d : Draft) : (d.recordTone t escaped).line = d.line :=
  d.record_line (.tone t)

/-- A draft open in `d` was open in `c`, for the same line, whatever has been recorded in it since. -/
def DraftCarried (c d : LineCtx) : Prop := ∀ x, d.draft = .opened x → ∃ y, c.draft = .opened y ∧ y.line = x.line

namespace DraftCarried

variable {c d e : LineCtx}

theorem of_eq (h : d.draft = c.draft) : DraftCarried c d := fun x hx => ⟨x, h ▸ hx, rfl⟩

theorem of_none (h : d.draft = .none) : DraftCarried c d := fun x hx => by
  rw [h] at hx
  cases hx

theorem trans (h : DraftCarried c d) (k : DraftCarried d e) : DraftCarried c e := fun x hx => by
  obtain ⟨y, hy, line⟩ := k x hx
  obtain ⟨z, hz, line'⟩ := h y hy
  exact ⟨z, hz, line'.trans line⟩

theorem mapDraft (c : LineCtx) {f : Draft → Draft} (hf : ∀ d, (f d).line = d.line) : DraftCarried c (c.mapDraft f) :=
  fun x hx => by
    unfold LineCtx.mapDraft at hx
    split at hx
    · next y hy =>
      cases hx
      exact ⟨y, hy, (hf y).symm⟩
    · exact ⟨x, hx, rfl⟩
    · exact ⟨x, hx, rfl⟩

end DraftCarried

/-- No draft opens and none joins the FIFO; some may leave it. -/
structure DraftsCarried (s t : State) : Prop where
  fifo : t.writer.fifo.Sublist s.writer.fifo
  drafts : ∀ m, DraftCarried (s.line m) (t.line m)

/-- Nothing of the pool changes, no queue is emptied, and the drafts are carried; the part does not enter RUNNING. -/
structure CallsCarried (s t : State) : Prop extends DraftsCarried s t where
  running : t.running = true → s.running = true
  pool : t.pool = s.pool
  queues : ∀ m, (s.line m).queue ≠ [] → (t.line m).queue ≠ []

namespace DraftsCarried

variable {s t u : State}

theorem of_lines (lines : t.lines = s.lines) (fifo : t.writer.fifo.Sublist s.writer.fifo) : DraftsCarried s t :=
  ⟨fifo, fun m => .of_eq (by rw [State.line_def, lines, ← State.line_def])⟩

/-- Where every line keeps its draft. -/
theorem of_numbers (h : NumbersKept s t) (writer : t.writer = s.writer) : DraftsCarried s t :=
  ⟨by rw [writer], fun m => .of_eq (h m).draft⟩

theorem refl (s : State) : DraftsCarried s s := of_lines rfl (.refl _)

theorem trans (h : DraftsCarried s t) (k : DraftsCarried t u) : DraftsCarried s u :=
  ⟨k.fifo.trans h.fifo, fun m => (h.drafts m).trans (k.drafts m)⟩

theorem modLine (s : State) (n : LineNo) {f : LineCtx → LineCtx} (hf : DraftCarried (s.line n) (f (s.line n))) :
    DraftsCarried s (s.modLine n f) := by
  refine ⟨.refl _, fun m => ?_⟩
  by_cases e : m = n
  · rw [e, State.modLine_line]
    exact hf
  · rw [State.modLine_line_of_ne _ _ e]
    exact .of_eq rfl

end DraftsCarried

namespace CallsCarried

variable {s t u : State}

theorem of_blocks (running : t.running = true → s.running = true) (lines : t.lines = s.lines) (pool : t.pool = s.pool)
    (fifo : t.writer.fifo.Sublist s.writer.fifo) : CallsCarried s t :=
  ⟨.of_lines lines fifo, running, pool, fun m h => by
    rw [State.line_def, lines]
    exact h⟩

theorem of_part (part : t.control.part = s.control.part) (lines : t.lines = s.lines) (pool : t.pool = s.pool)
    (writer : t.writer.fifo = s.writer.fifo) : CallsCarried s t :=
  of_blocks (by simp [part]) lines pool (by rw [writer])

/-- The part leaves RUNNING, or is out of it. -/
theorem of_stopped (running : t.running = false) (lines : t.lines = s.lines) (pool : t.pool = s.pool)
    (fifo : t.writer.fifo.Sublist s.writer.fifo) : CallsCarried s t :=
  of_blocks (fun r => absurd (running.symm.trans r) Bool.false_ne_true) lines pool fifo

theorem refl (s : State) : CallsCarried s s := of_part rfl rfl rfl rfl

theorem trans (h : CallsCarried s t) (k : CallsCarried t u) : CallsCarried s u :=
  ⟨h.toDraftsCarried.trans k.toDraftsCarried, fun r => h.running (k.running r), k.pool.trans h.pool,
    fun m hm => k.queues m (h.queues m hm)⟩

theorem modLine (s : State) (n : LineNo) {f : LineCtx → LineCtx} (draft : DraftCarried (s.line n) (f (s.line n)))
    (queue : (s.line n).queue ≠ [] → (f (s.line n)).queue ≠ []) : CallsCarried s (s.modLine n f) := by
  refine ⟨.modLine s n draft, id, rfl, fun m => ?_⟩
  by_cases e : m = n
  · rw [e, State.modLine_line]
    exact queue
  · rw [State.modLine_line_of_ne _ _ e]
    exact id

/-- A change of a context that reaches neither its draft nor its queue. -/
theorem modLine_kept (s : State) (n : LineNo) {f : LineCtx → LineCtx} (draft : (f (s.line n)).draft = (s.line n).draft)
    (queue : (f (s.line n)).queue = (s.line n).queue) : CallsCarried s (s.modLine n f) :=
  modLine s n (.of_eq draft) (by rw [queue]; exact id)

theorem inDraft (s : State) (n : LineNo) {f : Draft → Draft} (hf : ∀ d, (f d).line = d.line) :
    CallsCarried s (inDraft n f s) := by
  obtain ⟨-, queue, -⟩ := LineCtx.mapDraft_kept f (s.line n)
  exact modLine s n (.mapDraft _ hf) (by rw [queue]; exact id)

end CallsCarried

/-! ### Invariants of calls -/

/-- An effect that keeps an invariant. -/
def Keeps (P : State → Prop) (k : State → State) : Prop := ∀ s, P s → P (k s)

namespace Keeps

variable {P : State → Prop} {j k : State → State}

theorem comp (hk : Keeps P k) (hj : Keeps P j) : Keeps P fun s => k (j s) := fun s h => hk _ (hj s h)

theorem foldl {α : Type} {f : α → State → State} (h : ∀ a, Keeps P (f a)) (l : List α) :
    Keeps P fun s => l.foldl (fun s a => f a s) s := by
  induction l with
  | nil => exact fun _ hs => hs
  | cons a l ih => exact fun s hs => ih _ (h a s hs)

theorem eachLine {f : LineNo → State → State} (h : ∀ n, Keeps P (f n)) : Keeps P (eachLine f) := foldl h _

end Keeps

/-- The part has no call: no draft is open or waits, no generator is held and no line waits for one. -/
structure State.NoCalls (s : State) : Prop where
  drafts : ∀ n, (s.line n).draft = .none
  fifo : s.writer.fifo = []
  gens : ∀ g, s.gen g = .reset
  waits : s.pool.waitList = []

/-- An invariant of drafts and generators: it holds of a part without calls, and is kept by whatever carries the calls on
and by each operation that does more. -/
structure CallInvariant (P : State → Prop) : Prop where
  noCalls : ∀ {s}, s.NoCalls → P s
  carried : ∀ {s t}, CallsCarried s t → P s → P t
  openDraft : ∀ n, Keeps P (openDraft n)
  closeDraft : ∀ n k, Keeps P (closeDraft n k)
  afterEvent : ∀ n, Keeps P (afterEvent n)
  teardown : ∀ n k, Keeps P (teardown n k)
  proceedChanged : ∀ n, Keeps P (proceedChanged n)
  formClassAfresh : ∀ n, Keeps P (formClassAfresh n)
  abortSendTones : ∀ n c, Keeps P (abortSendTones n c)
  onExpires : ∀ g, Keeps P (onExpires g)
  gapExpires : ∀ g, Keeps P (gapExpires g)
  holdExpires : ∀ g, Keeps P (holdExpires g)
  synthesize : ∀ g, Keeps P (synthesize g)
  takeMillisecond : Keeps P takeMillisecond

end Sys2Proof.Machine
end

section
/-! The line controller and an invariant of calls: what a symbol, a flash, a decision, an accepted change and the expiry of a
line timer come to (02, 04). -/

namespace Sys2Proof.Machine

/-! ### What carries the calls of a line on -/

/-- A change of a context that leaves its queue, and its draft but for what it records. -/
theorem CallsCarried.modLine_draft (s : State) (n : LineNo) {f : Draft → Draft} {g : LineCtx → LineCtx}
    (hf : ∀ d, (f d).line = d.line) (draft : (g (s.line n)).draft = (s.line n).draft)
    (queue : (g (s.line n)).queue = (s.line n).queue) : CallsCarried s (s.modLine n fun c => (g c).mapDraft f) := by
  obtain ⟨-, mapped, -⟩ := LineCtx.mapDraft_kept f (g (s.line n))
  exact modLine s n (.trans (.of_eq draft) (.mapDraft _ hf)) (by rw [mapped, queue]; exact id)

namespace CallsCarried

variable {s t u : State}

theorem bindBank (n : LineNo) (s : State) : CallsCarried s (bindBank n s) := by
  have counted : CallsCarried s (s.modBank s.plan.active fun x => { x with refCount := x.refCount + 1 }) :=
    .of_part rfl rfl rfl rfl
  unfold Machine.bindBank
  exact counted.trans (.modLine_draft (g := fun c => { c with boundBank := some s.plan.active }) _ n (fun _ => rfl) rfl rfl)

theorem unbindBank (n : LineNo) (s : State) : CallsCarried s (unbindBank n s) := by
  unfold Machine.unbindBank
  split
  · exact .refl s
  · exact trans (t := s.modBank _ _) (.of_part rfl rfl rfl rfl) (.modLine_kept _ n rfl rfl)

theorem joinNumber (n : LineNo) (t : Tone) (escaped : Bool) (s : State) :
    CallsCarried s (joinNumber n t escaped s) :=
  .modLine s n (.trans (.of_eq rfl) (.mapDraft _ fun d => d.recordTone_line t escaped)) (by
    obtain ⟨-, queue, -⟩ := LineCtx.mapDraft_kept
      (fun d => { d.recordTone t escaped with numberLen := ((s.line n).number ++ [t]).length })
      { s.line n with number := (s.line n).number ++ [t] }
    exact fun h k => h (queue.symm.trans k))

theorem queueSubscriber (n : LineNo) (t : Tone) (s : State) : CallsCarried s (queueSubscriber n t s) :=
  .modLine s n (.of_eq rfl) (by simp)

theorem enterConverting (n : LineNo) (s : State) : CallsCarried s (enterConverting n s) := by
  have kept : ∀ c : LineCtx, ∀ d : LineCtx, d = (if c.hasDraft then
      { c with state := .converting }.startQuiet (s.boundProfile n) else { c with state := .converting }) →
      d.draft = c.draft ∧ d.queue = c.queue := fun c d hd => by
    rw [hd]
    split <;> exact ⟨rfl, rfl⟩
  obtain ⟨draft, queue⟩ := kept (s.line n) _ rfl
  exact .modLine_kept s n draft queue

theorem endEscape (n : LineNo) (s : State) : CallsCarried s (endEscape n s) := .modLine_kept s n rfl rfl

theorem openEscape (n : LineNo) (s : State) : CallsCarried s (openEscape n s) := .modLine_kept s n rfl rfl

theorem forwardFlash (n : LineNo) (s : State) : CallsCarried s (forwardFlash n s) := by
  unfold Machine.forwardFlash
  split
  · exact .refl s
  · exact .modLine_kept s n rfl rfl

theorem redial (n : LineNo) (s : State) : CallsCarried s (redial n s) := by
  have flashed := CallsCarried.inDraft s n (f := fun d => { d.record .flash with numberLen := 0 })
    fun d => d.record_line .flash
  unfold Machine.redial
  exact (flashed.trans (unbindBank n _)).trans (.modLine_kept _ n rfl rfl)

theorem closeNotice (n : LineNo) (s : State) : CallsCarried s (closeNotice n s) := by
  unfold Machine.closeNotice
  split
  · exact .refl s
  · exact .modLine_kept s n rfl rfl

theorem modClassifier (n : LineNo) (f : Classifier → Classifier) (s : State) :
    CallsCarried s (s.modClassifier n f) := .of_part rfl rfl rfl rfl

theorem raise (k : Cause) (s : State) : CallsCarried s (raise k s) :=
  .of_part (raise_part k s) (by simp) (by simp) (by simp)

theorem recordDecision (n : LineNo) (index : Option Nat) (action : PlanAction) (count : Nat) (emergency unmatched : Bool)
    (s : State) : CallsCarried s (recordDecision n index action count emergency unmatched s) := by
  have stopped : CallsCarried s (s.modLine n fun c => c.stopTimer .complete) := .modLine_kept s n rfl rfl
  have recorded := (stopped.trans (unbindBank n _)).trans (.inDraft _ n (f := fun d => { d with
    bank := (s.line n).boundBank, entry := index, action := some action, toSend := count,
    emergency := d.emergency || emergency, unmatched := d.unmatched || unmatched }) fun _ => rfl)
  unfold Machine.recordDecision
  dsimp only
  split
  · exact recorded.trans (.raise .emergency _)
  · exact recorded

theorem takeRejectOpen (n : LineNo) (s : State) : CallsCarried s (takeRejectOpen n s) := by
  have recorded := CallsCarried.inDraft s n fun d => d.record_line .rejectOpen
  unfold Machine.takeRejectOpen
  dsimp only
  split
  · exact recorded.trans (endEscape n _)
  · exact recorded

theorem openAccepted (n : LineNo) (len : Nat) (s : State) : CallsCarried s (openAccepted n len s) := by
  have moved := modClassifier n (Classifier.acceptOpen s.slotPath.runClock) s
  unfold Machine.openAccepted
  dsimp only
  split
  · exact moved.trans (.modLine_kept _ n rfl rfl)
  · split
    · exact moved.trans (.of_part rfl rfl rfl rfl)
    · exact moved
  · exact moved
  · exact moved
  · exact moved

theorem enterLongOpen (n : LineNo) (s : State) : CallsCarried s (enterLongOpen n s) := by
  unfold Machine.enterLongOpen
  split
  · exact modClassifier n _ s
  · exact (modClassifier n _ s).trans (.modLine_kept _ n rfl rfl)

end CallsCarried

/-! ### What the line controller does -/

namespace CallInvariant

variable {P : State → Prop} (inv : CallInvariant P)
include inv

theorem of_carried {k : State → State} (h : ∀ s, CallsCarried s (k s)) : Keeps P k := fun s => inv.carried (h s)

theorem inDraft (n : LineNo) {f : Draft → Draft} (hf : ∀ d, (f d).line = d.line) : Keeps P (inDraft n f) :=
  inv.of_carried fun s => .inDraft s n hf

theorem ensureDraft (n : LineNo) : Keeps P (ensureDraft n) := fun s h => by
  unfold Machine.ensureDraft
  split
  · exact h
  · exact inv.openDraft n s h

theorem decideSend (n : LineNo) (index : Option Nat) (action : PlanAction) (cls : ServiceClass) (symbols : List Tone)
    (emergency unmatched : Bool) : Keeps P (decideSend n index action cls symbols emergency unmatched) := fun s h => by
  have recorded := inv.carried (.recordDecision n index action symbols.length emergency unmatched s) h
  unfold Machine.decideSend
  dsimp only
  split
  · refine inv.carried (.modLine_kept _ n rfl rfl) (inv.closeDraft n .complete _ ?_)
    exact inv.carried (.modLine_kept _ n rfl rfl) recorded
  · exact inv.carried (.modLine _ n (.of_eq rfl) fun queued empty => queued (List.append_eq_nil_iff.1 empty).1) recorded

theorem decideRefuse (n : LineNo) (index : Option Nat) (action : Option PlanAction) (cause : CloseCause) :
    Keeps P (decideRefuse n index action cause) := fun s h => by
  refine inv.teardown n cause _ (inv.inDraft n ?_ _ ?_)
  · exact fun _ => rfl
  · exact inv.carried (.modLine_kept s n rfl rfl) h

theorem actOn (n : LineNo) (v : Verdict) : Keeps P (actOn n v) := fun s h => by
  cases v with
  | entry i e =>
    unfold Machine.actOn
    dsimp only
    split
    · exact inv.decideRefuse _ _ _ _ s h
    · exact inv.decideSend _ _ _ _ _ _ _ s h
    · exact inv.decideSend _ _ _ _ _ _ _ s h
    · exact inv.decideSend _ _ _ _ _ _ _ s h
  | unmatchedPass => exact inv.decideSend _ _ _ _ _ _ _ s h
  | unmatchedBar => exact inv.decideRefuse _ _ _ _ s h
  | incomplete => exact inv.decideRefuse _ _ _ _ s h

theorem callMatcher (n : LineNo) : Keeps P (callMatcher n) := fun s h => by
  unfold Machine.callMatcher
  split
  · exact inv.actOn n _ s h
  · exact h

theorem symbolSeized (n : LineNo) (t : Tone) (escaped : Bool) : Keeps P (symbolSeized n t escaped) := fun s h => by
  have opened := inv.ensureDraft n s h
  unfold Machine.symbolSeized
  dsimp only
  split
  · have cleared := CallsCarried.modLine_kept (Machine.ensureDraft n s) n (f := fun c => { c with number := [] }) rfl rfl
    have bound := (cleared.trans (.joinNumber n t escaped _)).trans (.bindBank n _)
    exact inv.callMatcher n _ (inv.carried (bound.trans (.modLine_kept _ n rfl rfl)) opened)
  · have recorded := CallsCarried.inDraft (Machine.ensureDraft n s) n fun d => d.recordTone_line t escaped
    have stopped := (recorded.trans (.queueSubscriber n t _)).trans
      (.modLine_kept _ n (f := fun c => c.stopTimer .firstDigit) rfl rfl)
    exact inv.carried (stopped.trans (.enterConverting n _)) opened

theorem symbolConverting (n : LineNo) (t : Tone) (escaped : Bool) : Keeps P (symbolConverting n t escaped) :=
  fun s h => by
    have recorded := inv.inDraft n (fun d => d.recordTone_line t escaped) _ (inv.ensureDraft n s h)
    unfold Machine.symbolConverting
    dsimp only
    split
    · exact inv.carried ((CallsCarried.queueSubscriber n t _).trans (.modLine_kept _ n rfl rfl)) recorded
    · have full := CallsCarried.inDraft (Machine.inDraft n (Draft.recordTone t escaped) (Machine.ensureDraft n s)) n
        (f := fun d => { d with queueFull := true }) fun _ => rfl
      exact inv.carried (full.trans (.modLine_kept _ n rfl rfl)) recorded

theorem takeSymbol (n : LineNo) (t : Tone) (escaped : Bool) : Keeps P (takeSymbol n t escaped) := fun s h => by
  unfold Machine.takeSymbol
  split
  · exact inv.symbolSeized n t escaped s h
  · have joined := CallsCarried.joinNumber n t escaped s
    exact inv.callMatcher n _ (inv.carried (joined.trans (.modLine_kept _ n rfl rfl)) h)
  · exact inv.inDraft n (f := Draft.countIgnored) (fun _ => rfl) s h
  · exact inv.symbolConverting n t escaped s h
  · exact h
  · exact h
  · exact h

theorem takeDigit (n : LineNo) (count : Nat) (corrupt : Bool) : Keeps P (takeDigit n count corrupt) := fun s h => by
  have ended : P (if (s.line n).escapedDigit then Machine.endEscape n s else s) := by
    split
    · exact inv.carried (.endEscape n s) h
    · exact h
  refine inv.afterEvent n _ ?_
  split
  · exact inv.takeSymbol n _ _ _ ended
  · exact ended
  · exact inv.inDraft n (fun d => d.record_line .rejectCount) _ ended
  · exact ended
  · exact inv.inDraft n (fun d => d.record_line .rejectEscape) _ ended

theorem plainFlash (n : LineNo) : Keeps P (plainFlash n) := fun s h => by
  have flash : ∀ d : Draft, (d.record .flash).line = d.line := fun d => d.record_line .flash
  have forwarded := inv.carried (.forwardFlash n s) h
  unfold Machine.plainFlash
  split
  · exact inv.inDraft n flash _ forwarded
  · exact inv.carried (.modLine_kept _ n rfl rfl) (inv.inDraft n flash _ (inv.ensureDraft n _ forwarded))
  · exact inv.carried (.redial n s) h
  · exact inv.inDraft n (f := Draft.countIgnored) (fun _ => rfl) s h
  · exact h
  · exact h
  · exact h

theorem takeFlash (n : LineNo) : Keeps P (takeFlash n) := fun s h => by
  refine inv.afterEvent n _ ?_
  split
  · split
    · exact inv.carried (.openEscape n _) (inv.plainFlash n _ (inv.carried (.endEscape n s) h))
    · exact inv.carried (.openEscape n s) h
  · exact inv.plainFlash n s h

theorem longOpenClosed (n : LineNo) (b : Nat) : Keeps P (longOpenClosed n b) := fun s h => by
  have noticed := inv.carried ((CallsCarried.modClassifier n
    (fun c => { c with pulse := .steadyClosed, dropped := false }) s).trans (.closeNotice n _)) h
  unfold Machine.longOpenClosed
  dsimp only
  split
  · split
    · exact inv.takeFlash n _ (inv.carried (.takeRejectOpen n _) noticed)
    · exact inv.takeFlash n _ noticed
  · exact inv.carried (.takeRejectOpen n _) noticed

theorem acceptChange (n : LineNo) : Keeps P (acceptChange n) := fun s h => by
  have level := inv.carried (.modClassifier n Classifier.acceptLevel s) h
  unfold Machine.acceptChange
  dsimp only
  split
  · split
    · unfold closeAccepted
      split
      · exact inv.carried ((CallsCarried.modClassifier n _ _).trans (.closeNotice n _)) level
      · exact inv.longOpenClosed n _ _ level
      · exact inv.carried (.modClassifier n _ _) level
      · exact level
      · exact level
    · exact inv.carried (.openAccepted n _ _) level
  · exact inv.carried (.modClassifier n _ _) level

theorem takeSeizure (n : LineNo) : Keeps P (takeSeizure n) := fun s h => by
  have seized : ∀ (p : Profile) (a : Bool) (c : LineCtx), (c.seized p a).draft = c.draft := fun _ a _ => by
    cases a <;> rfl
  have loaded : CallsCarried s ((s.modClassifier n fun c => { c with seizureCount := 0, bound := none }).modEstimator n
      fun _ => Estimator.load (s.namedProfile n)) := .of_part rfl rfl rfl rfl
  obtain ⟨-, -, -, queue, -⟩ := LineCtx.seized_kept (s.namedProfile n) (s.slotPath.incoming.get n) (s.line n)
  rw [takeSeizure_eq]
  exact inv.afterEvent n _ (inv.carried (loaded.trans (.modLine_kept _ n (seized _ _ _) queue)) h)

theorem timerExpires (k : TimerKind) (n : LineNo) : Keeps P (timerExpires k n) := fun s h => by
  have stopped : ∀ j, P (s.modLine n fun c => c.stopTimer j) := fun j => inv.carried (.modLine_kept s n rfl rfl) h
  cases k with
  | firstDigit =>
    have closed := inv.closeDraft n .noDial _ (inv.ensureDraft n _ (stopped .firstDigit))
    exact inv.afterEvent n _ (inv.carried (.enterConverting n _) closed)
  | complete => exact inv.afterEvent n _ (inv.actOn n _ _ (stopped .complete))
  | quiet => exact inv.afterEvent n _ (inv.closeDraft n .quiet _ (stopped .quiet))
  | proceed => exact inv.teardown n .noProceed s h
  | generatorWait => exact inv.teardown n .noGenerator s h
  | escape =>
    show P (escapeExpires n s)
    unfold escapeExpires
    split
    · exact stopped .escape
    · exact inv.afterEvent n _ (inv.plainFlash n _ (inv.carried (.endEscape n s) h))
  | muteTail => exact stopped .muteTail
  | flashOut => exact stopped .flashOut

end CallInvariant

end Sys2Proof.Machine
end

section
/-! Every step and an invariant of calls: the events of the part, the commands, and the end of every step. -/

namespace Sys2Proof.Machine

/-! ### What carries all calls on -/

theorem beginPass_fifo (retry : Bool) (s : State) : (beginPass retry s).writer.fifo = s.writer.fifo := by
  unfold beginPass
  split <;> rfl

namespace CallsCarried

variable {s t u : State}

theorem beginPass (retry : Bool) (s : State) : CallsCarried s (beginPass retry s) :=
  .of_part (by simp) (by simp) (by simp) (beginPass_fifo retry s)

theorem takeSweep (s : State) : CallsCarried s (takeSweep s) := by
  have scanned : CallsCarried s (beginScan (s.modOrders fun o => { o with sweepDue := false })) :=
    .of_part (by simp) (by simp) (by simp) (by simp)
  unfold Machine.takeSweep retryParked
  split
  · exact scanned.trans (.beginPass true _)
  · exact scanned

theorem orderAccess (p : Purpose) (sa : Word) (len : Nat) (data : List Byte) (i : Nat) (s : State) :
    CallsCarried s (orderAccess p sa len data i s) := by
  refine .of_part ?_ (by simp) (by simp) (by simp)
  unfold Machine.orderAccess
  split <;> simp [raise_part]

end CallsCarried

namespace CallInvariant

variable {P : State → Prop} (inv : CallInvariant P)
include inv

/-- Other blocks change. -/
theorem of_blocks {s t : State} (h : P s) (part : t.control.part = s.control.part) (lines : t.lines = s.lines)
    (pool : t.pool = s.pool) (fifo : t.writer.fifo = s.writer.fifo) : P t :=
  inv.carried (.of_part part lines pool fifo) h

/-! ### The events of the part -/

theorem takeDue (e : Due) : Keeps P (takeDue e) := by
  cases e with
  | millisecond => exact inv.takeMillisecond
  | longOpen n => exact inv.of_carried (.enterLongOpen n)
  | clear n => exact fun s h => inv.teardown n .cleared _ (inv.carried (.modClassifier n _ s) h)
  | digit n => exact fun s h => inv.takeDigit n _ _ _ (inv.carried (.modClassifier n _ s) h)
  | seizure n => exact inv.takeSeizure n
  | loopChange n => exact inv.acceptChange n
  | timer k n => exact inv.timerExpires k n
  | onExpiry g => exact inv.onExpires g
  | gapExpiry g => exact inv.gapExpires g
  | holdExpiry g => exact inv.holdExpires g
  | sweep => exact inv.of_carried .takeSweep

/-! ### Stopping -/

theorem stopLines : Keeps P stopLines := Keeps.eachLine fun n s h => by
  unfold stopLine
  split
  · exact inv.carried (.modClassifier n _ _) (inv.teardown n .stopped s h)
  · exact h

/-- R183: the part that leaves STOPPING does not run. -/
theorem leaveStopping : Keeps P leaveStopping := inv.of_carried fun s => by
  refine .of_stopped ?_ (by simp) (by simp) (by simp)
  unfold Machine.leaveStopping
  dsimp only
  split <;> rfl

theorem advance : Keeps P advance := fun s h => by
  have served : ∀ t, P t → P (portServe t) := inv.of_carried fun t => .of_part rfl rfl rfl rfl
  have stopping : P (stopAdvance s) := by
    have torn := inv.stopLines (s.modControl fun c => { c with stopTornDown := true })
      (inv.of_blocks h rfl rfl rfl rfl)
    unfold stopAdvance
    split
    · dsimp only
      split <;> split
      · exact inv.leaveStopping _ torn
      · exact torn
      · exact inv.leaveStopping s h
      · exact h
    · exact h
  exact served _ stopping

/-! ### The end of every step, and a frame moment -/

theorem concludeIfQuiet : Keeps P concludeIfQuiet := fun s h => by
  have synthesized : P (synthesizeAll s) := by
    unfold synthesizeAll
    split
    · exact Keeps.foldl inv.synthesize _ s h
    · exact h
  unfold Machine.concludeIfQuiet
  split
  · exact h
  · split
    · unfold conclude
      split
      · exact h
      · exact inv.of_blocks synthesized rfl rfl rfl rfl
      · exact inv.of_blocks synthesized rfl rfl rfl rfl
    · exact h

theorem epilogue : Keeps P epilogue := fun s h => inv.concludeIfQuiet _ (inv.advance s h)

theorem takeOne : Keeps P takeOne := fun s h => by
  unfold Machine.takeOne
  split
  · refine inv.advance _ (inv.takeDue _ _ ?_)
    split
    · exact h
    · exact inv.of_blocks h rfl rfl rfl rfl
  · exact h

theorem settle (k : Nat) : Keeps P (settle k) := by
  induction k with
  | zero => exact fun _ h => h
  | succ k ih =>
    intro s h
    rw [Machine.settle]
    split
    · exact h
    · exact ih _ (inv.takeOne s h)

theorem enterMoment : Keeps P enterMoment := fun s h => by
  have begun : P (beginMoment s) := inv.of_blocks h rfl rfl rfl rfl
  exact inv.of_blocks (inv.concludeIfQuiet _ (inv.settle 1024 _ begun)) rfl rfl rfl rfl

/-! ### Commands that wait for an event, an access or a body -/

theorem whenDue (e : Due) : Keeps P (whenDue e (Machine.takeDue e)) := fun s h => by
  unfold Machine.whenDue
  split
  · exact inv.epilogue _ (inv.takeDue e s h)
  · exact h

theorem whenDone (p : Purpose) {k : State → State} (hk : Keeps P k) : Keeps P (whenDone p k) := fun s h => by
  have freed : P (freeBus s) := inv.of_blocks h rfl rfl rfl rfl
  unfold Machine.whenDone
  split
  · exact h
  · split
    · split
      · exact inv.epilogue _ freed
      · exact inv.epilogue _ (hk _ freed)
    · exact h

theorem unlessAborted {k : State → State} (hk : Keeps P k) : Keeps P (unlessAborted k) := fun s h => by
  unfold Machine.unlessAborted
  split
  · exact inv.of_blocks h (by simp) (by simp) (by simp) (by simp)
  · exact hk s h

theorem whenBody (c : Instr) (b : OrderBody) {k : State → State} (hk : Keeps P k) : Keeps P (whenBody c b k) :=
  fun s h => by
    have held : Keeps P (holdBody b) := inv.of_carried fun s => .of_part (by simp) (by simp) (by simp) (by simp)
    unfold Machine.whenBody
    split
    · exact inv.whenDone .bodyRead (inv.unlessAborted (hk.comp held)) s h
    · exact h

end CallInvariant

end Sys2Proof.Machine
end

section
/-! Every command and an invariant of calls, and with it every step. -/

namespace Sys2Proof.Machine

/-! ### Registers, starts and stops -/

namespace CallsCarried

theorem of_modControl {f : Control → Control} {s : State} (h : (f s.control).part = s.control.part) :
    CallsCarried s (s.modControl f) := .of_part h rfl rfl rfl

/-- The part is in a state other than RUNNING after the change of its registers. -/
theorem leaves {f : Control → Control} {s : State} (h : (s.modControl f).running = false) :
    CallsCarried s (s.modControl f) := .of_stopped h rfl rfl (.refl _)

theorem runWritten1 (s : State) : CallsCarried s (runWritten1 s) := by
  unfold Machine.runWritten1
  split
  · exact .refl s
  · dsimp only
    split
    · exact .of_stopped rfl rfl rfl (.refl _)
    · exact .of_modControl rfl

theorem enterStopping (s : State) : CallsCarried s (enterStopping s) := by
  have stopped : CallsCarried s (stopOrder (dropDue (s.modControl fun c =>
      { c with part := .stopping, result := .runCleared, recordsDropped := 0, stopTornDown := false }))) :=
    .of_stopped (by simp) (by simp) (by simp) (by simp)
  unfold Machine.enterStopping unpark
  dsimp only
  split
  · exact stopped.trans (.beginPass false _)
  · exact stopped

theorem runWritten0 (s : State) : CallsCarried s (runWritten0 s) := by
  have written := CallsCarried.of_modControl (s := s) (f := fun c => { c with run := false }) rfl
  unfold Machine.runWritten0
  split
  · exact .refl s
  · refine written.trans ?_
    unfold runCleared
    split
    · exact .of_stopped rfl rfl rfl (.refl _)
    · exact .leaves rfl
    · exact .enterStopping _
    · exact .refl _
    · exact .refl _
    · exact .refl _

theorem writeRun (run : Bool) (s : State) : CallsCarried s (writeRun run s) := by
  unfold Machine.writeRun
  split
  · exact .runWritten1 s
  · exact .runWritten0 s

theorem writeAttnEnable (v : Bool) (s : State) : CallsCarried s (writeAttnEnable v s) := by
  unfold Machine.writeAttnEnable
  split
  · exact .refl s
  · exact .of_modControl rfl

theorem holdResetRelease (run attn : Bool) (s : State) : CallsCarried s (holdResetRelease run attn s) := by
  unfold Machine.holdResetRelease
  split
  · exact (CallsCarried.leaves rfl).trans (.writeRun run _)
  · exact .refl s

theorem writeStationBase (v : Word) (s : State) : CallsCarried s (writeStationBase v s) := by
  unfold Machine.writeStationBase
  split
  · exact .of_modControl rfl
  · exact .refl s

theorem readAttention (s : State) : CallsCarried s (readAttention s) := by
  refine .of_modControl ?_
  split <;> rfl

/-! ### Orders -/

theorem chooseResult (status : OrderStatus) (details : Details) (s : State) :
    CallsCarried s (chooseResult status details s) := .of_part (by simp) (by simp) (by simp) (by simp)

theorem onCurrent (f : CurrentOrder → CurrentOrder) (s : State) : CallsCarried s (onCurrent f s) :=
  .of_part rfl rfl rfl rfl

theorem orderDone (s : State) : CallsCarried s (orderDone s) := by
  have raised := CallsCarried.raise .orderDone s
  unfold Machine.orderDone
  split
  · exact .refl s
  · dsimp only
    split
    · exact raised.trans (.of_part rfl rfl rfl rfl)
    · exact raised.trans (.of_part (by simp) (by simp) (by simp) (by simp))

theorem readLine (b : OrderBody) (s : State) : CallsCarried s (readLine b s) := by
  unfold Machine.readLine
  split
  · exact .orderAccess _ _ _ _ _ s
  · exact .chooseResult _ _ s

theorem loadProfile (b : OrderBody) (s : State) : CallsCarried s (loadProfile b s) := by
  unfold Machine.loadProfile
  split
  · exact (CallsCarried.onCurrent _ s).trans (.orderAccess _ _ _ _ _ _)
  · exact .chooseResult _ _ s

theorem loadTones (b : OrderBody) (s : State) : CallsCarried s (loadTones b s) :=
  (CallsCarried.onCurrent _ s).trans (.orderAccess _ _ _ _ _ _)

theorem toneRead (bytes : ToneBytes) (s : State) : CallsCarried s (toneRead bytes s) := by
  unfold Machine.toneRead
  split
  · split
    · exact .chooseResult _ _ s
    · unfold tonePassed
      split
      · exact (CallsCarried.onCurrent _ s).trans (.orderAccess _ _ _ _ _ _)
      · exact .of_part (by simp) (by simp) (by simp) (by simp)
  · exact .refl s

theorem modBank (b : BankNo) (f : Bank → Bank) (s : State) : CallsCarried s (s.modBank b f) :=
  .of_part rfl rfl rfl rfl

theorem loadPlan (b : OrderBody) (s : State) : CallsCarried s (loadPlan b s) := by
  unfold Machine.loadPlan
  dsimp only
  split
  · split
    · exact .chooseResult _ _ s
    · exact ((CallsCarried.onCurrent _ s).trans (.modBank _ _ _)).trans (.orderAccess _ _ _ _ _ _)
  · exact .chooseResult _ _ s

theorem planRead (bytes : PlanBytes) (s : State) : CallsCarried s (planRead bytes s) := by
  unfold Machine.planRead
  split
  · unfold takePlanEntry
    dsimp only
    split
    · exact .of_part (by simp) (by simp) (by simp) (by simp)
    · split
      · exact (CallsCarried.modBank _ _ s).trans (.orderAccess _ _ _ _ _ _)
      · exact .of_part (by simp) (by simp) (by simp) (by simp)
  · exact .refl s

/-! ### Records -/

/-- R162, R163: the head draft leaves the FIFO. -/
theorem dropHead (s : State) : CallsCarried s (dropHead s) :=
  .of_blocks id rfl rfl (List.tail_sublist _)

theorem recordMarkRead (mark : Word) (s : State) : CallsCarried s (recordMarkRead mark s) := by
  have examined : CallsCarried s (s.modWriter fun w => { w with examined := w.examined + 1 }) :=
    .of_part rfl rfl rfl rfl
  have parked : ∀ t : State, CallsCarried t (t.modWriter fun w => { w with state := .parked, retry := false }) :=
    fun _ => .of_part rfl rfl rfl rfl
  unfold Machine.recordMarkRead
  dsimp only
  split
  · refine examined.trans ?_
    unfold writeBody
    split
    · exact .refl _
    · exact .of_part rfl rfl rfl rfl
  · split
    · exact examined.trans (.of_part rfl rfl rfl rfl)
    · refine examined.trans ?_
      unfold passFailed
      split
      · exact (CallsCarried.dropHead _).trans (.beginPass false _)
      · dsimp only
        split
        · exact parked _
        · exact (parked _).trans (.raise .recordParked _)

theorem recordFilled (s : State) : CallsCarried s (recordFilled s) := by
  have left : CallsCarried s (s.modWriter fun w =>
      { w with fifo := w.fifo.tail, sequence := w.sequence + 1, cursor := (w.chosen + 1) % w.slots }) :=
    .of_blocks id rfl rfl (List.tail_sublist _)
  exact (left.trans (.raise .recordWritten _)).trans (.beginPass false _)

/-! ### Frames -/

theorem classifyFrame (f : LineFrame) (s : State) : CallsCarried s (classifyFrame f s) := by
  have line : ∀ m, (Machine.classifyFrame f s).line m = s.line m ∨
      (Machine.classifyFrame f s).line m = (s.line m).mapDraft Draft.countGlitch := fun m => by
    simp only [Machine.classifyFrame, State.line_def, Table.get_ofFn]
    exact (ite_eq_or_eq _ _ _).symm
  refine ⟨⟨by simp, fun m => ?_⟩, by simp, by simp, fun m => ?_⟩
  · rcases line m with same | counted
    · exact .of_eq (by rw [same])
    · rw [counted]
      exact .mapDraft _ fun _ => rfl
  · rcases line m with same | counted
    · rw [same]
      exact id
    · obtain ⟨-, queue, -⟩ := LineCtx.mapDraft_kept Draft.countGlitch (s.line m)
      rw [counted, queue]
      exact id

theorem modSlotPath (f : SlotPath → SlotPath) (s : State) : CallsCarried s (s.modSlotPath f) :=
  .of_part rfl rfl rfl rfl

theorem useFrame (f : LineFrame) (s : State) : CallsCarried s (useFrame f s) := by
  have timed : CallsCarried s ((frameTime s).modSlotPath fun p => { p with frameInHand := some (.line f) }) :=
    .of_part (by simp) (by simp) (by simp) (by simp)
  unfold Machine.useFrame
  dsimp only
  split
  · exact timed.trans (.classifyFrame f _)
  · exact timed

theorem lineFrameArrives (f : LineFrame) (s : State) : CallsCarried s (lineFrameArrives f s) := by
  unfold Machine.lineFrameArrives
  split
  · exact (CallsCarried.modSlotPath _ s).trans (.useFrame f _)
  · split
    · exact ((CallsCarried.modSlotPath _ s).trans (.raise .lineHighway _)).trans (.useFrame f _)
    · exact .modSlotPath _ s

end CallsCarried

namespace CallInvariant

variable {P : State → Prop} (inv : CallInvariant P)
include inv

/-! ### Resets and starts -/

theorem powerOn : Keeps P powerOn := fun _ _ => inv.noCalls
  ⟨fun n => congrArg LineCtx.draft (Table.get_replicate LineCtx.reset n), rfl, fun g => Table.get_replicate _ g, rfl⟩

theorem holdReset : Keeps P holdReset := fun _ _ => inv.noCalls
  ⟨fun n => congrArg LineCtx.draft (Table.get_replicate LineCtx.reset n), rfl, fun g => Table.get_replicate _ g, rfl⟩

/-- R185: the part enters RUNNING without a call. -/
theorem headerRead (h : HeaderBytes) : Keeps P (headerRead h) := fun s hs => by
  unfold Machine.headerRead
  split
  · refine inv.carried (.of_stopped ?_ (by simp) (by simp) (by simp)) hs
    simp [failStart, raise_part]
  · refine inv.noCalls ⟨fun n => ?_, rfl, fun g => ?_, rfl⟩
    · simp [enterRunning, LineCtx.startRun, LineCtx.reset]
    · simp [enterRunning]

/-! ### The host-bus error -/

theorem stopOnError : Keeps P stopOnError := fun s h => by
  have taken : CallsCarried s (errorTaken s) :=
    .of_stopped (by rw [State.running_def, errorTaken_control]; rfl) (by simp [errorTaken, errorRaised])
      (by simp [errorTaken, errorRaised]) (by simp [errorTaken, errorRaised])
  rw [stopOnError_eq]
  exact inv.carried (.of_blocks (by simp [dropDrafts]) (by simp) (by simp) (List.nil_sublist _))
    (inv.stopLines _ (inv.carried taken h))

theorem hostBusError : Keeps P hostBusError := fun s h => by
  have freed : P (freeBus s) := inv.of_blocks h rfl rfl rfl rfl
  unfold Machine.hostBusError
  split
  · exact h
  · split
    · unfold abandonedError
      split
      · exact inv.carried (.raise .memoryError _) freed
      · exact freed
    · unfold busError
      split
      · refine inv.carried (.of_stopped ?_ (by simp) (by simp) (by simp)) freed
        simp [startOnError, raise_part]
      · exact inv.stopOnError _ (inv.of_blocks freed rfl rfl rfl rfl)
      · exact inv.stopOnError _ freed
      · exact freed
      · exact freed
      · exact freed

/-! ### The highways -/

theorem loseLines : Keeps P loseLines := Keeps.eachLine fun n s h => by
  have lost : Keeps P fun t => t.modClassifier n Classifier.lose := inv.of_carried (.modClassifier n _)
  unfold loseLine
  split
  · exact h
  · dsimp only
    split
    · exact lost _ (inv.teardown n .highwayLoss s h)
    · exact lost s h

theorem lineWatchExpires : Keeps P lineWatchExpires := fun s h => by
  have raised := inv.carried (((CallsCarried.modSlotPath (fun p => { p with lineHw := p.lineHw.lose }) s)).trans
    (.raise .lineHighway _)) h
  have declared : P (declareLineLoss s) := by
    unfold declareLineLoss
    dsimp only
    split
    · exact inv.loseLines _ raised
    · exact raised
  unfold Machine.lineWatchExpires
  split
  · rw [loseLineHighway_eq]
    split
    · exact inv.of_blocks declared (by simp) (by simp) (by simp) (by simp)
    · exact declared
  · exact inv.carried (.modSlotPath _ s) h

theorem updateFlags (proceed incoming : Table Config.lines Bool) : Keeps P (updateFlags proceed incoming) :=
  fun s h => Keeps.foldl inv.proceedChanged _ _ (inv.carried (.modSlotPath _ s) h)

theorem returnFrameArrives (f : ReturnFrame) : Keeps P (returnFrameArrives f) := fun s h => by
  unfold Machine.returnFrameArrives
  split
  · exact inv.updateFlags _ _ _ (inv.carried (.modSlotPath _ s) h)
  · split
    · exact inv.updateFlags _ _ _ (inv.carried ((CallsCarried.modSlotPath _ s).trans (.raise .returnHighway _)) h)
    · exact inv.carried (.modSlotPath _ s) h

theorem returnWatchExpires : Keeps P returnWatchExpires := fun s h => by
  unfold Machine.returnWatchExpires
  split
  · exact inv.updateFlags _ _ _ (inv.carried ((CallsCarried.modSlotPath _ s).trans (.raise .returnHighway _)) h)
  · exact inv.carried (.modSlotPath _ s) h

/-! ### The orders that reach lines -/

theorem abortOrder : Keeps P abortOrder := fun s h => by
  have next : P (abortAtNextStep s) := inv.of_blocks h (by simp) (by simp) (by simp) (by simp)
  unfold Machine.abortOrder
  split
  · exact h
  · split
    · exact next
    · exact next
    · split
      · exact inv.abortSendTones _ _ s h
      all_goals exact h
    all_goals exact h

theorem setLine (b : OrderBody) : Keeps P (setLine b) := fun s h => by
  have bad : ∀ i, P (badParameter i s) := fun i => inv.carried (.chooseResult _ _ s) h
  have applied : ∀ n x, P (applySetting n x s) := fun n x => by
    have written : P (s.modSettings fun st => { st with lines := st.lines.set n x }) := inv.of_blocks h rfl rfl rfl rfl
    unfold applySetting applyEnable
    split
    · exact inv.carried ((CallsCarried.modLine_kept _ n rfl rfl).trans (.modClassifier n _ _)) written
    · exact written
    · exact written
    · exact inv.carried (.modClassifier n _ _) (inv.teardown n .disabled _ written)
  unfold Machine.setLine
  split
  · split
    · exact bad _
    · split
      · split
        · exact bad _
        · exact inv.carried (.chooseResult _ _ _) (applied _ _)
      · exact bad _
  · exact bad _

theorem acceptSendTones (n : LineNo) (cls : ServiceClass) (slot : Nat) (symbols : List Tone) :
    Keeps P (acceptSendTones n cls slot symbols) := fun s h => by
  have queued : CallsCarried s (s.modLine n fun c => { c with queue := c.queue ++ orderEntries slot symbols }) :=
    .modLine s n (.of_eq rfl) fun queued empty => queued (List.append_eq_nil_iff.1 empty).1
  have left : ∀ t, CallsCarried t (leaveSeized n t) := fun t => by
    unfold leaveSeized
    split
    · exact (CallsCarried.modLine_kept _ n rfl rfl).trans (.enterConverting n _)
    · exact .refl t
  have zeroed := (queued.trans (left _)).trans (.modLine_kept _ n (f := fun c => c.zeroTimer .quiet) rfl rfl)
  exact inv.afterEvent n _ (inv.formClassAfresh n _ (inv.of_blocks (inv.carried zeroed h) rfl rfl rfl rfl))

theorem sendTones (b : OrderBody) : Keeps P (sendTones b) := fun s h => by
  have answers : ∀ status details, P (Machine.chooseResult status details s) := fun _ _ =>
    inv.carried (.chooseResult _ _ s) h
  have on : ∀ n cls symbols, P (sendTonesOn n cls symbols s) := fun n cls symbols => by
    unfold sendTonesOn
    dsimp only
    split
    iterate 5 exact answers _ _
    all_goals
      split
      · exact answers _ _
      · exact inv.acceptSendTones _ _ _ _ s h
  unfold Machine.sendTones
  split
  · split
    · exact answers _ _
    · split
      · split
        · exact on _ _ _
        · exact answers _ _
      · exact answers _ _
  · exact answers _ _

theorem writeRegister (r : Register) (v : Word) : Keeps P (writeRegister r v) := by
  cases r with
  | control =>
    intro s h
    have enabled := inv.carried (.writeAttnEnable (v.getLsbD 3) s) h
    have drawn := inv.of_blocks (t := (Machine.writeAttnEnable (v.getLsbD 3) s).draw) enabled rfl rfl rfl rfl
    simp only [Machine.writeRegister, writeControl, abortAndRun]
    split
    · split
      · exact h
      · exact inv.carried (.holdResetRelease _ _ s) h
    · split
      · exact inv.holdReset s h
      · split
        · split
          · exact inv.abortOrder _ enabled
          · exact enabled
        · split
          · split
            · exact inv.carried (.writeRun _ _) (inv.abortOrder _ drawn)
            · exact inv.abortOrder _ (inv.carried (.writeRun _ _) drawn)
          · exact inv.carried (.writeRun _ _) enabled
  | state => exact fun s h => h
  | stationBase => exact inv.of_carried (.writeStationBase v)
  | attention => exact fun s h => h
  | attentionMask => exact inv.of_carried fun s => .of_modControl (f := fun c => { c with attentionMask := v &&& 0x3FE }) rfl

/-! ### Every command -/

/-- An effect on the order unit, the settings, the plan and the port alone. -/
theorem of_frame {k : State → State} (control : ∀ s, (k s).control = s.control) (lines : ∀ s, (k s).lines = s.lines)
    (pool : ∀ s, (k s).pool = s.pool) (writer : ∀ s, (k s).writer = s.writer) : Keeps P k :=
  inv.of_carried fun s => .of_part (by rw [control]) (lines s) (pool s) (by rw [writer])

/-- Every command has one effect, which keeps an invariant of calls. -/
theorem exec (c : Instr) : ∃ k : State → State, (∀ s, exec c s = .next (k s)) ∧ Keeps P k := by
  have ends : ∀ {k : State → State}, Keeps P k → Keeps P fun s => Machine.epilogue (k s) :=
    fun hk s h => inv.epilogue _ (hk s h)
  have moment : ∀ {k : State → State}, Keeps P k → Keeps P fun s => Machine.epilogue (k (Machine.enterMoment s)) :=
    fun hk => ends (hk.comp inv.enterMoment)
  cases c with
  | powerOn => exact ⟨_, fun _ => rfl, inv.powerOn⟩
  | holdReset => exact ⟨_, fun _ => rfl, ends inv.holdReset⟩
  | holdResetRelease run attn => exact ⟨_, fun _ => rfl, ends (inv.of_carried (.holdResetRelease run attn))⟩
  | runWritten1 => exact ⟨_, fun _ => rfl, ends (inv.of_carried .runWritten1)⟩
  | runWritten0 => exact ⟨_, fun _ => rfl, ends (inv.of_carried .runWritten0)⟩
  | abortOrder => exact ⟨_, fun _ => rfl, ends inv.abortOrder⟩
  | attnEnable v => exact ⟨_, fun _ => rfl, inv.of_carried (.writeAttnEnable v)⟩
  | stationBaseWrite v => exact ⟨_, fun _ => rfl, inv.of_carried (.writeStationBase v)⟩
  | attentionRead => exact ⟨_, fun _ => rfl, inv.of_carried .readAttention⟩
  | registerWrite r v => exact ⟨_, fun _ => rfl, ends (inv.writeRegister r v)⟩
  | lineFrame f => exact ⟨_, fun _ => rfl, moment (inv.of_carried (.lineFrameArrives f))⟩
  | referenceFrameTime =>
    refine ⟨_, fun _ => rfl, fun s h => ?_⟩
    split
    · exact moment (inv.of_frame (k := referenceTime) (by simp) (by simp) (by simp) (by simp)) s h
    · exact h
  | returnFrame f => exact ⟨_, fun _ => rfl, ends (inv.returnFrameArrives f)⟩
  | frameWatchExpiry h =>
    cases h with
    | line => exact ⟨_, fun _ => rfl, moment inv.lineWatchExpires⟩
    | ret => exact ⟨_, fun _ => rfl, ends inv.returnWatchExpires⟩
  | millisecondEvent => exact ⟨_, fun _ => rfl, inv.whenDue .millisecond⟩
  | loopChangeAccepted n => exact ⟨_, fun _ => rfl, inv.whenDue (.loopChange n)⟩
  | longOpenEntry n => exact ⟨_, fun _ => rfl, inv.whenDue (.longOpen n)⟩
  | seizure n => exact ⟨_, fun _ => rfl, inv.whenDue (.seizure n)⟩
  | clear n => exact ⟨_, fun _ => rfl, inv.whenDue (.clear n)⟩
  | digitComplete n => exact ⟨_, fun _ => rfl, inv.whenDue (.digit n)⟩
  | firstDigitTimerExpiry n => exact ⟨_, fun _ => rfl, inv.whenDue (.timer .firstDigit n)⟩
  | completeTimerExpiry n => exact ⟨_, fun _ => rfl, inv.whenDue (.timer .complete n)⟩
  | quietTimerExpiry n => exact ⟨_, fun _ => rfl, inv.whenDue (.timer .quiet n)⟩
  | proceedTimerExpiry n => exact ⟨_, fun _ => rfl, inv.whenDue (.timer .proceed n)⟩
  | generatorWaitTimerExpiry n => exact ⟨_, fun _ => rfl, inv.whenDue (.timer .generatorWait n)⟩
  | escapeTimerExpiry n => exact ⟨_, fun _ => rfl, inv.whenDue (.timer .escape n)⟩
  | muteTailExpiry n => exact ⟨_, fun _ => rfl, inv.whenDue (.timer .muteTail n)⟩
  | flashOutExpiry n => exact ⟨_, fun _ => rfl, inv.whenDue (.timer .flashOut n)⟩
  | onExpiry g => exact ⟨_, fun _ => rfl, inv.whenDue (.onExpiry g)⟩
  | gapExpiry g => exact ⟨_, fun _ => rfl, inv.whenDue (.gapExpiry g)⟩
  | holdExpiry g => exact ⟨_, fun _ => rfl, inv.whenDue (.holdExpiry g)⟩
  | sweepEvent => exact ⟨_, fun _ => rfl, inv.whenDue .sweep⟩
  | orderMarkReadDone m =>
    exact ⟨_, fun _ => rfl, inv.whenDone _ (inv.of_frame (by simp) (by simp) (by simp) (by simp))⟩
  | takenWriteDone =>
    exact ⟨_, fun _ => rfl, inv.whenDone _ (inv.unlessAborted (inv.of_frame (by simp) (by simp) (by simp) (by simp)))⟩
  | unknownOrder b => exact ⟨_, fun _ => rfl, inv.whenBody _ b (inv.of_carried (.chooseResult _ _))⟩
  | nop b => exact ⟨_, fun _ => rfl, inv.whenBody _ b (inv.of_carried (.chooseResult _ _))⟩
  | identify b => exact ⟨_, fun _ => rfl, inv.whenBody _ b (inv.of_carried (.orderAccess _ _ _ _ _))⟩
  | identifyWriteDone =>
    exact ⟨_, fun _ => rfl, inv.whenDone _ (inv.of_frame (by simp) (by simp) (by simp) (by simp))⟩
  | readLine b => exact ⟨_, fun _ => rfl, inv.whenBody _ b (inv.of_carried (.readLine b))⟩
  | readLineWriteDone =>
    exact ⟨_, fun _ => rfl, inv.whenDone _ (inv.of_frame (by simp) (by simp) (by simp) (by simp))⟩
  | setLine b => exact ⟨_, fun _ => rfl, inv.whenBody _ b (inv.setLine b)⟩
  | loadProfile b => exact ⟨_, fun _ => rfl, inv.whenBody _ b (inv.of_carried (.loadProfile b))⟩
  | profileReadDone r =>
    exact ⟨_, fun _ => rfl, inv.whenDone _ (inv.unlessAborted (inv.of_frame (by simp) (by simp) (by simp) (by simp)))⟩
  | loadTones b => exact ⟨_, fun _ => rfl, inv.whenBody _ b (inv.of_carried (.loadTones b))⟩
  | toneEntryReadDone r =>
    exact ⟨_, fun _ => rfl, inv.whenDone _ (inv.unlessAborted (inv.of_carried (.toneRead r)))⟩
  | loadPlan b => exact ⟨_, fun _ => rfl, inv.whenBody _ b (inv.of_carried (.loadPlan b))⟩
  | planEntryReadDone r =>
    exact ⟨_, fun _ => rfl, inv.whenDone _ (inv.unlessAborted (inv.of_carried (.planRead r)))⟩
  | switchPlan b =>
    exact ⟨_, fun _ => rfl, inv.whenBody _ b (inv.of_frame (by simp) (by simp) (by simp) (by simp))⟩
  | sendTones b => exact ⟨_, fun _ => rfl, inv.whenBody _ b (inv.sendTones b)⟩
  | orderResultWriteDone =>
    exact ⟨_, fun _ => rfl, inv.whenDone _ (inv.of_frame (by simp) (by simp) (by simp) (by simp))⟩
  | orderDoneWriteDone => exact ⟨_, fun _ => rfl, inv.whenDone _ (inv.of_carried .orderDone)⟩
  | touchedWriteDone => exact ⟨fun s => Machine.whenDone .touchedWrite (touchedWritten (windowInFlight s)) s, fun _ => rfl,
      fun s => inv.whenDone _ (inv.of_frame (by simp) (by simp) (by simp) (by simp)) s⟩
  | recordMarkReadDone m => exact ⟨_, fun _ => rfl, inv.whenDone _ (inv.of_carried (.recordMarkRead m))⟩
  | recordBodyWriteDone =>
    exact ⟨_, fun _ => rfl, inv.whenDone _ (inv.of_carried fun _ => .of_part rfl rfl rfl rfl)⟩
  | recordMarkWriteDone => exact ⟨_, fun _ => rfl, inv.whenDone _ (inv.of_carried .recordFilled)⟩
  | headerReadDone h => exact ⟨_, fun _ => rfl, inv.whenDone _ (inv.headerRead h)⟩
  | hostBusError => exact ⟨_, fun _ => rfl, ends inv.hostBusError⟩

/-- An invariant of calls is kept by every step: of each command's effect, and of the event an idle part takes. -/
theorem step {s t : State} (h : P s) (ht : step s = .next t) : P t := by
  unfold Machine.step at ht
  split at ht
  · cases ht
    exact inv.concludeIfQuiet _ (inv.takeOne s h)
  · next c rest _ =>
    obtain ⟨k, hk, keeps⟩ := inv.exec c
    rw [hk] at ht
    cases ht
    exact keeps _ (inv.of_blocks h rfl rfl rfl rfl)

end CallInvariant

end Sys2Proof.Machine
end

section
/-! The FIFO of closed drafts holds one draft of a line at most, and none of a line whose draft is open (R149, R153, R156):
an invariant of calls. -/

namespace Sys2Proof.Machine

/-! ### Opening and closing a draft -/

theorem closedWaiting_eq_false_iff {s : State} {n : LineNo} :
    closedWaiting s n = false ↔ ∀ d ∈ s.writer.fifo, d.draft.line ≠ n := by
  simp [closedWaiting]

theorem DraftsCarried.fifoLegal {s t : State} (h : DraftsCarried s t) (hs : s.FifoLegal) : t.FifoLegal := by
  obtain ⟨once, opened⟩ := hs
  refine ⟨once.sublist (h.fifo.map _), fun n x hx => ?_⟩
  obtain ⟨y, hy, same⟩ := h.drafts n x hx
  obtain ⟨own, free⟩ := opened n y hy
  rw [closedWaiting_eq_false_iff] at free ⊢
  exact ⟨same.symm.trans own, fun d hd => free d (h.fifo.subset hd)⟩

/-- R149, R154: a draft opens only where none of the line waits. -/
theorem openDraft_fifoLegal (n : LineNo) : Keeps State.FifoLegal (openDraft n) := fun s ⟨once, opened⟩ => by
  have own : ∀ x, ((openDraft n s).line n).draft = .opened x → x.line = n ∧ closedWaiting s n = false := fun x hx => by
    have draft : ((openDraft n s).line n).draft
        = if closedWaiting s n then .unrecorded else .opened (newDraft s n) := by
      rw [openDraft, State.modLine_line]
      dsimp only
      split <;> split <;> rfl
    rw [draft] at hx
    split at hx
    · cases hx
    · next free =>
      cases hx
      exact ⟨rfl, Bool.eq_false_iff.2 free⟩
  refine ⟨once, fun m x hx => ?_⟩
  by_cases e : m = n
  · rw [e] at hx ⊢
    exact own x hx
  · rw [openDraft, State.modLine_line_of_ne _ _ e] at hx
    exact opened m x hx

/-- R153, R156: a draft that closes joins the FIFO, where its line has no other. -/
theorem closeDraft_fifoLegal (n : LineNo) (k : CloseCause) : Keeps State.FifoLegal (closeDraft n k) := fun s hs => by
  have closed := (closeDraft_closes n k s).draft
  unfold closeDraft at closed ⊢
  split
  · exact hs
  · exact (DraftsCarried.modLine s n (.of_none rfl)).fifoLegal hs
  · next d hd =>
    obtain ⟨once, opened⟩ := hs
    obtain ⟨own, free⟩ := opened n d hd
    rw [closedWaiting_eq_false_iff] at free
    simp only [hd] at closed
    refine ⟨?_, fun m x hx => ?_⟩
    · rw [joinFifo_fifo, List.map_append, List.nodup_append]
      refine ⟨once, List.nodup_singleton _, fun a ha b hb => ?_⟩
      obtain ⟨x, hx, rfl⟩ := List.mem_map.1 ha
      rw [List.mem_singleton.1 hb]
      exact fun same => free x hx (same.trans own)
    · have other : m ≠ n := fun e => by
        rw [e, closed] at hx
        cases hx
      have joined : ∀ (c : ClosedDraft) (t : State), (joinFifo c t).line m = t.line m := fun c t => by simp
      rw [joined, State.modLine_line_of_ne _ _ other] at hx
      obtain ⟨line, unclosed⟩ := opened m x hx
      rw [closedWaiting_eq_false_iff] at unclosed ⊢
      refine ⟨line, fun y hy => ?_⟩
      rw [joinFifo_fifo, List.mem_append, List.mem_singleton] at hy
      rcases hy with old | rfl
      · exact unclosed y old
      · exact fun same => other (same.symm.trans own)

end Sys2Proof.Machine
end

section
/-! What the pool, the line controller and the generators do to drafts: they open none, and close one only by closing it
(R121 to R125). The FIFO's invariant is one of calls. -/

namespace Sys2Proof.Machine

namespace NumbersKept

theorem reclassWaiting (n : LineNo) (k : ServiceClass) (s : State) : NumbersKept s (reclassWaiting n k s) := by
  unfold Machine.reclassWaiting
  split
  · exact .refl s
  · dsimp only
    split
    · exact (startGeneratorWait n k _).after rfl
    · split
      · exact (modLine _ n fun c => .setTimer c _ _).after rfl
      · exact .of_lines rfl

theorem reclassGen (n : LineNo) (k : ServiceClass) (s : State) : NumbersKept s (reclassGen n k s) := .of_lines (by simp)

theorem formClassAfresh (n : LineNo) (s : State) : NumbersKept s (formClassAfresh n s) :=
  (reclassWaiting n _ s).trans (reclassGen n _ _)

end NumbersKept

/-! ### Where a draft may close -/

/-- An effect that opens and closes no draft. -/
theorem keeps_fifoLegal {k : State → State} (h : ∀ s, DraftsCarried s (k s)) : Keeps State.FifoLegal k :=
  fun s => (h s).fifoLegal

theorem enterOn_fifoLegal (g : GenNo) : Keeps State.FifoLegal (enterOn g) :=
  keeps_fifoLegal fun s => .of_numbers (.enterOn g s) (by simp)

theorem releaseGen_fifoLegal (g : GenNo) : Keeps State.FifoLegal (releaseGen g) :=
  keeps_fifoLegal fun _ => .of_lines rfl (.refl _)

theorem modGen_fifoLegal (g : GenNo) (f : Generator → Generator) : Keeps State.FifoLegal fun s => s.modGen g f :=
  keeps_fifoLegal fun _ => .of_lines rfl (.refl _)

theorem formClassAfresh_fifoLegal (n : LineNo) : Keeps State.FifoLegal (formClassAfresh n) :=
  keeps_fifoLegal fun s => .of_numbers (.formClassAfresh n s) (by simp)

theorem endNumber_fifoLegal (n : LineNo) : Keeps State.FifoLegal (endNumber n) :=
  fun s h => (DraftsCarried.modLine _ n (.of_eq rfl)).fifoLegal (closeDraft_fifoLegal n .complete s h)

theorem releaseEarly_fifoLegal (g : GenNo) (n : LineNo) : Keeps State.FifoLegal (releaseEarly g n) := fun s h => by
  unfold releaseEarly
  split
  · exact endNumber_fifoLegal n _ (releaseGen_fifoLegal g s h)
  · exact releaseGen_fifoLegal g s h

theorem arbitrate_fifoLegal (k : Nat) : Keeps State.FifoLegal (arbitrate k) :=
  keeps_fifoLegal fun s => .of_numbers (.arbitrate k s) (by simp)

theorem preempt_fifoLegal (g : GenNo) : Keeps State.FifoLegal (preempt g) := fun s h => by
  unfold preempt
  split
  · exact releaseGen_fifoLegal g s h
  · next n _ =>
    have released := releaseEarly_fifoLegal g n s h
    dsimp only
    split
    · exact keeps_fifoLegal (fun t => .of_numbers (.joinWait n _ true t) (by simp)) _ released
    · exact released

theorem preemptAll_fifoLegal (k : Nat) : Keeps State.FifoLegal (preemptAll k) := by
  induction k with
  | zero => exact fun _ h => h
  | succ k ih =>
    intro s h
    rw [preemptAll]
    split
    · split
      · exact ih _ (arbitrate_fifoLegal _ _ (preempt_fifoLegal _ s h))
      · exact h
    · exact h

theorem poolRun_fifoLegal : Keeps State.FifoLegal poolRun := fun s h => by
  unfold poolRun
  split
  · exact preemptAll_fifoLegal _ _ (arbitrate_fifoLegal _ s h)
  · exact h

/-- R112: the checks after an event open no draft. -/
theorem afterEvent_fifoLegal (n : LineNo) : Keeps State.FifoLegal (afterEvent n) := fun s h => by
  have raised : Keeps State.FifoLegal (raiseRequest n) := fun t ht => by
    unfold raiseRequest
    split
    · exact keeps_fifoLegal (fun u => .of_numbers (.joinWait n _ false u) (by simp)) t ht
    · exact ht
  have woken := (DraftsCarried.of_numbers (.wakeHold n s) (by simp)).fifoLegal h
  have withdrawn := (DraftsCarried.of_numbers (.withdrawIfNot n _) (by simp)).fifoLegal woken
  have watched := (DraftsCarried.of_numbers (.watchProceed n _) (by simp)).fifoLegal (raised _ withdrawn)
  unfold afterEvent
  split
  · exact poolRun_fifoLegal _ watched
  · exact h

/-! ### A teardown and a change of PROCEED -/

theorem givenUp_carries (n : LineNo) (s : State) : DraftsCarried s (givenUp n s) := by
  have emptied : DraftsCarried s (s.modLine n fun c => { c with queue := [] }) := .modLine s n (.of_eq rfl)
  have released : ∀ t, DraftsCarried t (releaseOf n t) := fun t => .of_lines (by simp) (by simp)
  exact (emptied.trans (.of_numbers (.leaveWait n _) (by simp))).trans (released _)

theorem emptiedLine_carries (n : LineNo) (k : CloseCause) (s : State) : DraftsCarried s (emptiedLine n k s) := by
  have ended : DraftsCarried s (endSendTones n k (givenUp n s)) :=
    (givenUp_carries n s).trans (.of_lines (by simp) (by simp))
  exact (ended.trans (CallsCarried.unbindBank n _).toDraftsCarried).trans (.modLine _ n (.of_eq rfl))

/-- R82: a teardown closes the draft of its line, and no other. -/
theorem teardown_fifoLegal (n : LineNo) (k : CloseCause) : Keeps State.FifoLegal (teardown n k) := fun s h => by
  have closed := closeDraft_fifoLegal n k _ ((emptiedLine_carries n k s).fifoLegal h)
  have entered : ∀ c : LineCtx, (c.enterAfter k.stateAfter).draft = c.draft := fun c => by
    cases k.stateAfter <;> rfl
  rw [teardown_eq, tornDown, teardownSteps_eq]
  refine afterEvent_fifoLegal n _ ((DraftsCarried.modLine _ n (.of_eq (entered _))).fifoLegal ?_)
  exact (DraftsCarried.modLine _ n (.of_eq rfl)).fifoLegal closed

theorem cutByProceed_fifoLegal (n : LineNo) : Keeps State.FifoLegal (cutByProceed n) := fun s h => by
  unfold cutByProceed
  split
  · exact h
  · split
    · refine releaseGen_fifoLegal _ _ ((CallsCarried.inDraft s n ?_).toDraftsCarried.fifoLegal h)
      exact fun _ => rfl
    · exact releaseEarly_fifoLegal _ n s h

theorem proceedChanged_fifoLegal (n : LineNo) : Keeps State.FifoLegal (proceedChanged n) := fun s h => by
  unfold proceedChanged
  split
  · split
    · exact afterEvent_fifoLegal n _ (cutByProceed_fifoLegal n s h)
    · exact afterEvent_fifoLegal n s h
  · exact h

/-! ### The end of a SEND_TONES, and the generators at work -/

theorem abortSendTones_fifoLegal (n : LineNo) (c : CurrentOrder) : Keeps State.FifoLegal (abortSendTones n c) :=
  fun s h => by
    have left : DraftsCarried s (s.modLine n fun x => { x with queue := dropUnbegun x.queue }) :=
      .modLine s n (.of_eq rfl)
    have dropped := left.fifoLegal h
    unfold abortSendTones
    dsimp only
    split
    · exact (DraftsCarried.of_lines (by simp) (by simp)).fifoLegal dropped
    · refine afterEvent_fifoLegal n _ (formClassAfresh_fifoLegal n _ ?_)
      exact (DraftsCarried.of_lines (by simp) (by simp)).fifoLegal dropped

theorem orderEntrySent_fifoLegal (n : LineNo) : Keeps State.FifoLegal (orderEntrySent n) := fun s h => by
  unfold orderEntrySent
  dsimp only
  split
  · exact (DraftsCarried.of_lines (by simp) (by simp)).fifoLegal h
  · exact formClassAfresh_fifoLegal n _ ((DraftsCarried.of_lines (by simp) (by simp)).fifoLegal h)

theorem headSent_fifoLegal (n : LineNo) : Keeps State.FifoLegal (headSent n) := fun s h => by
  unfold headSent
  split
  · exact h
  · next e rest _ =>
    have left := DraftsCarried.modLine s n (f := fun c => { c with
      queue := rest
      decision := if c.state = .sending then c.decision.map Decision.countSent else c.decision }) (.of_eq rfl)
    have counts : ∀ t, CallsCarried t (inDraft n Draft.countSent t) := fun t => .inDraft t n fun _ => rfl
    have counted := (left.trans (counts _).toDraftsCarried).fifoLegal h
    dsimp only
    split
    · exact orderEntrySent_fifoLegal n _ counted
    · exact counted

theorem onExpires_fifoLegal (g : GenNo) : Keeps State.FifoLegal (onExpires g) := fun s h => by
  unfold onExpires
  split
  · exact h
  · exact afterEvent_fifoLegal _ _ (modGen_fifoLegal g _ _ (headSent_fifoLegal _ s h))

theorem gapExpires_fifoLegal (g : GenNo) : Keeps State.FifoLegal (gapExpires g) := fun s h => by
  unfold gapExpires
  split
  · exact h
  · next n _ =>
    refine afterEvent_fifoLegal n _ ?_
    split
    · split
      · exact endNumber_fifoLegal n _ (releaseGen_fifoLegal g s h)
      · exact enterOn_fifoLegal g s h
    · split
      · exact enterOn_fifoLegal g s h
      · split
        · exact modGen_fifoLegal g _ s h
        · exact releaseGen_fifoLegal g s h

theorem holdExpires_fifoLegal (g : GenNo) : Keeps State.FifoLegal (holdExpires g) := fun s h => by
  unfold holdExpires
  split
  · exact h
  · exact afterEvent_fifoLegal _ _ (releaseGen_fifoLegal g s h)

theorem synthesize_fifoLegal (g : GenNo) : Keeps State.FifoLegal (synthesize g) := fun s h => by
  have clipped : Keeps State.FifoLegal (setClip g) := fun t ht => by
    have marked := modGen_fifoLegal g (fun x => { x with clip := true }) t ht
    unfold setClip
    dsimp only
    split
    · refine (CallsCarried.inDraft _ _ ?_).toDraftsCarried.fifoLegal marked
      exact fun _ => rfl
    · exact marked
  have advanced := (DraftsCarried.of_lines (s := s) (t := s.modVoice g Voice.advance) rfl (.refl _)).fifoLegal h
  unfold synthesize
  dsimp only
  split
  · split
    · exact clipped _ advanced
    · exact advanced
  · exact h

theorem takeMillisecond_fifoLegal : Keeps State.FifoLegal takeMillisecond := keeps_fifoLegal fun s => by
  unfold takeMillisecond
  dsimp only
  split
  · exact ⟨.refl _, fun m => .of_eq (by simp [tickTimers, LineCtx.tick, State.line_def])⟩
  · exact .of_lines rfl (.refl _)

/-- R149, R153, R156: the FIFO's invariant is one of calls. -/
theorem fifoLegal_invariant : CallInvariant State.FifoLegal where
  noCalls := fun h => ⟨by rw [h.fifo]; exact List.nodup_nil, fun n d hd => by
    rw [h.drafts n] at hd
    cases hd⟩
  carried := fun h => h.toDraftsCarried.fifoLegal
  openDraft := openDraft_fifoLegal
  closeDraft := closeDraft_fifoLegal
  afterEvent := afterEvent_fifoLegal
  teardown := teardown_fifoLegal
  proceedChanged := proceedChanged_fifoLegal
  formClassAfresh := formClassAfresh_fifoLegal
  abortSendTones := abortSendTones_fifoLegal
  onExpires := onExpires_fifoLegal
  gapExpires := gapExpires_fifoLegal
  holdExpires := holdExpires_fifoLegal
  synthesize := synthesize_fifoLegal
  takeMillisecond := takeMillisecond_fifoLegal

end Sys2Proof.Machine
end

section
/-! The pool's invariant is one of calls (R112, R114, R115). -/

namespace Sys2Proof.Machine

/-! ### What keeps the pool's invariant -/

/-- The invariant reads of a generator its state, its line and the class it serves. -/
theorem Pool.Sound.of_gens {p q : Pool} {queued : LineNo → Prop} (h : p.Sound queued)
    (gens : ∀ g, (q.gens.get g).state = (p.gens.get g).state ∧ (q.gens.get g).attached = (p.gens.get g).attached ∧
      (q.gens.get g).served = (p.gens.get g).served)
    (waits : q.waitList = p.waitList) (joins : q.joins = p.joins) : q.Sound queued := by
  have state : ∀ g, (q.gens.get g).state = (p.gens.get g).state := fun g => (gens g).1
  have attached : ∀ g, (q.gens.get g).attached = (p.gens.get g).attached := fun g => (gens g).2.1
  have served : ∀ g, (q.gens.get g).served = (p.gens.get g).served := fun g => (gens g).2.2
  refine ⟨fun g k n => ?_, fun g => ?_, waits ▸ h.lines, waits ▸ h.joins, waits ▸ h.ordered, fun e he => ?_⟩
  · rw [attached, attached]
    exact h.one g k n
  · rw [state, attached, served]
    exact h.free g
  · obtain ⟨joined, unattached, hasSymbols⟩ := h.waits e (waits ▸ he)
    exact ⟨joins ▸ joined, fun g => attached g ▸ unattached g, hasSymbols⟩

namespace State.PoolSound

variable {s : State} {but : LineNo → Prop}

/-- The invariant, while the event of a line is being taken. -/
theorem weaken (h : s.PoolSound fun _ => False) (n : LineNo) : s.PoolSound (· = n) :=
  h.congr rfl fun _ _ a => .inr (a.resolve_right id)

/-- R115: a generator attached to a line is not FREE. -/
theorem state_ne_free (h : s.PoolSound but) {g : GenNo} {n : LineNo} (hg : (s.gen g).attached = some n) :
    (s.gen g).state ≠ .free := fun free => by
  obtain ⟨attached, -⟩ := h.free g
  rw [State.gen_def, attached.1 free] at hg
  cases hg

/-- An attached generator enters another state than FREE. -/
theorem modGen_state (h : s.PoolSound but) {g : GenNo} {n : LineNo} (hg : (s.gen g).attached = some n) {st : GenState}
    (hst : st ≠ .free) (t : Timer) : (s.modGen g fun x => { x with state := st, timer := t }).PoolSound but :=
  Pool.Sound.keepGen h rfl ⟨fun free => absurd free hst, fun free => absurd free (h.state_ne_free hg)⟩ .rfl

end State.PoolSound

/-- An effect that keeps the part state and the invariant while RUNNING. -/
theorem State.PoolLegal.keep {s t : State} (h : s.PoolLegal) (control : t.control = s.control)
    (k : s.PoolSound (fun _ => False) → t.PoolSound fun _ => False) : t.PoolLegal :=
  (State.poolLegal_iff t).2 fun r => k ((State.poolLegal_iff s).1 h (by rwa [State.running_def, control] at r))

/-- The pool is as it was, and no queue is emptied. -/
theorem State.PoolLegal.of_queues {s t : State} (h : s.PoolLegal) (running : t.running = true → s.running = true)
    (pool : t.pool = s.pool) (queues : ∀ m, (s.line m).queue ≠ [] → (t.line m).queue ≠ []) : t.PoolLegal :=
  (State.poolLegal_iff t).2 fun r =>
    ((State.poolLegal_iff s).1 h (running r)).congr pool fun _ _ a => .inr (queues _ (a.resolve_right id))

/-- The event of a line whose queue it may have emptied, with the checks after it. -/
theorem State.PoolLegal.afterEvent {s t : State} (h : s.PoolLegal) (n : LineNo) (control : t.control = s.control)
    (k : s.PoolSound (· = n) → t.PoolSound (· = n)) : (afterEvent n t).PoolLegal :=
  afterEvent_poolLegal fun r =>
    k (((State.poolLegal_iff s).1 h (by rwa [State.running_def, control] at r)).weaken n)

theorem openDraft_poolLegal (n : LineNo) : Keeps State.PoolLegal (openDraft n) := fun s h => by
  have queue : ∀ m, ((openDraft n s).line m).queue = (s.line m).queue := fun m => by
    by_cases e : m = n
    · rw [e, openDraft, State.modLine_line]
      dsimp only
      split <;> split <;> rfl
    · rw [openDraft, State.modLine_line_of_ne _ _ e]
  exact h.of_queues (by simp) (by simp) fun m => by rw [queue]; exact id

/-! ### Entries that leave a queue -/

/-- R113: forming the class of a line afresh changes nothing of a generator but the class it serves. -/
theorem formClassAfresh_gen (n : LineNo) (s : State) (g : GenNo) :
    ∃ k, (formClassAfresh n s).gen g = { s.gen g with served := k } := by
  have waiting : (reclassWaiting n (requestClass s n) s).gen g = s.gen g := by
    unfold reclassWaiting
    split
    · rfl
    · dsimp only
      split
      · simp [State.gen_def]
      · split <;> rfl
  rw [← waiting, formClassAfresh]
  generalize reclassWaiting n (requestClass s n) s = t
  unfold reclassGen
  split
  · exact ⟨_, rfl⟩
  · next k _ =>
    simp only [State.gen_def, State.modGen_pool, Table.get_set]
    split
    · next e =>
      rw [e]
      exact ⟨_, rfl⟩
    · exact ⟨_, rfl⟩

theorem orderEntrySent_gen (n : LineNo) (s : State) (g : GenNo) :
    ∃ k, (orderEntrySent n s).gen g = { s.gen g with served := k } := by
  unfold orderEntrySent
  dsimp only
  split
  · exact ⟨_, rfl⟩
  · obtain ⟨k, hk⟩ := formClassAfresh_gen n (completeSendTones (onCurrent
      (fun c => { c with work := c.work.countSent }) s)) g
    exact ⟨k, by simpa [State.gen_def] using hk⟩

/-- R121: the removal of a sent entry changes nothing of a generator but the class it serves. -/
theorem headSent_gen (n : LineNo) (s : State) (g : GenNo) :
    ∃ k, (headSent n s).gen g = { s.gen g with served := k } := by
  unfold headSent
  split
  · exact ⟨_, rfl⟩
  · dsimp only
    split
    · exact orderEntrySent_gen n _ g
    · exact ⟨_, rfl⟩

namespace State.PoolSound

variable {s : State} {but : LineNo → Prop}

theorem inDraft (h : s.PoolSound but) (n : LineNo) (f : Draft → Draft) : (inDraft n f s).PoolSound but :=
  h.modLine_kept n (fun c => c.mapDraft f) (by
    obtain ⟨-, queue, -⟩ := LineCtx.mapDraft_kept f (s.line n)
    exact queue)

theorem orderEntrySent (h : s.PoolSound but) (n : LineNo) : (orderEntrySent n s).PoolSound but := by
  have counted := h.touched (t := Machine.onCurrent (fun c => { c with work := c.work.countSent }) s) (by simp)
    (.of_lines (by simp))
  unfold Machine.orderEntrySent
  dsimp only
  split
  · exact counted
  · exact (counted.touched (by simp) (.of_lines (by simp))).formClassAfresh n

theorem headSent {n : LineNo} (h : s.PoolSound (· = n)) : (headSent n s).PoolSound (· = n) := by
  unfold Machine.headSent
  split
  · exact h
  · dsimp only
    split
    · exact ((h.modLine_at _).inDraft n Draft.countSent).orderEntrySent n
    · exact (h.modLine_at _).inDraft n Draft.countSent

end State.PoolSound

/-- R131: with an ORDER entry left the queue of the line is not empty; else the line's claim is looked at again. -/
theorem abortSendTones_poolLegal (n : LineNo) (c : CurrentOrder) : Keeps State.PoolLegal (abortSendTones n c) :=
  fun s h => by
    unfold abortSendTones
    dsimp only
    split
    · next left =>
      refine h.of_queues (by simp) (by simp) fun m queued => ?_
      have ordered : ∀ (f : CurrentOrder → CurrentOrder) (t : State), (onCurrent f t).line m = t.line m := fun _ _ => rfl
      rw [ordered]
      by_cases e : m = n
      · rw [e]
        exact fun empty => by
          rw [empty] at left
          cases left
      · rwa [State.modLine_line_of_ne _ _ e]
    · refine h.afterEvent n (by simp) fun sound => ?_
      refine State.PoolSound.formClassAfresh ?_ n
      exact (sound.modLine_at fun x => { x with queue := dropUnbegun x.queue }).touched (by simp) (.of_lines (by simp))

/-! ### The generators at work -/

theorem onExpires_poolLegal (g : GenNo) : Keeps State.PoolLegal (onExpires g) := fun s h => by
  unfold onExpires
  split
  · exact h
  · next n attached =>
    refine h.afterEvent n (by simp) fun sound => sound.headSent.modGen_state (n := n) ?_ GenState.noConfusion _
    obtain ⟨k, hk⟩ := headSent_gen n s g
    rw [hk]
    exact attached

theorem gapExpires_poolLegal (g : GenNo) : Keeps State.PoolLegal (gapExpires g) := fun s h => by
  unfold gapExpires
  split
  · exact h
  · next n attached =>
    split
    · split
      · exact h.afterEvent n (by simp) fun sound => (sound.releaseGen g).endNumber n
      · exact h.afterEvent n (by simp) fun sound => sound.enterOn (sound.state_ne_free attached)
    · split
      · exact h.afterEvent n (by simp) fun sound => sound.enterOn (sound.state_ne_free attached)
      · split
        · exact h.afterEvent n rfl fun sound => sound.modGen_state attached GenState.noConfusion _
        · exact h.afterEvent n (by simp) fun sound => sound.releaseGen g

theorem holdExpires_poolLegal (g : GenNo) : Keeps State.PoolLegal (holdExpires g) := fun s h => by
  unfold holdExpires
  split
  · exact h
  · next n _ => exact h.afterEvent n (by simp) fun sound => sound.releaseGen g

theorem synthesize_poolLegal (g : GenNo) : Keeps State.PoolLegal (synthesize g) := fun s h => by
  have clipped : Keeps State.PoolLegal (setClip g) := fun t ht => by
    have marked : t.PoolSound (fun _ => False) →
        (t.modGen g fun x => { x with clip := true }).PoolSound fun _ => False := fun sound =>
      Pool.Sound.keepGen sound rfl .rfl .rfl
    unfold setClip
    dsimp only
    split
    · exact ht.keep (by simp) fun sound => (marked sound).inDraft _ _
    · exact ht.keep rfl marked
  have advanced : (s.modVoice g Voice.advance).PoolLegal := h.of_queues id rfl fun _ => id
  unfold synthesize
  dsimp only
  split
  · split
    · exact clipped _ advanced
    · exact advanced
  · exact h

/-- R71, R115: a millisecond event counts timers, in contexts and in generators. -/
theorem takeMillisecond_poolLegal : Keeps State.PoolLegal takeMillisecond := fun s h => by
  refine h.keep (by simp) fun sound => ?_
  have ticked : (takeMillisecond s).pool.Sound fun n => False ∨ (s.line n).queue ≠ [] := by
    unfold takeMillisecond
    dsimp only
    split
    · exact Pool.Sound.of_gens sound (fun g => by simp [tickTimers, Generator.tick, State.gen_def]) rfl rfl
    · exact sound
  refine ticked.mono fun e _ queued => queued.imp_right fun queued => ?_
  unfold takeMillisecond
  dsimp only
  split
  · simpa [tickTimers, LineCtx.tick, State.line_def] using queued
  · exact queued

/-- R112, R114, R115: the pool's invariant is one of calls. -/
theorem poolLegal_invariant : CallInvariant State.PoolLegal where
  noCalls := fun {s} h => (State.poolLegal_iff s).2 fun _ => by
    refine ⟨fun g k n => ?_, fun g => ?_, ?_, ?_, ?_, ?_⟩
    · rw [← State.gen_def, h.gens]
      exact fun held => nomatch held
    · rw [← State.gen_def, h.gens]
      exact ⟨⟨fun _ => rfl, fun _ => rfl⟩, ⟨fun _ => rfl, fun _ => rfl⟩⟩
    all_goals simp [h.waits]
  carried := fun h k => k.of_queues h.running h.pool h.queues
  openDraft := openDraft_poolLegal
  closeDraft := fun n k _ h => h.keep (by simp) fun sound => sound.closeDraft n k
  afterEvent := fun n _ h => h.afterEvent n rfl id
  teardown := fun n k _ => teardown_poolLegal n k
  proceedChanged := fun n _ => proceedChanged_poolLegal n
  formClassAfresh := fun n _ h => h.keep (by simp) fun sound => sound.formClassAfresh n
  abortSendTones := abortSendTones_poolLegal
  onExpires := onExpires_poolLegal
  gapExpires := gapExpires_poolLegal
  holdExpires := holdExpires_poolLegal
  synthesize := synthesize_poolLegal
  takeMillisecond := takeMillisecond_poolLegal

/-- Settles O8: every step keeps the FIFO and the pool legal, each an invariant of calls. -/
theorem stepKeepsFifoLegal : Obligations.StepKeepsFifoLegal :=
  ⟨fun _ _ => fifoLegal_invariant.step, fun _ _ => poolLegal_invariant.step⟩

end Sys2Proof.Machine
end

section
/-! An ABORT in every state of the order unit (R131, R176; O24). -/

namespace Sys2Proof.Machine

/-! ### The order that an ABORT meets -/

section
variable {s : State} {c : CurrentOrder} (current : s.orders.current = some c)
include current

theorem abortOrder_before_answer (state : s.orders.state = .taking ∨ s.orders.state = .executing) :
    abortOrder s = abortAtNextStep s := by
  unfold abortOrder
  rcases state with state | state
  all_goals rw [current, state]

theorem abortOrder_of_sendTones {n : LineNo} {cls : ServiceClass} {count sent : Nat} {fixed : Bool}
    (state : s.orders.state = .inProgress) (work : c.work = .sendTones n cls count sent fixed) :
    abortOrder s = abortSendTones n c s := by
  unfold abortOrder
  rw [current, state]
  dsimp only
  rw [work]

theorem onCurrent_orders (f : CurrentOrder → CurrentOrder) :
    (onCurrent f s).orders = { s.orders with current := some (f c) } := by
  rw [onCurrent, State.modOrders_orders, current]
  rfl

end

theorem abortOrder_without_order {s : State} (h : s.orders.current = none ∨ s.orders.state = .completing) :
    abortOrder s = s := by
  unfold abortOrder
  rcases h with none | completing
  · rw [none]
  · rw [completing]
    split <;> rfl

/-! ### An order that has not answered -/

theorem SameOrder.emptyLoad (w : OrderWork) (s : State) : SameOrder s (emptyLoad w s) := .of_orders (by simp) (by simp)

/-- R105: a load cut short leaves its target EMPTY. -/
theorem emptyLoad_bank (source : Word) (b : BankNo) (count : Nat) (s : State) :
    ((emptyLoad (.loadPlan source b count) s).bank b).state = .empty ∧
      ((emptyLoad (.loadPlan source b count) s).bank b).entries = [] := by
  simp [emptyLoad, State.modBank, State.bank]

/-- R176: the ABORT of an order that waits for no access of its own but those that need not be made. -/
theorem endAborted_aborts {s : State} {c : CurrentOrder} (current : s.orders.current = some c) :
    Answered s (endAborted (s.modPort fun p => { p with waitOrder := none })) .aborted (abortDetails c.work s) ∧
      (endAborted (s.modPort fun p => { p with waitOrder := none })).control = s.control ∧
      (endAborted (s.modPort fun p => { p with waitOrder := none })).lines = s.lines ∧
      (endAborted (s.modPort fun p => { p with waitOrder := none })).settings = s.settings ∧
      ∀ source b count, c.work = .loadPlan source b count →
        ((endAborted (s.modPort fun p => { p with waitOrder := none })).bank b).state = .empty ∧
        ((endAborted (s.modPort fun p => { p with waitOrder := none })).bank b).entries = [] := by
  have details : abortDetails c.work (s.modPort fun p => { p with waitOrder := none }) = abortDetails c.work s := by
    unfold abortDetails
    split <;> rfl
  have unasked : SameOrder s (s.modPort fun p => { p with waitOrder := none }) := .of_orders rfl rfl
  have ended : endAborted (s.modPort fun p => { p with waitOrder := none }) = chooseResult .aborted (abortDetails c.work s)
      (emptyLoad c.work (s.modPort fun p => { p with waitOrder := none })) := by
    unfold endAborted
    rw [State.modPort_orders, current]
    dsimp only
    rw [details]
  rw [ended]
  refine ⟨(unasked.trans (.emptyLoad c.work _)).answered current _ _, by simp, by simp, by simp,
    fun source b count work => ?_⟩
  have banks := emptyLoad_bank source b count (s.modPort fun p => { p with waitOrder := none })
  rw [work]
  simpa [State.bank] using banks

/-! ### A SEND_TONES in progress -/

section
variable {q : List QueueEntry} (h : q.filter (fun e => e.isOrder && e.begun) = [])
include h

/-- R131: where no ORDER entry has begun none stays. -/
theorem dropUnbegun_of_none_begun : dropUnbegun q = q.filter fun e => !e.isOrder := by
  refine List.filter_congr fun e he => ?_
  have unbegun : ¬ (e.isOrder && e.begun) = true := List.filter_eq_nil_iff.1 h e he
  cases order : e.isOrder
  · rfl
  · simpa [order] using unbegun

end

theorem dropUnbegun_order {q : List QueueEntry} (h : q.filter (fun e => e.isOrder && e.begun) ≠ []) :
    (dropUnbegun q).any QueueEntry.isOrder = true := by
  obtain ⟨e, he⟩ := List.exists_mem_of_ne_nil _ h
  obtain ⟨queued, sending⟩ := List.mem_filter.1 he
  rw [Bool.and_eq_true] at sending
  exact List.any_eq_true.2 ⟨e, List.mem_filter.2 ⟨queued, by simp [sending]⟩, sending.1⟩

/-- R131: the line once its ORDER entries that have not begun have left. -/
def unbegunDropped (n : LineNo) (s : State) : State := s.modLine n fun x => { x with queue := dropUnbegun x.queue }

section
variable {s : State} {n : LineNo} {c : CurrentOrder} (current : s.orders.current = some c)
  {cls : ServiceClass} {count sent : Nat} {fixed : Bool} (work : c.work = .sendTones n cls count sent fixed)
include current work

/-- R131: the order ends at once where none of its entries has begun. -/
theorem abortSendTones_ends (h : (s.line n).queue.filter (fun e => e.isOrder && e.begun) = []) :
    HostSideKept s (abortSendTones n c s) ∧
      Answered s (abortSendTones n c s) .aborted { sent, unsent := count - sent } ∧
      ((abortSendTones n c s).line n).queue.map QueueEntry.what
        = ((s.line n).queue.filter fun e => !e.isOrder).map QueueEntry.what := by
  have queue : ((unbegunDropped n s).line n).queue = (s.line n).queue.filter fun e => !e.isOrder := by
    rw [unbegunDropped, State.modLine_line, dropUnbegun_of_none_begun h]
  have ended : abortSendTones n c s = afterEvent n (formClassAfresh n
      (chooseResult .aborted { sent, unsent := count - sent } (unbegunDropped n s))) := by
    have none : ¬ ((unbegunDropped n s).line n).queue.any QueueEntry.isOrder = true := by
      rw [queue]
      simp
    unfold abortSendTones
    rw [work]
    exact if_neg none
  have answered := (SameOrder.of_orders (t := unbegunDropped n s) rfl rfl).answered current .aborted
    { sent, unsent := count - sent }
  obtain ⟨-, -, -, -, waits⟩ := (afterEvent_records n (formClassAfresh n
    (chooseResult .aborted { sent, unsent := count - sent } (unbegunDropped n s)))).port
  have touched := (formClassAfresh_touches n (chooseResult .aborted { sent, unsent := count - sent }
    (unbegunDropped n s)) n).trans (afterEvent_touches n _ n)
  rw [ended]
  refine ⟨by simp [HostSideKept, unbegunDropped], answered.congr rfl rfl (by simp) (waits.trans (by simp)), ?_⟩
  rw [touched.queue, ← queue]
  simp

/-- R131: the order goes on to the end of its entry that has begun. -/
theorem abortSendTones_waits (h : (s.line n).queue.filter (fun e => e.isOrder && e.begun) ≠ []) :
    HostSideKept s (abortSendTones n c s) ∧ OtherLinesKept n s (abortSendTones n c s) ∧
      (abortSendTones n c s).port = s.port ∧
      (abortSendTones n c s).orders
        = { s.orders with current := some { c with work := .sendTones n cls count sent true } } ∧
      (abortSendTones n c s).line n
        = { s.line n with queue := (s.line n).queue.filter fun e => !e.isOrder || e.begun } := by
  have begun : ((unbegunDropped n s).line n).queue.any QueueEntry.isOrder = true := by
    rw [unbegunDropped, State.modLine_line]
    exact dropUnbegun_order h
  have goesOn : abortSendTones n c s = onCurrent _ (unbegunDropped n s) := if_pos begun
  have others : OtherLinesKept n s (unbegunDropped n s) := .modLine s _
  have line := State.modLine_line (n := n) s fun x => { x with queue := dropUnbegun x.queue }
  rw [goesOn]
  refine ⟨⟨rfl, rfl, rfl, rfl, rfl⟩, others, rfl, ?_, line⟩
  rw [onCurrent_orders (s := unbegunDropped n s) current, work]
  rfl

end

theorem exec_abortOrder {s u : State} (h : abortOrder s = u) : exec .abortOrder s = .next (epilogue u) :=
  congrArg (fun u => Host.Outcome.next (epilogue u)) h

/-- R176: an ABORT is kept for an access in flight and for the TAKEN write that waits. -/
theorem abortAtNextStep_of_access {s : State} (h : s.port.orderInFlight = true ∨ s.port.takenWaits = true) :
    abortAtNextStep s = onCurrent (fun c => { c with abort := true }) s := by
  rw [abortAtNextStep, if_pos (Bool.or_eq_true_iff.2 h)]

theorem abortAtNextStep_of_no_access {s : State} (idle : s.port.orderInFlight = false)
    (unwritten : s.port.takenWaits = false) :
    abortAtNextStep s = endAborted (s.modPort fun p => { p with waitOrder := none }) := by
  rw [abortAtNextStep, idle, unwritten]
  rfl

/-- Settles O24, by what the order unit and the port have in hand. -/
theorem Proofs.abortOrder : Obligations.AbortOrder := by
  refine ⟨fun s h => exec_abortOrder (abortOrder_without_order h), fun s c current state access => ?_,
    fun s c current state idle unwritten => ?_, fun s c n cls count sent fixed current state work unbegun => ?_,
    fun s c n cls count sent fixed current state work begun => ?_⟩
  · exact ⟨_, exec_abortOrder ((abortOrder_before_answer current state).trans (abortAtNextStep_of_access access)),
      .onCurrent _ s, rfl, onCurrent_orders current fun c => { c with abort := true }⟩
  · exact ⟨_, exec_abortOrder ((abortOrder_before_answer current state).trans
      (abortAtNextStep_of_no_access idle unwritten)), endAborted_aborts current⟩
  · exact ⟨_, exec_abortOrder (abortOrder_of_sendTones current state work), abortSendTones_ends current work unbegun⟩
  · exact ⟨_, exec_abortOrder (abortOrder_of_sendTones current state work), abortSendTones_waits current work begun⟩

end Sys2Proof.Machine
end

section
/-! SEND_TONES (R127, R128; O57): the checks in order, the line's refusals, and the accepted order. -/

namespace Sys2Proof.Machine

/-! ### The checks -/

section
variable {b : OrderBody} {s : State}

theorem sendTones_badLine (h : 64 ≤ param b 0x08) : sendTones b s = badParameter 0x08 s := by
  unfold sendTones
  rw [dif_neg (Nat.not_lt.2 h)]

variable (line : param b 0x08 < 64)
include line

theorem sendTones_badClass (h : classOfCode (param b 0x09) = none) : sendTones b s = badParameter 0x09 s := by
  unfold sendTones
  rw [dif_pos line, h]

variable {cls : ServiceClass} (hc : classOfCode (param b 0x09) = some cls)
include hc

theorem sendTones_badCount (h : param b 0x0A = 0 ∨ 24 < param b 0x0A) : sendTones b s = badParameter 0x0A s := by
  have outside : ¬ inRange 1 24 (param b 0x0A) = true := by
    simp only [inRange, Bool.and_eq_true, decide_eq_true_eq]
    omega
  unfold sendTones
  rw [dif_pos line, hc]
  exact if_neg outside

variable (atLeast : 1 ≤ param b 0x0A) (atMost : param b 0x0A ≤ 24)
include atLeast atMost

theorem sendTones_inRange : sendTones b s =
    if (sendSymbols b (param b 0x0A)).all Option.isSome then
      sendTonesOn ⟨param b 0x08, line⟩ cls ((sendSymbols b (param b 0x0A)).filterMap id) s
    else badParameter 0x10 s := by
  have inside : inRange 1 24 (param b 0x0A) = true := by simp [inRange, atLeast, atMost]
  unfold sendTones
  rw [dif_pos line, hc]
  exact if_pos inside

/-- Log 16: a symbol that is no tone is named by the first one's byte. -/
theorem sendTones_badSymbol (h : ∃ i, i < param b 0x0A ∧ 16 ≤ param b (0x10 + i)) :
    sendTones b s = badParameter 0x10 s := by
  have notAll : ¬ (sendSymbols b (param b 0x0A)).all Option.isSome = true := by
    obtain ⟨i, below, noTone⟩ := h
    intro all
    have tone := List.all_eq_true.1 all _ (List.mem_map.2 ⟨i, List.mem_range.2 below, rfl⟩)
    simp [toneOfCode, Nat.not_lt.2 noTone] at tone
  rw [sendTones_inRange line hc atLeast atMost, if_neg notAll]

end

/-- R127: with its parameters in range the order turns to its line. -/
theorem sendTones_on {b : OrderBody} {s : State} {n : LineNo} {cls : ServiceClass} {symbols : List Tone}
    (line : param b 0x08 = n.val) (hc : classOfCode (param b 0x09) = some cls) (atLeast : 1 ≤ param b 0x0A)
    (atMost : param b 0x0A ≤ 24) (tones : sendSymbols b (param b 0x0A) = symbols.map some) :
    sendTones b s = sendTonesOn n cls symbols s := by
  have inLines : param b 0x08 < Config.lines := line ▸ n.isLt
  obtain rfl : (⟨param b 0x08, inLines⟩ : LineNo) = n := Fin.ext line
  rw [sendTones_inRange inLines hc atLeast atMost, tones, if_pos (by simp)]
  simp

/-! ### The line's refusals -/

section
variable {n : LineNo} {cls : ServiceClass} {symbols : List Tone} {s : State}

theorem sendTonesOn_notReady (h : (s.line n).state = .disabled ∨ (s.line n).state = .idle ∨ (s.line n).state = .lockout) :
    sendTonesOn n cls symbols s = chooseResult .lineNotReady { state := (s.line n).state.code } s := by
  unfold sendTonesOn
  dsimp only
  rcases h with h | h | h
  all_goals rw [h]

theorem sendTonesOn_busy (h : (s.line n).state = .collecting ∨ (s.line n).state = .sending) :
    sendTonesOn n cls symbols s = chooseResult .lineBusy { state := (s.line n).state.code } s := by
  unfold sendTonesOn
  dsimp only
  rcases h with h | h
  all_goals rw [h]

theorem sendTonesOn_ready (h : (s.line n).state = .seized ∨ (s.line n).state = .converting) :
    sendTonesOn n cls symbols s =
      if 32 - (s.line n).queue.length < symbols.length then
        chooseResult .queueFull { free := 32 - (s.line n).queue.length } s
      else acceptSendTones n cls ((s.orders.current.map CurrentOrder.slot).getD 0) symbols s := by
  unfold sendTonesOn
  dsimp only
  rcases h with h | h
  all_goals rw [h]

end

/-! ### The accepted order -/

/-- R128: the entries of the order are queued, and a SEIZED line is CONVERTING. -/
def tonesQueued (n : LineNo) (slot : Nat) (symbols : List Tone) (s : State) : State :=
  (leaveSeized n (s.modLine n fun c => { c with queue := c.queue ++ orderEntries slot symbols })).modLine n
    fun c => c.zeroTimer .quiet

/-- R128: the accepted order before the checks on its line: its entries are queued, and it is IN_PROGRESS. -/
def tonesAccepted (n : LineNo) (cls : ServiceClass) (slot : Nat) (symbols : List Tone) (s : State) : State :=
  (onCurrent (fun c => { c with work := .sendTones n cls symbols.length 0 false, progressed := true })
    (tonesQueued n slot symbols s)).modOrders fun o => { o with state := .inProgress }

theorem acceptSendTones_eq (n : LineNo) (cls : ServiceClass) (slot : Nat) (symbols : List Tone) (s : State) :
    acceptSendTones n cls slot symbols s = afterEvent n (formClassAfresh n (tonesAccepted n cls slot symbols s)) := rfl

/-- R128: a line that may take the order is CONVERTING, with the draft and the queue it had. -/
structure LeftSeized (c d : LineCtx) : Prop where
  state : d.state = .converting
  draft : d.draft = c.draft
  queue : d.queue = c.queue
  firstDigit : c.state = .seized → d.timer .firstDigit = .stopped

theorem LineCtx.setTimer_quiet_firstDigit (c : LineCtx) (t : Timer) :
    (c.setTimer .quiet t).timer .firstDigit = c.timer .firstDigit :=
  c.timer_setTimer_of_ne (j := .firstDigit) (k := .quiet) (by decide) t

theorem leaveSeized_line {n : LineNo} {s : State} (h : (s.line n).state = .seized ∨ (s.line n).state = .converting) :
    LeftSeized (s.line n) ((leaveSeized n s).line n) := by
  have stopped : ((s.line n).stopTimer .firstDigit).timer .firstDigit = .stopped := LineCtx.stopTimer_timer _ _
  unfold leaveSeized
  split
  · rw [enterConverting, State.modLine_line, State.modLine_line]
    dsimp only
    split
    · exact ⟨rfl, rfl, rfl, fun _ => (LineCtx.setTimer_quiet_firstDigit _ _).trans stopped⟩
    · exact ⟨rfl, rfl, rfl, fun _ => stopped⟩
  · next notSeized => exact ⟨h.resolve_left notSeized, rfl, rfl, fun seized => absurd seized notSeized⟩

section
variable {n : LineNo} {cls : ServiceClass} {slot : Nat} {symbols : List Tone} {s : State}
  (h : (s.line n).state = .seized ∨ (s.line n).state = .converting)
include h

theorem tonesAccepted_line :
    LeftSeized { s.line n with queue := (s.line n).queue ++ orderEntries slot symbols }
      ((tonesAccepted n cls slot symbols s).line n) := by
  have left := leaveSeized_line (n := n)
    (s := s.modLine n fun c => { c with queue := c.queue ++ orderEntries slot symbols }) (by rwa [State.modLine_line])
  rw [State.modLine_line] at left
  have line : (tonesAccepted n cls slot symbols s).line n = (tonesQueued n slot symbols s).line n := rfl
  rw [line, tonesQueued, State.modLine_line]
  exact ⟨left.state, left.draft, left.queue, fun seized =>
    (LineCtx.setTimer_quiet_firstDigit _ _).trans (left.firstDigit seized)⟩

/-- R128: what the accepted order leaves of its line, after the checks. -/
theorem acceptSendTones_line :
    ((acceptSendTones n cls slot symbols s).line n).state = .converting ∧
      ((acceptSendTones n cls slot symbols s).line n).draft = (s.line n).draft ∧
      ((acceptSendTones n cls slot symbols s).line n).queue.map QueueEntry.what
        = (s.line n).queue.map QueueEntry.what ++ symbols.map (fun t => (t, Origin.order slot)) ∧
      ((s.line n).state = .seized → ((acceptSendTones n cls slot symbols s).line n).timer .firstDigit = .stopped) := by
  have accepted := tonesAccepted_line (cls := cls) (slot := slot) (symbols := symbols) h
  have numbers := NumbersKept.formClassAfresh n (tonesAccepted n cls slot symbols s) n
  have touched := formClassAfresh_touches n (tonesAccepted n cls slot symbols s) n
  have kept := afterEvent_keeps (n := n) (s := formClassAfresh n (tonesAccepted n cls slot symbols s))
    (by rw [numbers.state, accepted.state]; exact nofun)
  rw [acceptSendTones_eq]
  refine ⟨?_, ?_, ?_, fun seized => ?_⟩
  · rw [kept.state, numbers.state, accepted.state]
  · rw [kept.draft, numbers.draft, accepted.draft]
  · rw [kept.queue, touched.queue, accepted.queue, List.map_append, orderEntries, List.map_map]
    rfl
  · rw [kept.timer .firstDigit nofun nofun, touched.timers .firstDigit nofun nofun nofun]
    exact accepted.firstDigit seized

end

theorem acceptSendTones_orders {n : LineNo} {cls : ServiceClass} {slot : Nat} {symbols : List Tone} {s : State}
    {c : CurrentOrder} (current : s.orders.current = some c) :
    (acceptSendTones n cls slot symbols s).orders = { s.orders with
      state := .inProgress
      current := some { c with work := .sendTones n cls symbols.length 0 false, progressed := true } } := by
  have queued : (tonesQueued n slot symbols s).orders = s.orders := by simp [tonesQueued]
  have accepted : (acceptSendTones n cls slot symbols s).orders = (tonesAccepted n cls slot symbols s).orders := by
    simp [acceptSendTones_eq]
  rw [accepted, tonesAccepted, State.modOrders_orders, onCurrent_orders (queued ▸ current), queued]

/-! ### The order -/

theorem exec_sendTones {b : OrderBody} {s : State} {c : CurrentOrder} (h : s.executing c) (code : b.code = 0x09) :
    exec (.sendTones b) s = .next (epilogue (sendTones b (bodyHeld b s))) :=
  congrArg _ (whenBody_executing (i := .sendTones b) h (beq_iff_eq.2 code) _)

theorem bodyHeld_line (b : OrderBody) (s : State) (n : LineNo) : (bodyHeld b s).line n = s.line n :=
  (OrderUnitOnly.bodyHeld b s).line n

/-- Settles O57: an order refused by a check or by its line only answers; an accepted one stands IN_PROGRESS. -/
theorem Proofs.sendTones : Obligations.SendTones := by
  intro b s c executing code
  have run := exec_sendTones executing code
  obtain ⟨-, -, current, -⟩ := executing
  have answers := bodyHeld_answers current b
  refine ⟨_, run, fun line => ?_, fun line cls => ?_, fun line cls count => ?_, fun line cls atLeast atMost symbol => ?_,
    fun n cls symbols line hc atLeast atMost tones => ?_⟩
  · rw [sendTones_badLine line]
    exact answers _ _
  · rw [sendTones_badClass line cls]
    exact answers _ _
  · obtain ⟨cls, hc⟩ := Option.ne_none_iff_exists'.1 cls
    rw [sendTones_badCount line hc count]
    exact answers _ _
  · obtain ⟨cls, hc⟩ := Option.ne_none_iff_exists'.1 cls
    rw [sendTones_badSymbol line hc atLeast atMost symbol]
    exact answers _ _
  · have held := bodyHeld_line b s n
    rw [sendTones_on line hc atLeast atMost tones, ← held]
    refine ⟨fun unready => ?_, fun busy => ?_, fun ready full queued => ?_, fun ready room => ?_⟩
    · rw [sendTonesOn_notReady unready]
      exact answers _ _
    · rw [sendTonesOn_busy busy]
      exact answers _ _
    · rw [sendTonesOn_ready ready, if_pos (by omega)]
      exact answers _ _
    · have slot : ((bodyHeld b s).orders.current.map CurrentOrder.slot).getD 0 = c.slot := by
        rw [bodyHeld_orders current]
        rfl
      have orders := acceptSendTones_orders (n := n) (cls := cls) (slot := c.slot) (symbols := symbols)
        (s := bodyHeld b s) (congrArg Orders.current (bodyHeld_orders current b))
      rw [sendTonesOn_ready ready, if_neg (by omega), slot, orders]
      exact ⟨by simp [HostSideKept, bodyHeld, holdBody], by simp [bodyHeld, holdBody], by simp [bodyHeld, holdBody],
        by simp [bodyHeld, holdBody], rfl, rfl, acceptSendTones_line ready⟩

end Sys2Proof.Machine
end

section
/-! A generator at work through the checks after an event: where no class A claim waits the arbiter gives out FREE
generators alone, so one that is attached stays as it is (R116, R119). -/

namespace Sys2Proof.Machine

/-- Generator `g` and its voice are as they were. -/
structure GenKept (g : GenNo) (s t : State) : Prop where
  gen : t.gen g = s.gen g
  voice : t.voices.get g = s.voices.get g

namespace GenKept

variable {g : GenNo} {s t u : State}

theorem of_blocks (gens : t.pool.gens = s.pool.gens) (voices : t.voices = s.voices) : GenKept g s t :=
  ⟨gen_congr gens g, by rw [voices]⟩

theorem refl (s : State) : GenKept g s s := of_blocks rfl rfl

theorem trans (h : GenKept g s t) (k : GenKept g t u) : GenKept g s u :=
  ⟨k.gen.trans h.gen, k.voice.trans h.voice⟩

/-- R123: another generator begins to play. -/
theorem enterOn {k : GenNo} (hk : g ≠ k) (s : State) : GenKept g s (enterOn k s) := by
  obtain ⟨-, gens, -⟩ := enterOn_others k s
  refine ⟨gens g hk, ?_⟩
  unfold Machine.enterOn
  split
  · rfl
  · split
    · rfl
    · simp [Table.get_set_ne _ _ hk.symm]

theorem grant {k : GenNo} (hk : g ≠ k) (e : WaitEntry) (s : State) : GenKept g s (grant k e s) := by
  have attached : GenKept g s ((leaveWait e.line s).modGen k fun x =>
      { x with attached := some e.line, served := some e.cls, clip := false }) :=
    ⟨by simp [State.gen_def, Table.get_set_ne _ _ hk.symm, leaveWait], by simp⟩
  exact attached.trans (enterOn hk _)

variable (busy : (s.gen g).state ≠ .free)
include busy

theorem arbitrate (k : Nat) : GenKept g s (arbitrate k s) := by
  induction k generalizing s with
  | zero => exact .refl s
  | succ k ih =>
    rw [Machine.arbitrate]
    split
    · next x e hx _ =>
      have other : g ≠ x := fun same => busy (same ▸ (firstFree_eq_some_iff.1 hx).1)
      have granted := grant other e s
      exact granted.trans (ih (by rwa [granted.gen]))
    · exact .refl s

theorem poolRun (calm : s.noEmergency = true) : GenKept g s (poolRun s) := by
  have claims : ∀ e ∈ (Machine.arbitrate Config.generators s).pool.waitList, e.cls ≠ .a := fun e he =>
    State.noEmergency_iff.1 calm e (arbitrate_claims _ e he)
  unfold Machine.poolRun
  split
  · rw [preemptAll_idle claims]
    exact arbitrate busy _
  · exact .refl s

/-- R112, R116, R119: the checks after an event keep the one generator of the line, unless it holds and symbols wait. -/
theorem afterEvent {n : LineNo} (serves : s.serves g n) (calm : s.noEmergency = true) (waits : isWaiting s n = false)
    (awake : (s.gen g).state = .hold → (s.line n).queue = []) : GenKept g s (afterEvent n s) := by
  have woken : wakeHold n s = s := by
    unfold wakeHold
    rw [serves.genOf]
    exact if_neg fun ⟨hold, queued⟩ => queued (awake hold)
  have request : requests s n = false := Bool.eq_false_iff.2 fun request =>
    nomatch serves.genOf.symm.trans (genOf_of_requests request)
  obtain ⟨t, watched⟩ := watchProceed_eq n s
  unfold Machine.afterEvent
  split
  · rw [woken, withdrawIfNot_of_not_waiting waits, raiseRequest_of_none request, watched]
    have timed : GenKept g s (s.modLine n fun c => c.setTimer .proceed t) := .of_blocks rfl rfl
    exact timed.trans (poolRun busy calm)
  · exact .refl s

end GenKept

theorem noEmergency_congr {s t : State} (h : t.pool.waitList = s.pool.waitList) : t.noEmergency = s.noEmergency := by
  rw [State.noEmergency, h, ← State.noEmergency]

theorem isWaiting_congr_waitList {s t : State} (h : t.pool.waitList = s.pool.waitList) (n : LineNo) :
    isWaiting t n = isWaiting s n := by
  simp only [isWaiting, waitEntry, h]

theorem State.serves.congr {s t : State} {g : GenNo} {n : LineNo} (h : s.serves g n)
    (attached : ∀ k, (t.gen k).attached = (s.gen k).attached) : t.serves g n := by
  obtain ⟨own, one⟩ := h
  exact ⟨(attached g).trans own, fun k hk => one k ((attached k).symm.trans hk)⟩

theorem modGen_gen (g : GenNo) (f : Generator → Generator) (s : State) : (s.modGen g f).gen g = f (s.gen g) := by
  simp [State.gen_def]

/-- A generator changes with its line kept. -/
theorem modGen_attached (g k : GenNo) {f : Generator → Generator} (s : State) (h : ∀ x, (f x).attached = x.attached) :
    ((s.modGen g f).gen k).attached = (s.gen k).attached := by
  by_cases e : k = g
  · rw [e, modGen_gen, h]
  · simp [State.gen_def, Table.get_set_ne _ _ (Ne.symm e)]

end Sys2Proof.Machine
end

section
/-! The expiry of a generator's ON (R121; O46): the head of the queue has been sent. -/

namespace Sys2Proof.Machine

/-! ### The head leaves the queue as sent -/

/-- R121: the head leaves the queue, and the decision of a SENDING line counts it. -/
def LineCtx.dropHead (rest : List QueueEntry) (c : LineCtx) : LineCtx :=
  { c with
    queue := rest
    decision := if c.state = .sending then c.decision.map Decision.countSent else c.decision }

/-- R121: the head has left the queue, and the decision and the draft have counted it. -/
def headLeft (n : LineNo) (rest : List QueueEntry) (s : State) : State :=
  inDraft n Draft.countSent (s.modLine n (LineCtx.dropHead rest))

/-- R121: what is seen of the removal in the context of the line. -/
structure HeadSent (rest : List QueueEntry) (c d : LineCtx) : Prop where
  state : d.state = c.state
  queue : d.queue.map QueueEntry.what = rest.map QueueEntry.what
  decision : ∀ x, c.state = .sending → c.decision = some x → d.decision = some x.countSent
  draft : ∀ x, c.draft = .opened x → d.draft = .opened x.countSent

/-- What keeps the number and the entries of the queue shows the removal too. -/
theorem HeadSent.kept {rest : List QueueEntry} {c d e : LineCtx} (h : HeadSent rest c d) (number : NumberKept d e)
    (touched : PoolTouches d e) : HeadSent rest c e where
  state := number.state.trans h.state
  queue := touched.queue.trans h.queue
  decision := fun x sending hx => number.decision.trans (h.decision x sending hx)
  draft := fun x hx => number.draft.trans (h.draft x hx)

theorem headLeft_headSent (n : LineNo) (rest : List QueueEntry) (s : State) :
    HeadSent rest (s.line n) ((headLeft n rest s).line n) := by
  obtain ⟨state, queue, -⟩ := LineCtx.mapDraft_kept Draft.countSent ((s.line n).dropHead rest)
  have decision : (((s.line n).dropHead rest).mapDraft Draft.countSent).decision
      = ((s.line n).dropHead rest).decision := by
    unfold LineCtx.mapDraft
    split <;> rfl
  rw [headLeft, inDraft, State.modLine_line, State.modLine_line]
  refine ⟨state, by rw [queue]; rfl, fun x sending hx => ?_, fun x hx => LineCtx.mapDraft_draft_opened hx⟩
  have counts : ((s.line n).dropHead rest).decision = (s.line n).decision.map Decision.countSent := if_pos sending
  rw [decision, counts, hx]
  rfl

section
variable (n : LineNo) (s : State)

theorem orderEntrySent_touches : LinesTouched s (orderEntrySent n s) := by
  unfold orderEntrySent
  dsimp only
  split
  · exact .of_lines (by simp)
  · exact (formClassAfresh_touches n _).after (by simp)

theorem orderEntrySent_numbers : NumbersKept s (orderEntrySent n s) := by
  unfold orderEntrySent
  dsimp only
  split
  · exact .of_lines (by simp)
  · exact (NumbersKept.formClassAfresh n _).after (by simp)

variable {n s} {e : QueueEntry} {rest : List QueueEntry} (queue : (s.line n).queue = e :: rest)
include queue

theorem headSent_eq : headSent n s = if e.isOrder then orderEntrySent n (headLeft n rest s) else headLeft n rest s := by
  unfold headSent
  rw [queue]
  rfl

theorem headSent_headSent : HeadSent rest (s.line n) ((headSent n s).line n) := by
  have left := headLeft_headSent n rest s
  rw [headSent_eq queue]
  split
  · exact left.kept (orderEntrySent_numbers n _ n) (orderEntrySent_touches n _ n)
  · exact left

end

/-! ### The wait list -/

/-- R113: a line that waits for no generator leaves the wait list as it is. -/
theorem formClassAfresh_waitList {n : LineNo} {s : State} (waits : isWaiting s n = false) :
    (formClassAfresh n s).pool.waitList = s.pool.waitList := by
  have unclaimed : reclassWaiting n (requestClass s n) s = s := by
    have none : waitEntry s n = none := by simpa [isWaiting] using waits
    rw [reclassWaiting, none]
  rw [formClassAfresh, unclaimed]
  unfold reclassGen
  split <;> rfl

theorem orderEntrySent_waitList {n : LineNo} {s : State} (waits : isWaiting s n = false) :
    (orderEntrySent n s).pool.waitList = s.pool.waitList := by
  have pool : (completeSendTones (onCurrent (fun c => { c with work := c.work.countSent }) s)).pool = s.pool := by simp
  unfold orderEntrySent
  dsimp only
  split
  · rfl
  · rw [formClassAfresh_waitList (by rw [isWaiting_congr pool, waits]), pool]

theorem headSent_waitList {n : LineNo} {s : State} (waits : isWaiting s n = false) :
    (headSent n s).pool.waitList = s.pool.waitList := by
  unfold headSent
  split
  · rfl
  · dsimp only
    split
    · exact orderEntrySent_waitList waits
    · rfl

/-! ### The order whose last entry has been sent -/

/-- R121: the order in hand counts an entry sent. -/
def entryCounted (s : State) : State := onCurrent (fun c => { c with work := c.work.countSent }) s

theorem entryCounted_sameOrder (s : State) : SameOrder s (entryCounted s) :=
  .onCurrent (f := fun c => { c with work := c.work.countSent }) (fun _ => rfl) s

theorem orderEntrySent_last {n : LineNo} {s : State} (last : (s.line n).queue.any QueueEntry.isOrder = false) :
    orderEntrySent n s = formClassAfresh n (completeSendTones (entryCounted s)) :=
  if_neg (Bool.eq_false_iff.1 last)

/-- R129: with the entry counted the order ends OK. -/
theorem completeSendTones_counted {s : State} {c : CurrentOrder} {n : LineNo} {cls : ServiceClass} {count sent : Nat}
    (current : s.orders.current = some c) (work : c.work = .sendTones n cls count sent false) :
    completeSendTones (entryCounted s)
      = chooseResult .ok { sent := sent + 1, unsent := count - (sent + 1) } (entryCounted s) := by
  obtain ⟨slot, body, work', abort, result, progressed⟩ := c
  cases work
  have counted := onCurrent_orders current fun c => { c with work := c.work.countSent }
  unfold completeSendTones
  rw [entryCounted, counted]
  rfl

section
variable {n : LineNo} {s : State} {e : QueueEntry} {rest : List QueueEntry} (queue : (s.line n).queue = e :: rest)
include queue

theorem headSent_orders_of_subscriber (subscriber : e.origin = .subscriber) : (headSent n s).orders = s.orders := by
  have dialled : ¬ e.isOrder = true := by simp [QueueEntry.isOrder, subscriber]
  rw [headSent_eq queue, if_neg dialled]
  rfl

/-- R129: the last entry of a SEND_TONES order has been sent, and the order ends OK. -/
theorem headSent_answers {slot : Nat} {c : CurrentOrder} {cls : ServiceClass} {count sent : Nat}
    (order : e.origin = .order slot) (last : rest.any QueueEntry.isOrder = false)
    (current : s.orders.current = some c) (work : c.work = .sendTones n cls count sent false) :
    Answered s (headSent n s) .ok { sent := sent + 1, unsent := count - (sent + 1) } := by
  have fromOrder : e.isOrder = true := by simp [QueueEntry.isOrder, order]
  have left : ((headLeft n rest s).line n).queue = rest := by
    obtain ⟨-, same, -⟩ := LineCtx.mapDraft_kept Draft.countSent ((s.line n).dropHead rest)
    rw [headLeft, inDraft, State.modLine_line, State.modLine_line]
    exact same
  have same : SameOrder s (headLeft n rest s) := .of_orders rfl rfl
  have answered := (same.trans (entryCounted_sameOrder _)).answered current .ok
    { sent := sent + 1, unsent := count - (sent + 1) }
  rw [headSent_eq queue, if_pos fromOrder, orderEntrySent_last (by rw [left]; exact last),
    completeSendTones_counted (s := headLeft n rest s) current work]
  exact answered.congr rfl rfl (by simp) (by simp)

end

/-! ### The expiry -/

/-- R121: the head is sent and the generator enters GAP, before the checks on the line. -/
def enterGap (g : GenNo) (n : LineNo) (s : State) : State :=
  (headSent n s).modGen g fun x => { x with state := .gap, timer := .running 0 (s.boundProfile n).toneOffMs }

theorem exec_onExpiry_due {g : GenNo} {s : State} (h : isDue (.onExpiry g) s = true) :
    exec (.onExpiry g) s = .next (epilogue (onExpires g s)) :=
  congrArg _ (whenDue_of_due h _)

theorem onExpires_eq {g : GenNo} {n : LineNo} {s : State} (h : (s.gen g).attached = some n) :
    onExpires g s = afterEvent n (enterGap g n s) := by
  rw [onExpires, h]
  rfl

theorem enterGap_attached (g k : GenNo) (n : LineNo) (s : State) :
    ((enterGap g n s).gen k).attached = (s.gen k).attached := by
  obtain ⟨served, sent⟩ := headSent_gen n s k
  have entered := modGen_attached g k (headSent n s)
    (f := fun x => { x with state := .gap, timer := .running 0 (s.boundProfile n).toneOffMs }) fun _ => rfl
  exact entered.trans (by rw [sent])

/-- Settles O46: neither the removal of the head nor the checks take the generator from its line. -/
theorem Proofs.onExpiry : Obligations.OnExpiry := by
  intro g n s e rest due serves queue calm waits
  have expires : onExpires g s = afterEvent n (enterGap g n s) := onExpires_eq serves.1
  have claims : (enterGap g n s).pool.waitList = s.pool.waitList := headSent_waitList waits
  have stillCalm : (enterGap g n s).noEmergency = true := (noEmergency_congr claims).trans calm
  obtain ⟨served, sent⟩ := headSent_gen n s g
  have gap : (enterGap g n s).gen g = { s.gen g with
      state := .gap, timer := .running 0 (s.boundProfile n).toneOffMs, served } := by
    rw [enterGap, modGen_gen, sent]
  have kept : GenKept g (enterGap g n s) (onExpires g s) := by
    rw [expires]
    refine .afterEvent ?_ (serves.congr fun k => enterGap_attached g k n s) stillCalm
      ((isWaiting_congr_waitList claims n).trans waits) ?_
    · rw [gap]
      exact nofun
    · rw [gap]
      exact nofun
  have line : HeadSent rest (s.line n) ((onExpires g s).line n) := by
    have left : HeadSent rest (s.line n) ((enterGap g n s).line n) := headSent_headSent queue
    rw [expires]
    exact left.kept (afterEvent_keepsNumber stillCalm) (afterEvent_touches n _ n)
  have orders : (onExpires g s).orders = (headSent n s).orders := by
    rw [expires]
    simp [enterGap]
  obtain ⟨-, -, -, -, access⟩ := (afterEvent_records n (enterGap g n s)).port
  rw [← expires] at access
  refine ⟨_, exec_onExpiry_due due, by simp [HostSideKept], by simp, by simp, by simp, ?_, ?_, ?_, ?_, line.state,
    line.queue, fun d sending => line.decision d sending, line.draft, fun subscriber => ?_,
    fun slot c cls count sent order last current work => ?_⟩
  · rw [kept.gen, gap]
  · rw [kept.gen, gap]
    exact serves.1
  · rw [kept.gen, gap]
  · rw [kept.gen, gap]
  · exact orders.trans (headSent_orders_of_subscriber queue subscriber)
  · exact (headSent_answers queue order last current work).congr rfl rfl orders access

end Sys2Proof.Machine
end

section
/-! The expiries of a generator's GAP and HOLD (R122, R123; O47). -/

namespace Sys2Proof.Machine

/-! ### What the end of GAP comes to, before the checks on the line -/

/-- R122: the number ends, the head plays, the generator holds, or it is released. -/
def gapEnded (g : GenNo) (n : LineNo) (s : State) : State :=
  if (s.line n).state = .sending then
    if numberFinished s n then endNumber n (releaseGen g s) else enterOn g s
  else if (s.line n).queue ≠ [] then enterOn g s
  else if 0 < (s.boundProfile n).genHoldMs then
    s.modGen g fun x => { x with state := .hold, timer := .running 0 (s.boundProfile n).genHoldMs }
  else releaseGen g s

theorem exec_gapExpiry_due {g : GenNo} {s : State} (h : isDue (.gapExpiry g) s = true) :
    exec (.gapExpiry g) s = .next (epilogue (gapExpires g s)) :=
  congrArg _ (whenDue_of_due h _)

theorem exec_holdExpiry_due {g : GenNo} {s : State} (h : isDue (.holdExpiry g) s = true) :
    exec (.holdExpiry g) s = .next (epilogue (holdExpires g s)) :=
  congrArg _ (whenDue_of_due h _)

section
variable {g : GenNo} {n : LineNo} {s : State}

theorem gapExpires_eq (h : (s.gen g).attached = some n) : gapExpires g s = afterEvent n (gapEnded g n s) := by
  rw [gapExpires, h]
  rfl

theorem holdExpires_eq (h : (s.gen g).attached = some n) : holdExpires g s = afterEvent n (releaseGen g s) := by
  rw [holdExpires, h]

theorem gapEnded_touches : LinesTouched s (gapEnded g n s) := by
  unfold gapEnded
  split
  · split
    · next finished => exact (endNumber_touches n (releaseGen g s) finished).after rfl
    · exact enterOn_touches g s
  · split
    · exact enterOn_touches g s
    · split
      · exact .of_lines rfl
      · exact releaseGen_touches g s

theorem gapEnded_finished {d : Decision} (sending : (s.line n).state = .sending)
    (decision : (s.line n).decision = some d) (finished : d.toSend ≤ d.sent) :
    gapEnded g n s = endNumber n (releaseGen g s) := by
  have done : numberFinished s n = true := by
    unfold numberFinished
    rw [sending, decision]
    exact decide_eq_true finished
  rw [gapEnded, if_pos sending, if_pos done]

/-- R122: a SENDING line with symbols of its number still to send, or another with symbols queued. -/
theorem gapEnded_plays (queue : (s.line n).queue ≠ [])
    (h : (s.line n).state ≠ .sending ∨ ∃ d, (s.line n).decision = some d ∧ d.sent < d.toSend) :
    gapEnded g n s = enterOn g s := by
  by_cases sending : (s.line n).state = .sending
  · obtain ⟨d, decision, unsent⟩ := h.resolve_left fun other => other sending
    have unfinished : numberFinished s n = false := by
      unfold numberFinished
      rw [sending, decision]
      exact decide_eq_false (Nat.not_le.2 unsent)
    rw [gapEnded, if_pos sending, unfinished, if_neg Bool.false_ne_true]
  · rw [gapEnded, if_neg sending, if_pos queue]

variable (other : (s.line n).state ≠ .sending) (empty : (s.line n).queue = [])
include other empty

theorem gapEnded_holds (hold : 0 < (s.boundProfile n).genHoldMs) : gapEnded g n s =
    s.modGen g fun x => { x with state := .hold, timer := .running 0 (s.boundProfile n).genHoldMs } := by
  rw [gapEnded, if_neg other, if_neg fun queued => queued empty, if_pos hold]

theorem gapEnded_releases (hold : (s.boundProfile n).genHoldMs = 0) : gapEnded g n s = releaseGen g s := by
  rw [gapEnded, if_neg other, if_neg fun queued => queued empty, if_neg (by rw [hold]; exact Nat.lt_irrefl 0)]

end

/-! ### What the line and the generator then show -/

section
variable {g : GenNo} {n : LineNo} {s : State}

/-- R122: the end of a finished number, with the checks after it. -/
theorem endNumber_ends (g : GenNo) (n : LineNo) (s : State) :
    ((afterEvent n (endNumber n (releaseGen g s))).line n).state = .converting ∧
      ((afterEvent n (endNumber n (releaseGen g s))).line n).decision = none ∧
      ((afterEvent n (endNumber n (releaseGen g s))).line n).draft = .none ∧
      ∀ x, (s.line n).draft = .opened x →
        ClosedInto s (afterEvent n (endNumber n (releaseGen g s))) n x .complete := by
  have line : (endNumber n (releaseGen g s)).line n = { (closeDraft n .complete (releaseGen g s)).line n with
      decision := none, state := .converting } := State.modLine_line _ _
  have closed := (closeDraft_closes n .complete (releaseGen g s)).draft
  have notSending : ((endNumber n (releaseGen g s)).line n).state ≠ .sending := by
    rw [line]
    exact nofun
  obtain ⟨state, decision, draft, -⟩ := (afterEvent_touches n (endNumber n (releaseGen g s)) n).unfinished
    (LineCtx.finished_of_not_sending notSending)
  refine ⟨by rw [state, line], by rw [decision, line], by rw [draft, line]; exact closed, fun x hx => ?_⟩
  exact .of_close (t := releaseGen g s) rfl rfl hx (afterEvent_records n (endNumber n (releaseGen g s))).fifo

/-- R123, R141: the generator plays the head of the queue of its line from the tone table. -/
theorem enterOn_plays {e : QueueEntry} {rest : List QueueEntry} (attached : (s.gen g).attached = some n)
    (queue : (s.line n).queue = e :: rest) :
    (enterOn g s).gen g = { s.gen g with state := .on, timer := .running 0 (s.boundProfile n).toneOnMs } ∧
      (enterOn g s).voices.get g =
        { index := 0
          low := (s.settings.tones.get e.symbol).low.load
          high := (s.settings.tones.get e.symbol).high.load } := by
  unfold enterOn
  rw [attached]
  dsimp only
  rw [queue]
  dsimp only
  have played := modGen_gen g (fun x => { x with state := .on, timer := .running 0 (s.boundProfile n).toneOnMs }) s
  exact ⟨played, by simp⟩

variable (serves : s.serves g n) (calm : s.noEmergency = true) (waits : isWaiting s n = false)
include serves calm waits

/-- R116, R119: the checks leave the generator playing. -/
theorem enterOn_keeps {e : QueueEntry} {rest : List QueueEntry} (queue : (s.line n).queue = e :: rest) :
    GenKept g (enterOn g s) (afterEvent n (enterOn g s)) ∧
      ((afterEvent n (enterOn g s)).line n).state = (s.line n).state := by
  obtain ⟨own, gens, claims, -⟩ := enterOn_others g s
  have attached : ∀ k, ((enterOn g s).gen k).attached = (s.gen k).attached := fun k => by
    by_cases e : k = g
    · rw [e, own]
    · rw [gens k e]
  have stillCalm := (noEmergency_congr claims).trans calm
  obtain ⟨plays, -⟩ := enterOn_plays serves.1 queue
  refine ⟨.afterEvent ?_ (serves.congr attached) stillCalm ((isWaiting_congr_waitList claims n).trans waits) ?_,
    (afterEvent_keepsNumber stillCalm).state.trans (NumbersKept.enterOn g s n).state⟩
  · rw [plays]
    exact nofun
  · rw [plays]
    exact nofun

/-- R123: the checks leave a generator that holds for an empty queue. -/
theorem hold_keeps (empty : (s.line n).queue = []) (t : Timer) :
    GenKept g (s.modGen g fun x => { x with state := .hold, timer := t })
      (afterEvent n (s.modGen g fun x => { x with state := .hold, timer := t })) := by
  refine .afterEvent ?_ (serves.congr fun k => ?_) calm waits fun _ => empty
  · rw [modGen_gen]
    exact nofun
  · exact modGen_attached g k s (f := fun x => { x with state := .hold, timer := t }) fun _ => rfl

omit calm in
/-- R125: the line has lost its one generator, and waits for nothing. -/
theorem releaseGen_detaches (empty : (s.line n).queue = []) : Detached n (releaseGen g s) := by
  obtain ⟨-, one⟩ := serves
  obtain ⟨-, detached, others⟩ := releaseGen_gens g s
  refine ⟨fun k hk => ?_, isWaiting_eq_false_iff.1 waits, empty⟩
  by_cases e : k = g
  · rw [e, detached] at hk
    cases hk
  · rw [others k e] at hk
    exact e (one k hk)

end

/-- Settles O47, by what the line has to send when the timer expires. -/
theorem Proofs.gapAndHoldExpiry : Obligations.GapAndHoldExpiry := by
  intro g n s serves calm waits
  refine ⟨fun due => ?_, fun due empty => ?_⟩
  · have expires := gapExpires_eq serves.1
    have queue : ((gapExpires g s).line n).queue.map QueueEntry.what = (s.line n).queue.map QueueEntry.what := by
      rw [expires]
      exact (gapEnded_touches.trans (afterEvent_touches n _) n).queue
    refine ⟨_, exec_gapExpiry_due due, by simp [HostSideKept], by simp, by simp, by simp, by simp, queue,
      fun d sending decision finished => ?_, fun e rest queue unsent => ?_, fun other empty hold => ?_,
      fun other empty hold => ?_⟩
    · rw [expires, gapEnded_finished sending decision finished]
      exact endNumber_ends g n s
    · obtain ⟨gen, voice⟩ := enterOn_plays serves.1 queue
      obtain ⟨kept, state⟩ := enterOn_keeps serves calm waits queue
      rw [expires, gapEnded_plays (by rw [queue]; exact List.cons_ne_nil _ _) unsent, kept.gen, kept.voice, gen, voice]
      exact ⟨rfl, serves.1, rfl, state, rfl, rfl, rfl⟩
    · have kept := hold_keeps serves calm waits empty (.running 0 (s.boundProfile n).genHoldMs)
      rw [expires, gapEnded_holds other empty hold, kept.gen, modGen_gen]
      exact ⟨rfl, serves.1, rfl⟩
    · rw [expires, gapEnded_releases other empty hold]
      exact (releaseGen_detaches serves waits empty).afterEvent.1.genOf
  · obtain ⟨detached, line⟩ := (releaseGen_detaches serves waits empty).afterEvent
    rw [← holdExpires_eq serves.1] at detached line
    have shown : ((holdExpires g s).line n).queue = (s.line n).queue ∧
        ((holdExpires g s).line n).number = (s.line n).number ∧
        ((holdExpires g s).line n).state = (s.line n).state ∧ ((holdExpires g s).line n).draft = (s.line n).draft := by
      rw [line]
      split <;> exact ⟨rfl, rfl, rfl, rfl⟩
    obtain ⟨queue, number, state, draft⟩ := shown
    exact ⟨_, exec_holdExpiry_due due, by simp [HostSideKept], by simp, by simp, by simp, by simp, detached.genOf,
      queue.trans empty, number, fun _ => ⟨state, draft⟩⟩

end Sys2Proof.Machine
end

section
/-! One sample of a resonator: the recurrence, its saturation and the CLIP it shows (R136, R142, R145; O48). -/

namespace Sys2Proof.Machine

/-- R142: a value is saturated exactly when it lies outside the 16-bit range. -/
theorem saturate16_ne_self_iff (x : Int) : saturate16 x ≠ x ↔ x < -32768 ∨ 32767 < x := by
  unfold saturate16
  omega

theorem saturate16_eq_self {x : Int} (low : -32768 ≤ x) (high : x ≤ 32767) : saturate16 x = x := by
  unfold saturate16
  omega

namespace Resonator

variable {r : Resonator} {i : Nat}

/-- R136: a silent resonator contributes 0, and nothing of it is saturated. -/
theorem sample_of_silent (silent : r.silent = true) (i : Nat) : r.sample i = 0 ∧ r.clips i = false := by
  simp [sample, clips, silent]

theorem sample_zero (sounding : r.silent = false) : r.sample 0 = 0 := by
  simp [sample, sounding]

theorem sample_one (sounding : r.silent = false) : r.sample 1 = r.start := by
  simp [sample, sounding]

/-- R142: from index 2 on the sample is the saturated difference. -/
theorem sample_of_two_le (sounding : r.silent = false) (later : 2 ≤ i) : r.sample i = saturate16 r.difference := by
  obtain ⟨k, rfl⟩ := Nat.exists_eq_add_of_le' later
  simp [sample, sounding]

/-- R145: from index 2 on CLIP shows a difference outside the 16-bit range. -/
theorem clips_iff (sounding : r.silent = false) (later : 2 ≤ i) :
    r.clips i = true ↔ r.difference < -32768 ∨ 32767 < r.difference := by
  rw [← saturate16_ne_self_iff]
  simp [clips, sounding, later]

end Resonator

/-- Settles O48. -/
theorem resonatorSample : Obligations.ResonatorSample := by
  intro r
  refine ⟨fun i silent => Resonator.sample_of_silent silent i,
    fun sounding => ⟨Resonator.sample_zero sounding, Resonator.sample_one sounding⟩,
    fun i sounding later => ?_, fun i => ⟨rfl, rfl, rfl, rfl⟩⟩
  obtain ⟨notAbove, notBelow, even⟩ :=
    roundHalfEven_nearestEven (2 * r.coefficient * r.y1) (den := 32768) (by decide)
  exact ⟨roundHalfEven (2 * r.coefficient * r.y1) 32768, by omega, by omega,
    Resonator.sample_of_two_le sounding later, Resonator.clips_iff sounding later⟩

end Sys2Proof.Machine
end

section
/-! The derived tone values (R137; O18). The fixed-point series of log 17 are tied to the real cosine and sine: the
exact alternating series is within `2^-59` of the function it belongs to, and the whole numbers of the model stay within a few
units of it. What R137 says of c and s1 then follows from the functions themselves. -/

namespace Sys2Proof.Machine

/-! ### The exact series -/

/-- What `waveSeries` multiplies its first term by when no division is rounded. -/
noncomputable def waveFactor : Nat → ℝ → Nat → ℝ
  | 0, _, _ => 0
  | fuel + 1, x, a => 1 - x / ((a + 1) * (a + 2)) * waveFactor fuel x (a + 2)

theorem waveFactor_succ (fuel : Nat) (x : ℝ) (a : Nat) :
    waveFactor (fuel + 1) x a = 1 - x / ((a + 1) * (a + 2)) * waveFactor fuel x (a + 2) := rfl

theorem waveFactor_eq_sum (fuel : Nat) (x : ℝ) (a : Nat) :
    waveFactor fuel x a = ∑ k ∈ Finset.range fuel, (-x) ^ k * (a.factorial / (a + 2 * k).factorial) := by
  induction fuel generalizing a with
  | zero => simp [waveFactor]
  | succ fuel ih =>
    have term (k : Nat) : (-x) ^ (k + 1) * ((a.factorial : ℝ) / (a + 2 * (k + 1)).factorial)
        = -(x / ((a + 1) * (a + 2))) * ((-x) ^ k * ((a + 2).factorial / (a + 2 + 2 * k).factorial)) := by
      rw [show a + 2 * (k + 1) = a + 2 + 2 * k by ring, Nat.factorial_succ (a + 1), Nat.factorial_succ a]
      push_cast
      field_simp
      ring
    rw [waveFactor_succ, ih, Finset.sum_range_succ', Finset.sum_congr rfl fun k _ => term k, ← Finset.mul_sum]
    have : (a.factorial : ℝ) ≠ 0 := by positivity
    simp [this]
    ring

/-- From the fortieth term on the terms of the series halve, starting below `2^-60`. -/
theorem ten_pow_div_factorial_le (k : Nat) :
    (10 : ℝ) ^ (k + 40) / (2 * (k + 40)).factorial ≤ 1 / 2 ^ 60 / 2 ^ k := by
  induction k with
  | zero =>
    norm_num [Nat.factorial]
  | succ k ih =>
    have split : (10 : ℝ) ^ (k + 1 + 40) / (2 * (k + 1 + 40)).factorial
        = 10 / ((2 * k + 82) * (2 * k + 81)) * (10 ^ (k + 40) / (2 * (k + 40)).factorial) := by
      rw [show 2 * (k + 1 + 40) = 2 * (k + 40) + 1 + 1 by ring, Nat.factorial_succ, Nat.factorial_succ]
      push_cast
      field_simp
      ring
    have ratio : (10 : ℝ) / ((2 * k + 82) * (2 * k + 81)) ≤ 1 / 2 := by
      rw [div_le_div_iff₀ (by positivity) (by norm_num)]
      nlinarith [(Nat.cast_nonneg k : (0 : ℝ) ≤ k)]
    calc _ = _ := split
      _ ≤ 1 / 2 * (1 / 2 ^ 60 / 2 ^ k) := mul_le_mul ratio ih (by positivity) (by norm_num)
      _ = 1 / 2 ^ 60 / 2 ^ (k + 1) := by rw [pow_succ]; ring

section
variable {x : ℝ} (nonneg : 0 ≤ x) (small : x ≤ 10)
include nonneg

theorem abs_waveFactor_succ_le (fuel a : Nat) :
    |waveFactor (fuel + 1) x a| ≤ 1 + x / ((a + 1) * (a + 2)) * |waveFactor fuel x (a + 2)| := by
  have factor : 0 ≤ x / (((a : ℝ) + 1) * (a + 2)) := by positivity
  rw [waveFactor_succ]
  refine (abs_sub _ _).trans ?_
  rw [abs_one, abs_mul, abs_of_nonneg factor]

include small

/-- Past the first term the divisors are 12 and more, so that the rest never outgrows 6. -/
theorem abs_waveFactor_le (fuel : Nat) {a : Nat} (h : 2 ≤ a) : |waveFactor fuel x a| ≤ 6 := by
  induction fuel generalizing a with
  | zero => simp [waveFactor]
  | succ fuel ih =>
    have wide : (2 : ℝ) ≤ a := by exact_mod_cast h
    have ratio : x / ((a + 1) * (a + 2)) ≤ 5 / 6 := by
      rw [div_le_iff₀ (by positivity)]
      nlinarith
    calc |waveFactor (fuel + 1) x a|
        ≤ 1 + x / ((a + 1) * (a + 2)) * |waveFactor fuel x (a + 2)| := abs_waveFactor_succ_le nonneg fuel a
      _ ≤ 1 + 5 / 6 * 6 := by
        gcongr
        exact ih (by omega)
      _ = 6 := by norm_num

/-- The whole of the sine's series, whose first divisor is 6. -/
theorem abs_waveFactor_one_le (fuel : Nat) : |waveFactor (fuel + 1) x 1| ≤ 11 := by
  have ratio : x / (((1 : Nat) + 1) * ((1 : Nat) + 2)) ≤ 5 / 3 := by
    push_cast
    linarith
  calc |waveFactor (fuel + 1) x 1|
      ≤ 1 + x / (((1 : Nat) + 1) * ((1 : Nat) + 2)) * |waveFactor fuel x 3| := abs_waveFactor_succ_le nonneg fuel 1
    _ ≤ 1 + 5 / 3 * 6 := by
      gcongr
      exact abs_waveFactor_le nonneg small fuel (by omega)
    _ = 11 := by norm_num

/-- Forty terms of the series come within `2^-59` of its limit. -/
theorem abs_waveFactor_sub_le {a : Nat} {limit : ℝ}
    (sums : HasSum (fun k => (-x) ^ k * ((a.factorial : ℝ) / (a + 2 * k).factorial)) limit) :
    |limit - waveFactor 40 x a| ≤ 1 / 2 ^ 59 := by
  have tail := (hasSum_nat_add_iff' 40).2 sums
  rw [← waveFactor_eq_sum] at tail
  have geometric := hasSum_geometric_two' ((1 : ℝ) / 2 ^ 59)
  refine tail.norm_le_of_bounded geometric fun k => ?_
  have factorials : (a.factorial : ℝ) / (a + 2 * (k + 40)).factorial ≤ 1 / (2 * (k + 40)).factorial := by
    rw [div_le_div_iff₀ (by positivity) (by positivity), one_mul]
    exact_mod_cast Nat.le_of_dvd (Nat.factorial_pos _) (Nat.factorial_mul_factorial_dvd_factorial_add a _)
  calc ‖(-x) ^ (k + 40) * ((a.factorial : ℝ) / (a + 2 * (k + 40)).factorial)‖
      = x ^ (k + 40) * ((a.factorial : ℝ) / (a + 2 * (k + 40)).factorial) := by
        rw [norm_mul, norm_pow, norm_neg, Real.norm_of_nonneg nonneg, Real.norm_of_nonneg (by positivity)]
    _ ≤ 10 ^ (k + 40) * (1 / (2 * (k + 40)).factorial) := by gcongr
    _ = 10 ^ (k + 40) / (2 * (k + 40)).factorial := by ring
    _ ≤ 1 / 2 ^ 60 / 2 ^ k := ten_pow_div_factorial_le k
    _ = 1 / 2 ^ 59 / 2 / 2 ^ k := by ring

end

theorem abs_cos_sub_waveFactor_le {y : ℝ} (small : y ^ 2 ≤ 10) :
    |Real.cos y - waveFactor 40 (y ^ 2) 0| ≤ 1 / 2 ^ 59 := by
  refine abs_waveFactor_sub_le (sq_nonneg y) small ((Real.hasSum_cos y).congr_fun fun k => ?_)
  rw [neg_pow, ← pow_mul, Nat.zero_add, Nat.factorial_zero, Nat.cast_one]
  ring

theorem abs_sin_sub_waveFactor_le {y : ℝ} (pos : 0 < y) (small : y ^ 2 ≤ 10) :
    |Real.sin y - y * waveFactor 40 (y ^ 2) 1| ≤ y / 2 ^ 59 := by
  have sums : HasSum (fun k => (-(y ^ 2)) ^ k * (((1 : Nat).factorial : ℝ) / (1 + 2 * k).factorial))
      (Real.sin y / y) := by
    refine ((Real.hasSum_sin y).div_const y).congr_fun fun k => ?_
    rw [neg_pow, ← pow_mul, Nat.add_comm 1, Nat.factorial_one, Nat.cast_one, pow_succ]
    field_simp
  have close := abs_waveFactor_sub_le (sq_nonneg y) small sums
  calc |Real.sin y - y * waveFactor 40 (y ^ 2) 1|
      = |y * (Real.sin y / y - waveFactor 40 (y ^ 2) 1)| := by
        congr 1
        field_simp
    _ = y * |Real.sin y / y - waveFactor 40 (y ^ 2) 1| := by rw [abs_mul, abs_of_pos pos]
    _ ≤ y * (1 / 2 ^ 59) := by gcongr
    _ = y / 2 ^ 59 := by ring

/-! ### The series in whole numbers -/

/-- A division rounded down is below its quotient by less than 1. -/
theorem ediv_cast_bounds (num : Int) {den : Int} (pos : 0 < den) :
    ((num / den : Int) : ℝ) ≤ num / den ∧ (num : ℝ) / den - 1 < (num / den : Int) := by
  have real : (0 : ℝ) < den := by exact_mod_cast pos
  rw [le_div_iff₀ real, sub_lt_iff_lt_add, div_lt_iff₀ real]
  have low := Int.ediv_mul_le num pos.ne'
  have high := Int.lt_ediv_add_one_mul_self num pos
  exact ⟨by exact_mod_cast low, by exact_mod_cast high⟩

/-- The term of the series that follows `t`. -/
def nextTerm (x2 t : Int) (a : Nat) : Int := -(t * x2 / fixOne) / (((a + 1) * (a + 2) : Nat) : Int)

theorem waveSeries_succ (fuel : Nat) (x2 t : Int) (a : Nat) :
    waveSeries (fuel + 1) x2 t a = t + waveSeries fuel x2 (nextTerm x2 t a) (a + 2) := rfl

theorem fixOne_cast : (fixOne : ℝ) = 2 ^ 96 := by norm_num [fixOne]

/-- The next term, with both of its divisions rounded, is within 2 of the exact one. -/
theorem abs_nextTerm_add_le (x2 t : Int) (a : Nat) :
    |(nextTerm x2 t a : ℝ) + t * ((x2 : ℝ) / 2 ^ 96 / ((a + 1) * (a + 2)))| ≤ 2 := by
  obtain ⟨innerHigh, innerLow⟩ := ediv_cast_bounds (t * x2) (den := fixOne) (by decide)
  obtain ⟨outerHigh, outerLow⟩ :=
    ediv_cast_bounds (-(t * x2 / fixOne)) (den := ((a + 1) * (a + 2) : Nat)) (by positivity)
  rw [← nextTerm] at outerHigh outerLow
  push_cast [fixOne_cast] at innerHigh innerLow outerHigh outerLow
  set inner : ℝ := ((t * x2 / fixOne : Int) : ℝ)
  set d : ℝ := ((a : ℝ) + 1) * (a + 2)
  have wide : 1 ≤ d := by nlinarith [(Nat.cast_nonneg a : (0 : ℝ) ≤ a)]
  have shift : |-inner / d + t * ((x2 : ℝ) / 2 ^ 96 / d)| ≤ 1 := by
    rw [show -inner / d + t * ((x2 : ℝ) / 2 ^ 96 / d) = ((t : ℝ) * x2 / 2 ^ 96 - inner) / d by ring, abs_div,
      abs_of_pos (by linarith : 0 < d), div_le_one (by linarith), abs_le]
    constructor <;> linarith
  rw [abs_le] at shift ⊢
  constructor <;> linarith

/-- `waveSeries` strays from the exact series by at most 12 units for each of its terms. -/
theorem abs_waveSeries_sub_le {x2 : Int} (nonneg : 0 ≤ (x2 : ℝ) / 2 ^ 96) (small : (x2 : ℝ) / 2 ^ 96 ≤ 10)
    (fuel : Nat) (t : Int) (a : Nat) : |(waveSeries fuel x2 t a : ℝ) - t * waveFactor fuel (x2 / 2 ^ 96) a| ≤ 12 * fuel := by
  induction fuel generalizing t a with
  | zero => simp [waveSeries, waveFactor]
  | succ fuel ih =>
    have rounded : |((nextTerm x2 t a : ℝ) + t * ((x2 : ℝ) / 2 ^ 96 / ((a + 1) * (a + 2))))
        * waveFactor fuel (x2 / 2 ^ 96) (a + 2)| ≤ 2 * 6 := by
      rw [abs_mul]
      exact mul_le_mul (abs_nextTerm_add_le x2 t a) (abs_waveFactor_le nonneg small fuel (by omega)) (abs_nonneg _)
        (by norm_num)
    have rest := ih (nextTerm x2 t a) (a + 2)
    rw [waveSeries_succ, waveFactor_succ]
    push_cast
    rw [abs_le] at rounded rest ⊢
    constructor <;> linarith

/-! ### The angle -/

/-- R137: the angle the wave of `f` Hz advances in one frame. -/
noncomputable def toneAngle (f : Nat) : ℝ := Real.pi * f / 4000

/-- The square of the angle, as `waveSeries` is given it. -/
def fixSquare (f : Nat) : Int := fixAngle f * fixAngle f / fixOne

/-- The angle whose square the series really takes. -/
noncomputable def seriesAngle (f : Nat) : ℝ := Real.sqrt (fixSquare f / 2 ^ 96)

theorem fixSquare_nonneg (f : Nat) : 0 ≤ fixSquare f :=
  Int.ediv_nonneg (mul_self_nonneg _) (by decide)

theorem seriesAngle_sq (f : Nat) : seriesAngle f ^ 2 = fixSquare f / 2 ^ 96 := by
  have := fixSquare_nonneg f
  exact Real.sq_sqrt (by positivity)

section
variable {f : Nat} (low : 100 ≤ f) (high : f ≤ 3900)
include low high

theorem toneAngle_mem : 1 / 20 < toneAngle f ∧ toneAngle f < Real.pi := by
  have lowReal : (100 : ℝ) ≤ f := by exact_mod_cast low
  have highReal : (f : ℝ) ≤ 3900 := by exact_mod_cast high
  have pi := Real.pi_gt_three
  unfold toneAngle
  constructor <;> nlinarith

/-- Log 17: the angle of the model is the exact one to within `2^-63`. -/
theorem abs_fixAngle_sub_le : |(fixAngle f : ℝ) / 2 ^ 96 - toneAngle f| ≤ 1 / 2 ^ 63 := by
  have highReal : (f : ℝ) ≤ 3900 := by exact_mod_cast high
  have nonneg : (0 : ℝ) ≤ f := Nat.cast_nonneg f
  have piLow := Real.pi_gt_d20
  have piHigh := Real.pi_lt_d20
  have scale : |(fixPi : ℝ) / 2 ^ 96 - Real.pi| ≤ 1 / 2 ^ 64 := by
    rw [abs_le]
    unfold fixPi
    constructor <;> norm_num <;> linarith
  obtain ⟨below, above⟩ := ediv_cast_bounds (fixPi * f) (den := 4000) (by decide)
  push_cast at below above
  have off : |((fixPi : ℝ) / 2 ^ 96 - Real.pi) * (f / 4000)| ≤ 1 / 2 ^ 64 * 1 := by
    rw [abs_mul, abs_of_nonneg (by positivity : (0 : ℝ) ≤ f / 4000)]
    exact mul_le_mul scale (by linarith) (by positivity) (by positivity)
  rw [abs_le] at off ⊢
  unfold fixAngle toneAngle
  constructor <;> linarith

/-- Taking the square down to a whole number moves the angle by less than `2^-91`. -/
theorem abs_seriesAngle_sub_fixAngle_le : |seriesAngle f - fixAngle f / 2 ^ 96| ≤ 1 / 2 ^ 91 := by
  set y := seriesAngle f with hy
  set α : ℝ := fixAngle f / 2 ^ 96 with hα
  have yNonneg : 0 ≤ y := Real.sqrt_nonneg _
  have close := abs_le.1 (abs_fixAngle_sub_le low high)
  have wide : 1 / 32 ≤ y + α := by linarith [(toneAngle_mem low high).1, close.1]
  obtain ⟨below, above⟩ := ediv_cast_bounds (fixAngle f * fixAngle f) (den := fixOne) (by decide)
  have squares : |(y - α) * (y + α)| ≤ 1 / 2 ^ 96 := by
    push_cast [fixOne_cast] at below above
    rw [show (y - α) * (y + α) = y ^ 2 - α ^ 2 by ring, hy, seriesAngle_sq, hα, fixSquare, abs_le]
    constructor <;> linarith
  rw [abs_mul, abs_of_pos (by linarith : 0 < y + α)] at squares
  nlinarith [abs_nonneg (y - α)]

theorem abs_seriesAngle_sub_toneAngle_le : |seriesAngle f - toneAngle f| ≤ 1 / 2 ^ 62 := by
  have := abs_sub_le (seriesAngle f) (fixAngle f / 2 ^ 96) (toneAngle f)
  linarith [abs_seriesAngle_sub_fixAngle_le low high, abs_fixAngle_sub_le low high]

theorem seriesAngle_mem : 0 < seriesAngle f ∧ seriesAngle f ≤ 3.15 := by
  obtain ⟨above, below⟩ := toneAngle_mem low high
  have close := abs_le.1 (abs_seriesAngle_sub_toneAngle_le low high)
  have pi := Real.pi_lt_d4
  constructor <;> linarith

theorem seriesAngle_sq_le : seriesAngle f ^ 2 ≤ 10 := by
  obtain ⟨pos, below⟩ := seriesAngle_mem low high
  nlinarith

/-! ### The cosine and the sine -/

omit low high in
theorem fixCos_eq (f : Nat) : fixCos f = waveSeries 40 (fixSquare f) fixOne 0 := rfl

omit low high in
theorem fixSin_eq (f : Nat) : fixSin f = waveSeries 40 (fixSquare f) (fixAngle f) 1 := rfl

/-- The forty terms that the model takes are the exact series at `seriesAngle`, to within 480 units. -/
theorem abs_fixSeries_sub_le (t : Int) (a : Nat) :
    |(waveSeries 40 (fixSquare f) t a : ℝ) - t * waveFactor 40 (seriesAngle f ^ 2) a| ≤ 480 := by
  have small := seriesAngle_sq_le low high
  have nonneg := sq_nonneg (seriesAngle f)
  rw [seriesAngle_sq] at small nonneg ⊢
  have := abs_waveSeries_sub_le nonneg small 40 t a
  norm_num at this ⊢
  exact this

/-- Log 17: the model's cosine is the exact one to within `2^-56`. -/
theorem abs_fixCos_sub_le : |(fixCos f : ℝ) - 2 ^ 96 * Real.cos (toneAngle f)| ≤ 2 ^ 40 := by
  have series := abs_fixSeries_sub_le low high fixOne 0
  rw [← fixCos_eq, fixOne_cast] at series
  have limit := abs_cos_sub_waveFactor_le (seriesAngle_sq_le low high)
  have angle := (Real.abs_cos_sub_cos_le _ _).trans (abs_seriesAngle_sub_toneAngle_le low high)
  rw [abs_le] at series limit angle ⊢
  constructor <;> linarith

/-- Log 17: the model's sine is the exact one to within `2^-56`. -/
theorem abs_fixSin_sub_le : |(fixSin f : ℝ) - 2 ^ 96 * Real.sin (toneAngle f)| ≤ 2 ^ 40 := by
  obtain ⟨pos, below⟩ := seriesAngle_mem low high
  have small := seriesAngle_sq_le low high
  have series := abs_fixSeries_sub_le low high (fixAngle f) 1
  rw [← fixSin_eq] at series
  have start : |(seriesAngle f - fixAngle f / 2 ^ 96) * waveFactor 40 (seriesAngle f ^ 2) 1| ≤ 1 / 2 ^ 91 * 11 := by
    rw [abs_mul]
    exact mul_le_mul (abs_seriesAngle_sub_fixAngle_le low high) (abs_waveFactor_one_le (sq_nonneg _) small 39)
      (abs_nonneg _) (by positivity)
  have limit := abs_sin_sub_waveFactor_le pos small
  have angle := (Real.abs_sin_sub_sin_le _ _).trans (abs_seriesAngle_sub_toneAngle_le low high)
  rw [abs_le] at series start limit angle ⊢
  constructor <;> linarith

end

/-! ### The coefficient -/

namespace NearestEven

variable {num num' q q' : Int} {den : Nat}

/-- Fractions more than 1 apart round to different whole numbers, in the same order. -/
theorem lt_of_add_lt (h : NearestEven num den q) (h' : NearestEven num' den q') (hd : 0 < den)
    (apart : num + den < num') : q < q' := by
  have ordered : q * (den : Int) < q' * den := by
    have := h.notAbove
    have := h'.notBelow
    omega
  exact lt_of_mul_lt_mul_right ordered (by omega)

end NearestEven

/-- R137: 32768·cos ω rounded, before it is held to 16 bits. -/
def roundedCoefficient (f : Nat) : Int := roundHalfEven (32768 * fixCos f) (2 ^ 96)

theorem toneCoefficient_eq (f : Nat) : toneCoefficient f = saturate16 (roundedCoefficient f) := rfl

section
variable {f : Nat} (low : 100 ≤ f) (high : f < 3900)
include low high

/-- Between two neighbouring frequencies the wave halfway is at least as high as it is at the ends of the range. -/
theorem le_sin_midAngle : 201 / 4000 ≤ Real.sin (Real.pi * (2 * f + 1) / 8000) := by
  have lowReal : (100 : ℝ) ≤ f := by exact_mod_cast low
  have highReal : (f : ℝ) + 1 ≤ 3900 := by exact_mod_cast high
  have pi := Real.pi_pos
  have jordan {z : ℝ} (h : 201 ≤ z) (h' : z ≤ 4000) : 201 / 4000 ≤ Real.sin (Real.pi * z / 8000) := by
    have bound := Real.mul_le_sin (x := Real.pi * z / 8000) (by positivity) (by nlinarith)
    rw [show 2 / Real.pi * (Real.pi * z / 8000) = z / 4000 by field_simp; norm_num] at bound
    linarith
  rcases le_total ((2 * f + 1 : ℝ)) 4000 with rising | falling
  · exact jordan (by linarith) rising
  · rw [← Real.sin_pi_sub,
      show Real.pi - Real.pi * (2 * f + 1) / 8000 = Real.pi * (8000 - (2 * f + 1)) / 8000 by ring]
    exact jordan (by linarith) (by linarith)

/-- R137: one more hertz takes more than 1 from 32768·cos ω. -/
theorem cos_toneAngle_falls :
    1.2 / 32768 ≤ Real.cos (toneAngle f) - Real.cos (toneAngle (f + 1)) := by
  have product : Real.cos (toneAngle f) - Real.cos (toneAngle (f + 1))
      = 2 * Real.sin (Real.pi * (2 * f + 1) / 8000) * Real.sin (Real.pi / 8000) := by
    rw [Real.cos_sub_cos]
    unfold toneAngle
    push_cast
    rw [show (Real.pi * f / 4000 + Real.pi * (f + 1) / 4000) / 2 = Real.pi * (2 * f + 1) / 8000 by ring,
      show (Real.pi * f / 4000 - Real.pi * (f + 1) / 4000) / 2 = -(Real.pi / 8000) by ring, Real.sin_neg]
    ring
  have pi := Real.pi_gt_d2
  have middle := le_sin_midAngle low high
  have step : 0.00039 ≤ Real.sin (Real.pi / 8000) := by
    have cube := Real.sin_gt_sub_cube (x := Real.pi / 8000) (by positivity)
    have small : (Real.pi / 8000) ^ 3 ≤ (4 / 8000) ^ 3 := by
      gcongr
      exact Real.pi_le_four
    linarith
  rw [product]
  nlinarith

/-- R137: before it is held to 16 bits, c falls strictly as the frequency rises. -/
theorem roundedCoefficient_falls : roundedCoefficient (f + 1) < roundedCoefficient f := by
  have here := roundHalfEven_nearestEven (32768 * fixCos f) (den := 2 ^ 96) (by positivity)
  have next := roundHalfEven_nearestEven (32768 * fixCos (f + 1)) (den := 2 ^ 96) (by positivity)
  refine next.lt_of_add_lt here (by positivity) ?_
  have falls := cos_toneAngle_falls low high
  have atHere := abs_le.1 (abs_fixCos_sub_le low high.le)
  have atNext := abs_le.1 (abs_fixCos_sub_le (f := f + 1) (by omega) high)
  have real : (32768 * fixCos (f + 1) + 2 ^ 96 : ℝ) < 32768 * fixCos f := by linarith
  exact_mod_cast real

end

/-- R137: the coefficients of the ends of the range. -/
theorem roundedCoefficient_ends : roundedCoefficient 100 = 32667 ∧ roundedCoefficient 3900 = -32667 := by
  decide +kernel

theorem roundedCoefficient_antitone {f g : Nat} (low : 100 ≤ f) (le : f ≤ g) (high : g ≤ 3900) :
    roundedCoefficient g ≤ roundedCoefficient f := by
  induction g, le using Nat.le_induction with
  | base => rfl
  | succ g le ih => exact (roundedCoefficient_falls (low.trans le) high).le.trans (ih (by omega))

/-- R137: c lies in the range of its ends, so that nothing is saturated. -/
theorem roundedCoefficient_range {f : Nat} (low : 100 ≤ f) (high : f ≤ 3900) :
    -32667 ≤ roundedCoefficient f ∧ roundedCoefficient f ≤ 32667 := by
  obtain ⟨first, last⟩ := roundedCoefficient_ends
  rw [← last, ← first]
  exact ⟨roundedCoefficient_antitone low high le_rfl, roundedCoefficient_antitone le_rfl low high⟩

theorem toneCoefficient_eq_rounded {f : Nat} (low : 100 ≤ f) (high : f ≤ 3900) :
    toneCoefficient f = roundedCoefficient f := by
  obtain ⟨below, above⟩ := roundedCoefficient_range low high
  rw [toneCoefficient_eq]
  exact saturate16_eq_self (by omega) (by omega)

/-! ### The start value -/

/-- The model's sine passes the range from 0 to 1 by no more than its error. -/
theorem fixSin_range {f : Nat} (low : 100 ≤ f) (high : f ≤ 3900) :
    -2 ^ 40 ≤ fixSin f ∧ fixSin f ≤ 2 ^ 96 + 2 ^ 40 := by
  obtain ⟨above, below⟩ := toneAngle_mem low high
  have close := abs_le.1 (abs_fixSin_sub_le low high)
  have nonneg := Real.sin_nonneg_of_nonneg_of_le_pi (by linarith) below.le
  have most := Real.sin_le_one (toneAngle f)
  have real : (-2 ^ 40 : ℝ) ≤ fixSin f ∧ (fixSin f : ℝ) ≤ 2 ^ 96 + 2 ^ 40 := by constructor <;> linarith
  exact_mod_cast real

/-- R137: s1 lies from 0 to A: the error of the sine is too small for any amplitude to round past them. -/
theorem toneStart_range {f a : Nat} (low : 100 ≤ f) (high : f ≤ 3900) (amplitude : a ≤ 32767) :
    0 ≤ toneStart f a ∧ toneStart f a ≤ a := by
  have nearest := roundHalfEven_nearestEven ((a : Int) * fixSin f) (den := 2 ^ 96) (by positivity)
  obtain ⟨below, above⟩ := fixSin_range low high
  have least : (a : Int) * -2 ^ 40 ≤ a * fixSin f := by gcongr
  have most : (a : Int) * fixSin f ≤ a * (2 ^ 96 + 2 ^ 40) := by gcongr
  obtain ⟨notAbove, notBelow, -⟩ := nearest
  rw [← toneStart] at notAbove notBelow
  push_cast at notAbove notBelow
  omega

/-- Settles O18: the ranges of c follow from its fall between the two ends, those of s1 from the bounds of the sine. -/
theorem derivedValuesInRange : Obligations.DerivedValuesInRange := by
  refine ⟨by decide +kernel, fun f low high => ?_, fun f a low high amplitude =>
    ⟨?_, toneStart_range low high amplitude⟩⟩
  · rw [toneCoefficient_eq_rounded low high.le, toneCoefficient_eq_rounded (by omega) high]
    exact roundedCoefficient_falls low high
  · rw [toneCoefficient_eq_rounded low high]
    exact roundedCoefficient_range low high

end Sys2Proof.Machine
end

section
/-! What only raises causes: the orders' accesses, the end of an order, and the frames of both highways (R10, R169, R175,
R187). -/

namespace Sys2Proof.Machine

namespace OnlyRaises

variable {s t u : State}

theorem refl (s : State) : OnlyRaises s s := .of_control rfl

/-- What leaves the registers comes before. -/
theorem after (h : OnlyRaises t u) (kept : t.control = s.control) : OnlyRaises s u := (of_control kept).trans h

/-- R169: an access that the port's check refuses raises WINDOW_FAULT. -/
theorem orderAccess (p : Purpose) (sa : Word) (len : Nat) (data : List Byte) (i : Nat) (s : State) :
    OnlyRaises s (orderAccess p sa len data i s) := by
  unfold Machine.orderAccess
  split
  · exact .of_control (by simp)
  · have refused := (OnlyRaises.raise .windowFault (emptyCurrentLoad s)).after (s := s) (by simp)
    exact refused.trans (.of_control (by simp))

/-! ### Orders -/

theorem readLine (b : OrderBody) (s : State) : OnlyRaises s (readLine b s) := by
  unfold Machine.readLine
  split
  · exact .orderAccess _ _ _ _ _ s
  · exact .of_control (by simp)

theorem loadProfile (b : OrderBody) (s : State) : OnlyRaises s (loadProfile b s) := by
  unfold Machine.loadProfile
  split
  · exact (OnlyRaises.orderAccess _ _ _ _ _ _).after (by simp)
  · exact .of_control (by simp)

theorem loadTones (b : OrderBody) (s : State) : OnlyRaises s (loadTones b s) :=
  (OnlyRaises.orderAccess _ _ _ _ _ _).after (by simp)

theorem toneRead (bytes : ToneBytes) (s : State) : OnlyRaises s (toneRead bytes s) := by
  unfold Machine.toneRead
  split
  · split
    · exact .of_control (by simp)
    · unfold tonePassed
      split
      · exact (OnlyRaises.orderAccess _ _ _ _ _ _).after (by simp)
      · exact .of_control (by simp)
  · exact .refl s

theorem loadPlan (b : OrderBody) (s : State) : OnlyRaises s (loadPlan b s) := by
  unfold Machine.loadPlan
  dsimp only
  split
  · split
    · exact .of_control (by simp)
    · exact (OnlyRaises.orderAccess _ _ _ _ _ _).after (by simp)
  · exact .of_control (by simp)

theorem planRead (bytes : PlanBytes) (s : State) : OnlyRaises s (planRead bytes s) := by
  unfold Machine.planRead
  split
  · unfold takePlanEntry
    dsimp only
    split
    · exact .of_control (by simp)
    · split
      · exact (OnlyRaises.orderAccess _ _ _ _ _ _).after (by simp)
      · exact .of_control (by simp)
  · exact .refl s

/-- R175: an order that is done raises ORDER_DONE. -/
theorem orderDone (s : State) : OnlyRaises s (orderDone s) := by
  unfold Machine.orderDone
  split
  · exact .refl s
  · refine (OnlyRaises.raise .orderDone s).trans (.of_control ?_)
    dsimp only
    split <;> simp

/-! ### Frames -/

/-- R10: a highway's watch changes, and its cause is raised. -/
theorem watched (k : Cause) (f : SlotPath → SlotPath) (s : State) : OnlyRaises s (Machine.raise k (s.modSlotPath f)) :=
  (OnlyRaises.raise k _).after rfl

/-- R10: a line frame that restores its highway raises LINE_HIGHWAY. -/
theorem lineFrameArrives (f : LineFrame) (s : State) : OnlyRaises s (lineFrameArrives f s) := by
  unfold Machine.lineFrameArrives
  split
  · exact .of_control (by simp)
  · split
    · exact (OnlyRaises.watched .lineHighway (fun p => { p with lineHw := p.lineHw.restore }) s).trans (.of_control (by simp))
    · exact .of_control rfl

theorem lineWatchExpires (s : State) : OnlyRaises s (lineWatchExpires s) := by
  by_cases present : s.slotPath.lineHw.present = true
  · exact (OnlyRaises.raise .lineHighway s).trans (.of_control (lineWatchExpires_control present))
  · unfold Machine.lineWatchExpires
    rw [if_neg present]
    exact .of_control rfl

/-- R10: a return frame that restores its highway raises RETURN_HIGHWAY. -/
theorem returnFrameArrives (f : ReturnFrame) (s : State) : OnlyRaises s (returnFrameArrives f s) := by
  unfold Machine.returnFrameArrives
  split
  · exact .of_control (by simp)
  · split
    · exact (OnlyRaises.watched .returnHighway (fun p => { p with retHw := p.retHw.restore }) s).trans (.of_control (by simp))
    · exact .of_control rfl

theorem returnWatchExpires (s : State) : OnlyRaises s (returnWatchExpires s) := by
  unfold Machine.returnWatchExpires loseReturnHighway
  split
  · exact (OnlyRaises.watched .returnHighway (fun p => { p with retHw := p.retHw.lose }) s).trans (.of_control (by simp))
  · exact .of_control rfl

end OnlyRaises

end Sys2Proof.Machine
end

section
/-! The registers stay legal: what a start, a stop, a write of a register and a completed access make of them (R163, R166,
R181 to R187). -/

namespace Sys2Proof.Machine

/-! ### What keeps the registers legal -/

/-- R181 to R183, R187, R163: the part's registers are legal. -/
def State.ControlLegal (s : State) : Prop := s.control.Legal

namespace Control.Legal

variable {c d : Control}

/-- R181, R183: HOLD_RESET reads 1 in RESET_HELD alone. -/
theorem held_iff (h : c.Legal) : c.holdReset = true ↔ c.part = .resetHeld := by
  obtain ⟨held, -⟩ := h
  exact held

theorem released_iff (h : c.Legal) : c.holdReset = false ↔ c.part ≠ .resetHeld := by
  rw [← Bool.not_eq_true, h.held_iff]

/-- R183, R184: RUN reads 0 in RESET_HELD and HALTED. -/
theorem run_of_stopped (h : c.Legal) (part : c.part = .resetHeld ∨ c.part = .halted) : c.run = false := by
  obtain ⟨-, stopped, -⟩ := h
  exact stopped part

/-- R183: RUN reads 1 in STARTING, RUNNING and START_FAILED. -/
theorem run_of_started (h : c.Legal) (part : c.part = .starting ∨ c.part = .running ∨ c.part = .startFailed) :
    c.run = true := by
  obtain ⟨-, -, started, -⟩ := h
  exact started part

theorem dropped_le (h : c.Legal) : c.recordsDropped ≤ 255 := by
  obtain ⟨-, -, -, -, -, dropped⟩ := h
  exact dropped

/-- R163: another count of dropped records that fits its field. -/
theorem drop (h : c.Legal) {k : Nat} (dropped : k ≤ 255) : { c with recordsDropped := k }.Legal := by
  obtain ⟨held, stopped, started, aligned, unused, -⟩ := h
  exact ⟨held, stopped, started, aligned, unused, dropped⟩

/-- The part goes over to a state in which HOLD_RESET reads 0; RUN agrees with it. -/
theorem moved (h : c.Legal) (hold : d.holdReset = false) (part : d.part ≠ .resetHeld)
    (stopped : d.part = .halted → d.run = false)
    (started : d.part = .starting ∨ d.part = .running ∨ d.part = .startFailed → d.run = true)
    (base : d.stationBase = c.stationBase) (mask : d.attentionMask = c.attentionMask)
    (dropped : d.recordsDropped ≤ 255) : d.Legal := by
  obtain ⟨-, -, -, aligned, unused, -⟩ := h
  refine ⟨⟨fun k => ?_, fun k => absurd k part⟩, fun k => stopped (k.resolve_left part), started, ?_, ?_, dropped⟩
  · rw [hold] at k
    cases k
  · rw [base]
    exact aligned
  · rw [mask]
    exact unused

end Control.Legal

theorem OnlyRaises.controlLegal {s t : State} (h : OnlyRaises s t) (hs : s.ControlLegal) : t.ControlLegal := by
  rw [State.ControlLegal, h]
  exact hs

theorem keeps_controlLegal {k : State → State} (h : ∀ s, OnlyRaises s (k s)) : Keeps State.ControlLegal k :=
  fun s => (h s).controlLegal

/-- An effect on other blocks. -/
theorem keeps_controlLegal_of_control {k : State → State} (h : ∀ s, (k s).control = s.control) :
    Keeps State.ControlLegal k := keeps_controlLegal fun s => .of_control (h s)

/-! ### Stopping -/

/-- R183: the part leaves STOPPING for HALTED with RUN 0, for STARTING with RUN 1. -/
theorem leaveStopping_controlLegal {s : State} (h : s.ControlLegal) (stopping : s.control.part = .stopping) :
    (leaveStopping s).ControlLegal := by
  have released : s.control.holdReset = false := h.released_iff.2 (by rw [stopping]; nofun)
  unfold leaveStopping
  dsimp only
  split
  · next run => exact h.moved released nofun nofun (fun _ => run) rfl rfl h.dropped_le
  · next run => exact h.moved released nofun (fun _ => Bool.eq_false_iff.2 run) nofun rfl rfl h.dropped_le

theorem stopAdvance_controlLegal : Keeps State.ControlLegal stopAdvance := fun s h => by
  unfold stopAdvance
  split
  · next stopping =>
    have part : s.control.part = .stopping := by simpa using stopping
    have torn : (stopLines (s.modControl fun c => { c with stopTornDown := true })).control
        = { s.control with stopTornDown := true } := by simp
    have tornLegal : (stopLines (s.modControl fun c => { c with stopTornDown := true })).ControlLegal := by
      rw [State.ControlLegal, torn]
      exact h
    dsimp only
    split <;> split
    · exact leaveStopping_controlLegal tornLegal (by rw [torn]; exact part)
    · exact tornLegal
    · exact leaveStopping_controlLegal h part
    · exact h
  · exact h

/-! ### The end of every step, and a frame moment -/

theorem advance_controlLegal : Keeps State.ControlLegal advance := fun s h =>
  keeps_controlLegal_of_control (k := portServe) (by simp) _ (stopAdvance_controlLegal s h)

theorem concludeIfQuiet_controlLegal : Keeps State.ControlLegal concludeIfQuiet :=
  keeps_controlLegal_of_control (by simp)

theorem epilogue_controlLegal : Keeps State.ControlLegal epilogue :=
  concludeIfQuiet_controlLegal.comp advance_controlLegal

theorem takeOne_controlLegal : Keeps State.ControlLegal takeOne := fun s h => by
  unfold takeOne
  split
  · refine advance_controlLegal _ ((OnlyRaises.takeDue _ _).controlLegal ?_)
    split <;> exact h
  · exact h

theorem settle_controlLegal (k : Nat) : Keeps State.ControlLegal (settle k) := by
  induction k with
  | zero => exact fun _ h => h
  | succ k ih =>
    intro s h
    rw [settle]
    split
    · exact h
    · exact ih _ (takeOne_controlLegal s h)

theorem enterMoment_controlLegal : Keeps State.ControlLegal enterMoment := fun s h => by
  have begun : (beginMoment s).ControlLegal := keeps_controlLegal_of_control (by simp) s h
  exact keeps_controlLegal_of_control (k := sendTrunk) (by simp) _
    (concludeIfQuiet_controlLegal _ (settle_controlLegal 1024 _ begun))

/-! ### Commands that wait for an event, an access or a body -/

theorem whenDue_controlLegal (e : Due) : Keeps State.ControlLegal (whenDue e (takeDue e)) := fun s h => by
  unfold whenDue
  split
  · exact epilogue_controlLegal _ ((OnlyRaises.takeDue e s).controlLegal h)
  · exact h

theorem whenDone_controlLegal (p : Purpose) {k : State → State} (hk : Keeps State.ControlLegal k) :
    Keeps State.ControlLegal (whenDone p k) := fun s h => by
  unfold whenDone
  split
  · exact h
  · split
    · split
      · exact epilogue_controlLegal _ h
      · exact epilogue_controlLegal _ (hk _ h)
    · exact h

theorem unlessAborted_controlLegal {k : State → State} (hk : Keeps State.ControlLegal k) :
    Keeps State.ControlLegal (unlessAborted k) := fun s h => by
  unfold unlessAborted
  split
  · exact keeps_controlLegal_of_control (k := endAborted) (by simp) s h
  · exact hk s h

theorem whenBody_controlLegal (c : Instr) (b : OrderBody) {k : State → State} (hk : Keeps State.ControlLegal k) :
    Keeps State.ControlLegal (whenBody c b k) := fun s h => by
  unfold whenBody
  split
  · exact whenDone_controlLegal .bodyRead (unlessAborted_controlLegal (hk.comp
      (keeps_controlLegal_of_control (k := holdBody b) (by simp)))) s h
  · exact h

/-! ### RUN and HOLD_RESET -/

/-- R181, R183: RUN written 1, where it reads 0, finds the part HALTED or STOPPING. -/
theorem runWritten1_controlLegal : Keeps State.ControlLegal runWritten1 := fun s h => by
  unfold runWritten1
  split
  · exact h
  · next free =>
    obtain ⟨released, unrun⟩ : s.control.holdReset = false ∧ s.control.run = false := by simpa using free
    dsimp only
    split
    · exact h.moved released nofun nofun (fun _ => rfl) rfl rfl h.dropped_le
    · next unhalted =>
      exact h.moved released (h.released_iff.1 released) (fun halted => absurd halted unhalted) (fun _ => rfl) rfl rfl
        h.dropped_le

/-- R183, R186: the registers at the entry to STOPPING. -/
theorem enterStopping_control (s : State) : (enterStopping s).control = { s.control with
    part := .stopping, result := .runCleared, recordsDropped := 0, stopTornDown := false } := by
  simp [enterStopping]

/-- R183: RUN written 0, where it reads 1, leaves the part HALTED or STOPPING. -/
theorem runWritten0_controlLegal : Keeps State.ControlLegal runWritten0 := fun s h => by
  unfold runWritten0
  split
  · exact h
  · next free =>
    obtain ⟨released, run⟩ : s.control.holdReset = false ∧ s.control.run = true := by simpa using free
    have apart : s.control.part ≠ .resetHeld := h.released_iff.1 released
    unfold runCleared
    split
    · exact h.moved released nofun (fun _ => rfl) nofun rfl rfl h.dropped_le
    · exact h.moved released nofun (fun _ => rfl) nofun rfl rfl h.dropped_le
    · rw [State.ControlLegal, enterStopping_control]
      exact h.moved released nofun nofun nofun rfl rfl (Nat.zero_le _)
    · exact h.moved released apart (fun _ => rfl) (by simp_all) rfl rfl h.dropped_le
    · exact h.moved released apart (fun _ => rfl) (by simp_all) rfl rfl h.dropped_le
    · next held => exact absurd held apart

theorem writeRun_controlLegal (run : Bool) : Keeps State.ControlLegal (writeRun run) := fun s h => by
  unfold writeRun
  split
  · exact runWritten1_controlLegal s h
  · exact runWritten0_controlLegal s h

/-- R181, R183, R184: the release leads to HALTED, where RUN reads 0 as it did in RESET_HELD. -/
theorem holdResetRelease_controlLegal (run attn : Bool) : Keeps State.ControlLegal (holdResetRelease run attn) :=
  fun s h => by
    unfold holdResetRelease
    split
    · next held =>
      have unrun : s.control.run = false := h.run_of_stopped (.inl (h.held_iff.1 held))
      exact writeRun_controlLegal run _ (h.moved rfl nofun (fun _ => unrun) nofun rfl rfl h.dropped_le)
    · exact h

/-- R184: the registers of a hold reset. -/
theorem holdReset_controlLegal : Keeps State.ControlLegal holdReset := fun _ h => by
  obtain ⟨-, -, -, aligned, unused, -⟩ := h
  exact ⟨⟨fun _ => rfl, fun _ => rfl⟩, fun _ => rfl, nofun, aligned, unused, Nat.zero_le _⟩

/-- R182: the registers of power-on. -/
theorem powerOn_controlLegal (s : State) : (powerOn s).ControlLegal := by
  show Control.powerOn.Legal
  unfold Control.Legal
  decide

/-! ### The other registers -/

theorem writeAttnEnable_controlLegal (v : Bool) : Keeps State.ControlLegal (writeAttnEnable v) := fun s h => by
  unfold writeAttnEnable
  split <;> exact h

/-- R182: STATION BASE takes a multiple of 4096. -/
theorem writeStationBase_controlLegal (v : Word) : Keeps State.ControlLegal (writeStationBase v) := fun s h => by
  have aligned : (v &&& 0xFFFFF000).toNat % 4096 = 0 := by
    have low : v &&& 0xFFFFF000 &&& 0xFFF = 0 := by
      rw [BitVec.and_assoc]
      exact BitVec.and_zero
    calc (v &&& 0xFFFFF000).toNat % 4096
      _ = (v &&& 0xFFFFF000).toNat &&& (2 ^ 12 - 1) := (Nat.and_two_pow_sub_one_eq_mod _ 12).symm
      _ = (v &&& 0xFFFFF000 &&& 0xFFF).toNat := by rw [BitVec.toNat_and]; rfl
      _ = 0 := congrArg BitVec.toNat low
  unfold writeStationBase
  split
  · obtain ⟨hold, stopped, started, -, unused, dropped⟩ := h
    exact ⟨hold, stopped, started, aligned, unused, dropped⟩
  · exact h

/-- R187, R190: ATTENTION MASK takes bits 1 to 9. -/
theorem writeAttentionMask_controlLegal (v : Word) : Keeps State.ControlLegal (writeAttentionMask v) := fun s h => by
  have unused : v &&& 0x3FE &&& 0xFFFFFC01 = 0 := by
    rw [BitVec.and_assoc]
    exact BitVec.and_zero
  obtain ⟨hold, stopped, started, aligned, -, dropped⟩ := h
  exact ⟨hold, stopped, started, aligned, unused, dropped⟩

theorem readAttention_controlLegal : Keeps State.ControlLegal readAttention := fun s h => by
  unfold readAttention State.ControlLegal
  rw [State.modControl_control]
  split <;> exact h

theorem abortOrder_controlLegal : Keeps State.ControlLegal abortOrder := keeps_controlLegal_of_control (by simp)

theorem writeControl_controlLegal (v : Word) : Keeps State.ControlLegal (writeControl v) := fun s h => by
  have enabled := writeAttnEnable_controlLegal (v.getLsbD 3) s h
  unfold writeControl
  split
  · split
    · exact h
    · exact holdResetRelease_controlLegal _ _ s h
  · split
    · exact holdReset_controlLegal s h
    · dsimp only
      split
      · split
        · exact abortOrder_controlLegal _ enabled
        · exact enabled
      · split
        · unfold abortAndRun
          split
          · exact writeRun_controlLegal _ _ (abortOrder_controlLegal _ enabled)
          · exact abortOrder_controlLegal _ (writeRun_controlLegal _ _ enabled)
        · exact writeRun_controlLegal _ _ enabled

theorem writeRegister_controlLegal (r : Register) (v : Word) : Keeps State.ControlLegal (writeRegister r v) := by
  cases r with
  | control => exact writeControl_controlLegal v
  | stationBase => exact writeStationBase_controlLegal v
  | attentionMask => exact writeAttentionMask_controlLegal v
  | state | attention => exact fun _ h => h

/-! ### Records -/

/-- R163: the count of dropped records saturates at 255. -/
theorem dropHead_controlLegal : Keeps State.ControlLegal dropHead := fun _ h => h.drop (Nat.min_le_left _ _)

theorem beginPass_controlLegal (retry : Bool) : Keeps State.ControlLegal (beginPass retry) :=
  keeps_controlLegal_of_control (by simp)

theorem recordMarkRead_controlLegal (mark : Word) : Keeps State.ControlLegal (recordMarkRead mark) := fun s h => by
  unfold recordMarkRead
  dsimp only
  split
  · exact keeps_controlLegal_of_control (k := writeBody _) (by simp) _ h
  · split
    · exact h
    · unfold passFailed
      split
      · exact beginPass_controlLegal false _ (dropHead_controlLegal _ h)
      · dsimp only
        split
        · exact h
        · exact (OnlyRaises.raise .recordParked _).controlLegal h

theorem recordFilled_controlLegal : Keeps State.ControlLegal recordFilled := fun _ h =>
  beginPass_controlLegal false _ ((OnlyRaises.raise .recordWritten _).controlLegal h)

/-! ### The header read and the host-bus error -/

/-- R171: a header read whose result counts completes in STARTING alone. -/
theorem State.PortLegal.starting {s : State} (h : s.PortLegal) (read : s.onBus .headerRead = true) :
    s.control.part = .starting := by
  obtain ⟨a, inFlight, purpose, counts⟩ := onBus_iff.1 read
  obtain ⟨still, -, active, -⟩ := h
  cases part : s.control.part with
  | starting => rfl
  | resetHeld | halted | startFailed =>
    obtain ⟨-, -, discarded⟩ := still (by simp [part])
    exact absurd counts (discarded a inFlight)
  | running | stopping =>
    obtain ⟨-, other, -⟩ := active (by simp [part])
    exact absurd purpose (other a inFlight counts)

/-- R166, R167, R185: the header read takes the part from STARTING, where RUN reads 1, into RUNNING or START_FAILED. -/
theorem headerRead_controlLegal (b : HeaderBytes) {s : State} (h : s.ControlLegal) (starting : s.control.part = .starting) :
    (headerRead b s).ControlLegal := by
  have released : s.control.holdReset = false := h.released_iff.2 (by rw [starting]; nofun)
  have run : s.control.run = true := h.run_of_started (.inl starting)
  unfold headerRead
  split
  · refine (OnlyRaises.raise .startResult _).controlLegal ?_
    exact h.moved released nofun nofun (fun _ => run) rfl rfl h.dropped_le
  · refine (OnlyRaises.raise .startResult _).controlLegal ?_
    exact h.moved released nofun nofun (fun _ => run) rfl rfl h.dropped_le

theorem headerReadDone_controlLegal (b : HeaderBytes) {s : State} (port : s.PortLegal) (h : s.ControlLegal) :
    (whenDone .headerRead (headerRead b) s).ControlLegal := by
  by_cases read : s.onBus .headerRead = true
  · rw [whenDone_of_onBus read]
    exact epilogue_controlLegal _ (headerRead_controlLegal b (s := freeBus s) h (port.starting read))
  · unfold whenDone
    split
    · exact h
    · next a inFlight =>
      split
      · next purpose =>
        rw [if_pos]
        · exact epilogue_controlLegal _ h
        · rw [Option.isSome_iff_ne_none]
          exact fun counts => read (onBus_iff.2 ⟨a, inFlight, purpose, counts⟩)
      · exact h

/-- R161, R163, R171, R186: a stop on a host-bus error, of a part `t` that has the registers of `s` but for RUN and the
count of dropped records. -/
theorem stopOnError_controlLegal {s t : State} (h : s.ControlLegal) (released : t.control.holdReset = false)
    (base : t.control.stationBase = s.control.stationBase) (mask : t.control.attentionMask = s.control.attentionMask) :
    (stopOnError t).ControlLegal := by
  have control : (stopOnError t).control = { (errorTaken t).control with
      recordsDropped := (stopOnError t).control.recordsDropped } := by
    rw [stopOnError_eq]
    simp [dropDrafts]
  rw [errorTaken_control] at control
  refine h.moved ?_ ?_ ?_ ?_ ?_ ?_ (stopOnError_stops t).saturates <;> rw [control]
  · exact released
  · nofun
  · nofun
  · nofun
  · exact base
  · exact mask

/-- R166, R183: a start that fails on a host-bus error. -/
theorem startOnError_controlLegal {s : State} (h : s.ControlLegal) (starting : s.control.part = .starting) :
    (startOnError s).ControlLegal := by
  have released : s.control.holdReset = false := h.released_iff.2 (by rw [starting]; nofun)
  rw [State.ControlLegal, startOnError_control]
  exact h.moved released nofun nofun (fun _ => h.run_of_started (.inl starting)) rfl rfl h.dropped_le

theorem busError_controlLegal : Keeps State.ControlLegal busError := fun s h => by
  unfold busError
  split
  · next starting => exact startOnError_controlLegal h starting
  · next running =>
    have released : s.control.holdReset = false := h.released_iff.2 (by rw [running]; nofun)
    exact stopOnError_controlLegal h released rfl rfl
  · next stopping =>
    have released : s.control.holdReset = false := h.released_iff.2 (by rw [stopping]; nofun)
    exact stopOnError_controlLegal h released rfl rfl
  all_goals exact h

theorem hostBusError_controlLegal : Keeps State.ControlLegal hostBusError := fun s h => by
  unfold hostBusError
  split
  · exact h
  · split
    · next why _ =>
      cases why with
      | byRunCleared => exact (OnlyRaises.raise .memoryError (freeBus s)).controlLegal h
      | byReset => exact h
    · exact busError_controlLegal (freeBus s) h

end Sys2Proof.Machine
end

section
/-! Every command and every step keep the registers legal (O5). -/

namespace Sys2Proof.Machine

/-- An effect of a command, and what follows every step. -/
theorem ends_controlLegal {k : State → State} (hk : Keeps State.ControlLegal k) {s : State} (h : s.ControlLegal) :
    (epilogue (k s)).ControlLegal := epilogue_controlLegal _ (hk s h)

/-- A frame moment, an effect, and what follows every step. -/
theorem moment_controlLegal {k : State → State} (hk : ∀ s, OnlyRaises s (k s)) {s : State} (h : s.ControlLegal) :
    (epilogue (k (enterMoment s))).ControlLegal :=
  ends_controlLegal (keeps_controlLegal hk) (enterMoment_controlLegal s h)

/-- Every command keeps the registers legal. -/
theorem exec_controlLegal (c : Instr) {s : State} (port : s.PortLegal) (h : s.ControlLegal) :
    ∃ t, exec c s = .next t ∧ t.ControlLegal := by
  have body : ∀ (i : Instr) (b : OrderBody) {k : State → State}, (∀ s, OnlyRaises s (k s)) →
      (whenBody i b k s).ControlLegal := fun i b _ hk => whenBody_controlLegal i b (keeps_controlLegal hk) s h
  have done : ∀ (p : Purpose) {k : State → State}, (∀ s, OnlyRaises s (k s)) → (whenDone p k s).ControlLegal :=
    fun p _ hk => whenDone_controlLegal p (keeps_controlLegal hk) s h
  have goesOn : ∀ (p : Purpose) {k : State → State}, (∀ s, OnlyRaises s (k s)) →
      (whenDone p (unlessAborted k) s).ControlLegal :=
    fun p _ hk => whenDone_controlLegal p (unlessAborted_controlLegal (keeps_controlLegal hk)) s h
  cases c with
  | powerOn => exact ⟨_, rfl, powerOn_controlLegal s⟩
  | holdReset => exact ⟨_, rfl, ends_controlLegal holdReset_controlLegal h⟩
  | holdResetRelease run attn => exact ⟨_, rfl, ends_controlLegal (holdResetRelease_controlLegal run attn) h⟩
  | runWritten1 => exact ⟨_, rfl, ends_controlLegal runWritten1_controlLegal h⟩
  | runWritten0 => exact ⟨_, rfl, ends_controlLegal runWritten0_controlLegal h⟩
  | abortOrder => exact ⟨_, rfl, ends_controlLegal abortOrder_controlLegal h⟩
  | attnEnable v => exact ⟨_, rfl, writeAttnEnable_controlLegal v s h⟩
  | stationBaseWrite v => exact ⟨_, rfl, writeStationBase_controlLegal v s h⟩
  | attentionRead => exact ⟨_, rfl, readAttention_controlLegal s h⟩
  | registerWrite r v => exact ⟨_, rfl, ends_controlLegal (writeRegister_controlLegal r v) h⟩
  | lineFrame f => exact ⟨_, rfl, moment_controlLegal (.lineFrameArrives f) h⟩
  | referenceFrameTime =>
    refine ⟨_, rfl, ?_⟩
    split
    · exact moment_controlLegal (k := referenceTime) (fun s => .of_control (by simp)) h
    · exact h
  | returnFrame f => exact ⟨_, rfl, ends_controlLegal (keeps_controlLegal (.returnFrameArrives f)) h⟩
  | frameWatchExpiry highway =>
    cases highway with
    | line => exact ⟨_, rfl, moment_controlLegal .lineWatchExpires h⟩
    | ret => exact ⟨_, rfl, ends_controlLegal (keeps_controlLegal .returnWatchExpires) h⟩
  | millisecondEvent => exact ⟨_, rfl, whenDue_controlLegal .millisecond s h⟩
  | loopChangeAccepted n => exact ⟨_, rfl, whenDue_controlLegal (.loopChange n) s h⟩
  | longOpenEntry n => exact ⟨_, rfl, whenDue_controlLegal (.longOpen n) s h⟩
  | seizure n => exact ⟨_, rfl, whenDue_controlLegal (.seizure n) s h⟩
  | clear n => exact ⟨_, rfl, whenDue_controlLegal (.clear n) s h⟩
  | digitComplete n => exact ⟨_, rfl, whenDue_controlLegal (.digit n) s h⟩
  | firstDigitTimerExpiry n => exact ⟨_, rfl, whenDue_controlLegal (.timer .firstDigit n) s h⟩
  | completeTimerExpiry n => exact ⟨_, rfl, whenDue_controlLegal (.timer .complete n) s h⟩
  | quietTimerExpiry n => exact ⟨_, rfl, whenDue_controlLegal (.timer .quiet n) s h⟩
  | proceedTimerExpiry n => exact ⟨_, rfl, whenDue_controlLegal (.timer .proceed n) s h⟩
  | generatorWaitTimerExpiry n => exact ⟨_, rfl, whenDue_controlLegal (.timer .generatorWait n) s h⟩
  | escapeTimerExpiry n => exact ⟨_, rfl, whenDue_controlLegal (.timer .escape n) s h⟩
  | muteTailExpiry n => exact ⟨_, rfl, whenDue_controlLegal (.timer .muteTail n) s h⟩
  | flashOutExpiry n => exact ⟨_, rfl, whenDue_controlLegal (.timer .flashOut n) s h⟩
  | onExpiry g => exact ⟨_, rfl, whenDue_controlLegal (.onExpiry g) s h⟩
  | gapExpiry g => exact ⟨_, rfl, whenDue_controlLegal (.gapExpiry g) s h⟩
  | holdExpiry g => exact ⟨_, rfl, whenDue_controlLegal (.holdExpiry g) s h⟩
  | sweepEvent => exact ⟨_, rfl, whenDue_controlLegal .sweep s h⟩
  | orderMarkReadDone mark => exact ⟨_, rfl, done _ fun _ => .of_control (by simp)⟩
  | takenWriteDone => exact ⟨_, rfl, goesOn _ fun _ => .of_control (by simp)⟩
  | unknownOrder b => exact ⟨_, rfl, body _ b fun _ => .of_control (by simp)⟩
  | nop b => exact ⟨_, rfl, body _ b fun _ => .of_control (by simp)⟩
  | identify b => exact ⟨_, rfl, body _ b (.orderAccess _ _ _ _ _)⟩
  | identifyWriteDone => exact ⟨_, rfl, done _ fun _ => .of_control (by simp)⟩
  | readLine b => exact ⟨_, rfl, body _ b (.readLine b)⟩
  | readLineWriteDone => exact ⟨_, rfl, done _ fun _ => .of_control (by simp)⟩
  | setLine b => exact ⟨_, rfl, body _ b fun _ => .of_control (by simp)⟩
  | loadProfile b => exact ⟨_, rfl, body _ b (.loadProfile b)⟩
  | profileReadDone bytes => exact ⟨_, rfl, goesOn _ fun _ => .of_control (by simp)⟩
  | loadTones b => exact ⟨_, rfl, body _ b (.loadTones b)⟩
  | toneEntryReadDone bytes => exact ⟨_, rfl, goesOn _ (.toneRead bytes)⟩
  | loadPlan b => exact ⟨_, rfl, body _ b (.loadPlan b)⟩
  | planEntryReadDone bytes => exact ⟨_, rfl, goesOn _ (.planRead bytes)⟩
  | switchPlan b => exact ⟨_, rfl, body _ b fun _ => .of_control (by simp)⟩
  | sendTones b => exact ⟨_, rfl, body _ b fun _ => .of_control (by simp)⟩
  | orderResultWriteDone => exact ⟨_, rfl, done _ fun _ => .of_control (by simp)⟩
  | orderDoneWriteDone => exact ⟨_, rfl, done _ .orderDone⟩
  | touchedWriteDone => exact ⟨_, rfl, done _ fun _ => .of_control (by simp)⟩
  | recordMarkReadDone mark => exact ⟨_, rfl, whenDone_controlLegal _ (recordMarkRead_controlLegal mark) s h⟩
  | recordBodyWriteDone => exact ⟨_, rfl, done _ fun _ => .of_control (by simp)⟩
  | recordMarkWriteDone => exact ⟨_, rfl, whenDone_controlLegal _ recordFilled_controlLegal s h⟩
  | headerReadDone bytes => exact ⟨_, rfl, headerReadDone_controlLegal bytes port h⟩
  | hostBusError => exact ⟨_, rfl, ends_controlLegal hostBusError_controlLegal h⟩

/-- Settles O5: each command keeps the registers legal, and so does the event an idle part takes. -/
theorem stepKeepsRegistersLegal : Obligations.StepKeepsRegistersLegal := by
  intro s t h port ht
  unfold step at ht
  split at ht
  · cases ht
    exact concludeIfQuiet_controlLegal _ (takeOne_controlLegal s h)
  · next c rest _ =>
    obtain ⟨u, hu, legal⟩ := exec_controlLegal c (s := { s with pending := rest }) port h
    rw [hu] at ht
    cases ht
    exact legal

end Sys2Proof.Machine
end

section
/-! The record writer's completions (R157 to R159, R162; O58). -/

namespace Sys2Proof.Machine

/-! ### A search pass -/

/-- R157: the writer with nothing waiting is IDLE. -/
theorem beginPass_of_nil {s : State} (h : s.writer.fifo = []) (retry : Bool) :
    beginPass retry s = s.modWriter fun w => { w with state := .idle, retry := false } := by
  rw [beginPass, h]

/-- R157: a pass begins with the read of the mark at the cursor. -/
theorem beginPass_of_ne_nil {s : State} (h : s.writer.fifo ≠ []) (retry : Bool) :
    beginPass retry s = readRecordMark (s.modWriter fun w => { w with state := .searching, examined := 0, retry }) := by
  obtain ⟨d, rest, fifo⟩ := List.exists_cons_of_ne_nil h
  rw [beginPass, fifo]

/-- A pass keeps the draft that is written next, its number, and where the search began. -/
theorem beginPass_writer (retry : Bool) (s : State) :
    (beginPass retry s).writer.fifo = s.writer.fifo ∧ (beginPass retry s).writer.sequence = s.writer.sequence ∧
      (beginPass retry s).writer.cursor = s.writer.cursor := by
  unfold beginPass
  split <;> exact ⟨rfl, rfl, rfl⟩

theorem beginPass_portKept (retry : Bool) (s : State) : PortKept s (beginPass retry s) := by
  unfold beginPass
  split
  · exact .of_port rfl
  · exact ⟨rfl, rfl, rfl, rfl, rfl⟩

/-! ### The read of a mark -/

/-- R157: a further slot has been examined. -/
def markExamined (s : State) : State := s.modWriter fun w => { w with examined := w.examined + 1 }

section
variable {s : State} {mark : Word}

/-- R158: a free slot gets the body of the head draft. -/
theorem recordMarkRead_of_free (free : mark = 0) {d : ClosedDraft} {rest : List ClosedDraft}
    (fifo : s.writer.fifo = d :: rest) : recordMarkRead mark s
      = (s.modWriter fun w =>
          { w with examined := w.examined + 1, chosen := s.writer.searchSlot, state := .writingBody, retry := false }).modPort
        fun p => { p with
          waitWriter := some (writeAccess s .recordBodyWrite (recordSlot s.writer s.writer.searchSlot + 4)
            (recordBody s.writer.sequence d)) } := by
  have body : recordMarkRead mark s = writeBody s.writer.searchSlot (markExamined s) := if_pos free
  have examined : (markExamined s).writer.fifo = d :: rest := fifo
  rw [body, writeBody, examined]
  rfl

/-- R157: a full slot passes the search on. -/
theorem recordMarkRead_of_full (full : mark ≠ 0) (more : s.writer.examined + 1 < s.writer.slots) :
    recordMarkRead mark s = readRecordMark (markExamined s) := (if_neg full).trans (if_pos more)

/-- R159: the pass fails with the last of the slots full. -/
theorem recordMarkRead_of_all_full (full : mark ≠ 0) (last : s.writer.slots ≤ s.writer.examined + 1) :
    recordMarkRead mark s = passFailed (markExamined s) := (if_neg full).trans (if_neg (Nat.not_lt.2 last))

end

/-- R159: in RUNNING the writer parks, which it says once. -/
theorem passFailed_parks {s : State} (h : s.running = true) :
    (passFailed s).writer = { s.writer with state := .parked, retry := false } ∧
      (s.writer.retry = false → Raised .recordParked s.control (passFailed s).control) ∧
      (s.writer.retry = true → (passFailed s).control = s.control) := by
  unfold passFailed
  rw [stopping_of_running h, if_neg Bool.false_ne_true]
  dsimp only
  split
  · next retry => exact ⟨rfl, fun first => absurd retry (by simp [first]), fun _ => rfl⟩
  · next first => exact ⟨by simp, fun _ => raise_raised .recordParked _, fun retry => absurd retry first⟩

/-- R162, R163: in STOPPING the head draft is dropped and counted, and the next gets its pass. -/
theorem passFailed_drops {s : State} (h : s.stopping = true) :
    (passFailed s).writer.fifo = s.writer.fifo.tail ∧ (passFailed s).writer.sequence = s.writer.sequence ∧
      (passFailed s).control = { s.control with recordsDropped := min 255 (s.control.recordsDropped + 1) } ∧
      (s.writer.fifo.tail = [] → (passFailed s).writer.state = .idle) ∧
      (s.writer.fifo.tail ≠ [] → (passFailed s).writer.state = .searching ∧ (passFailed s).writer.examined = 0) := by
  have dropped : passFailed s = beginPass false (dropHead s) := if_pos h
  obtain ⟨left, sequence, -⟩ := beginPass_writer false (dropHead s)
  rw [dropped]
  refine ⟨left, sequence, by simp [dropHead, satSucc], fun last => ?_, fun more => ?_⟩
  · rw [beginPass_of_nil (s := dropHead s) last]
    rfl
  · rw [beginPass_of_ne_nil (s := dropHead s) more]
    exact ⟨rfl, rfl⟩

theorem passFailed_portKept (s : State) : PortKept s (passFailed s) := by
  have dropped : PortKept s (dropHead s) := .of_port rfl
  unfold passFailed
  split
  · exact dropped.trans (beginPass_portKept false _)
  · dsimp only
    split
    · exact .of_port rfl
    · exact .of_port (by simp)

/-- R157 to R159: of the port, the completed read reaches the record writer's waiting access alone. -/
theorem recordMarkRead_portKept (mark : Word) (s : State) : PortKept s (recordMarkRead mark s) := by
  unfold recordMarkRead
  dsimp only
  split
  · unfold writeBody
    split
    · exact .of_port rfl
    · exact ⟨rfl, rfl, rfl, rfl, rfl⟩
  · split
    · exact ⟨rfl, rfl, rfl, rfl, rfl⟩
    · exact PortKept.trans (t := markExamined s) (.of_port rfl) (passFailed_portKept _)

/-! ### The meanings, with the access on the bus -/

section
variable {s : State}

theorem exec_recordMarkReadDone (h : s.onBus .recordMarkRead = true) (mark : Word) :
    exec (.recordMarkReadDone mark) s = .next (epilogue (recordMarkRead mark (freeBus s))) :=
  congrArg _ (whenDone_of_onBus h _)

theorem exec_recordBodyWriteDone (h : s.onBus .recordBodyWrite = true) :
    exec .recordBodyWriteDone s = .next (epilogue (writeFilled (freeBus s))) := congrArg _ (whenDone_of_onBus h _)

theorem exec_recordMarkWriteDone (h : s.onBus .recordMarkWrite = true) :
    exec .recordMarkWriteDone s = .next (epilogue (recordFilled (freeBus s))) := congrArg _ (whenDone_of_onBus h _)

end

/-- R158: the record whose FILLED has been written: its draft leaves the FIFO, and the sequence number and the cursor go
on. -/
def recordCounted (s : State) : State :=
  s.modWriter fun w => { w with fifo := w.fifo.tail, sequence := w.sequence + 1, cursor := (w.chosen + 1) % w.slots }

theorem recordFilled_eq (s : State) : recordFilled s = beginPass false (raise .recordWritten (recordCounted s)) := rfl

/-- R158, R187: the written record raises RECORD_WRITTEN. -/
theorem recordFilled_raised (s : State) : Raised .recordWritten s.control (recordFilled s).control := by
  have begun : ∀ t, (beginPass false t).control = t.control := by simp
  rw [recordFilled_eq, begun]
  exact raise_raised .recordWritten (recordCounted s)

theorem recordFilled_portKept (s : State) : PortKept s (recordFilled s) := by
  have raised : PortKept s (raise .recordWritten (recordCounted s)) := .of_port (by simp [recordCounted])
  exact raised.trans (beginPass_portKept false _)

/-- R158: the writer once FILLED has been written. -/
theorem recordFilled_writer {s : State} {d : ClosedDraft} {rest : List ClosedDraft} (fifo : s.writer.fifo = d :: rest) :
    (recordFilled s).writer.fifo = rest ∧ (recordFilled s).writer.sequence = s.writer.sequence + 1 ∧
      (recordFilled s).writer.cursor = (s.writer.chosen + 1) % s.writer.slots := by
  have raised : (raise .recordWritten (recordCounted s)).writer = (recordCounted s).writer := by simp
  have tail : (recordCounted s).writer.fifo = rest := by simp [recordCounted, fifo]
  obtain ⟨kept, sequence, cursor⟩ := beginPass_writer false (raise .recordWritten (recordCounted s))
  rw [recordFilled_eq, kept, sequence, cursor, raised, tail]
  exact ⟨rfl, rfl, rfl⟩

/-- R157, R158: with another draft in the FIFO the next search begins, at the slot beyond. -/
theorem recordFilled_searches {s : State} (more : s.writer.fifo.tail ≠ []) :
    (recordFilled s).writer.state = .searching ∧ (recordFilled s).writer.examined = 0 ∧
      (recordFilled s).writer.retry = false ∧
      (recordFilled s).port.waitWriter = some (readAccess s .recordMarkRead
        (recordSlot s.writer ((s.writer.chosen + 1) % s.writer.slots % s.writer.slots)) 4) := by
  have raised : (raise .recordWritten (recordCounted s)).writer = (recordCounted s).writer := by simp
  rw [recordFilled_eq, beginPass_of_ne_nil (by rw [raised]; exact more)]
  exact ⟨rfl, rfl, rfl, rfl⟩

theorem recordFilled_rests {s : State} (last : s.writer.fifo.tail = []) : (recordFilled s).writer.state = .idle := by
  have raised : (raise .recordWritten (recordCounted s)).writer = (recordCounted s).writer := by simp
  rw [recordFilled_eq, beginPass_of_nil (by rw [raised]; exact last)]
  rfl

/-- Settles O58. -/
theorem recordWrites : Obligations.RecordWrites := by
  refine ⟨fun mark s d rest onBus fifo => ⟨_, exec_recordMarkReadDone onBus mark, ?_⟩,
    fun s onBus => ⟨_, exec_recordBodyWriteDone onBus, rfl, rfl, rfl, rfl, rfl, rfl⟩,
    fun s d rest onBus fifo => ⟨_, exec_recordMarkWriteDone onBus, ?_⟩⟩
  · obtain ⟨-, inFlight, -⟩ := recordMarkRead_portKept mark (freeBus s)
    refine ⟨by simp, by simp, by simp, inFlight, fun free => ?_, fun full more => ?_, fun full last running => ?_,
      fun full last stopping => ?_⟩
    · rw [recordMarkRead_of_free free (s := freeBus s) fifo]
      exact ⟨rfl, rfl, rfl, rfl, rfl, rfl⟩
    · rw [recordMarkRead_of_full full (s := freeBus s) more]
      exact ⟨rfl, rfl, rfl⟩
    · obtain ⟨parked, first, retried⟩ := passFailed_parks (s := markExamined (freeBus s)) running
      rw [recordMarkRead_of_all_full full (s := freeBus s) last, parked]
      exact ⟨rfl, rfl, rfl, first, retried⟩
    · obtain ⟨left, sequence, control, rests, searches⟩ := passFailed_drops (s := markExamined (freeBus s)) stopping
      have tail : (markExamined (freeBus s)).writer.fifo.tail = rest := congrArg List.tail fifo
      rw [tail] at left rests searches
      rw [recordMarkRead_of_all_full full (s := freeBus s) last, control]
      exact ⟨left, sequence, rfl, rfl, rests, searches⟩
  · obtain ⟨left, sequence, cursor⟩ := recordFilled_writer (s := freeBus s) fifo
    have tail : (freeBus s).writer.fifo.tail = rest := congrArg List.tail fifo
    obtain ⟨-, inFlight, -⟩ := recordFilled_portKept (freeBus s)
    exact ⟨by simp, by simp, inFlight, recordFilled_raised (freeBus s), left, sequence, cursor,
      fun last => recordFilled_rests (tail.trans last), fun more => recordFilled_searches (by rw [tail]; exact more)⟩

end Sys2Proof.Machine
end

section
/-! RUN written 0 (R162, R166, R177, R183, R186; O23): a start abandoned, the order in hand ended, and the stop begun. -/

namespace Sys2Proof.Machine

/-! ### The stop's effect on the current order (R177) -/

section
variable {s : State} {c : CurrentOrder}

theorem stopOrder_without_order (h : s.orders.current = none) : stopOrder s = s := by rw [stopOrder, h]

/-- R176: an order that has chosen its result keeps it (log 33). -/
theorem stopOrder_of_completing (h : s.orders.state = .completing) : stopOrder s = s := by
  unfold stopOrder
  rw [h]
  split <;> rfl

theorem stopOrder_before_answer (current : s.orders.current = some c)
    (state : s.orders.state = .taking ∨ s.orders.state = .executing) : stopOrder s = abortAtNextStep s := by
  unfold stopOrder
  rcases state with state | state
  all_goals rw [current, state]

/-- R132: a SEND_TONES in progress ends at once. -/
theorem stopOrder_of_inProgress (current : s.orders.current = some c) (state : s.orders.state = .inProgress) :
    stopOrder s = endAborted s := by
  unfold stopOrder
  rw [current, state]

theorem endAborted_eq (current : s.orders.current = some c) :
    endAborted s = chooseResult .aborted (abortDetails c.work s) (emptyLoad c.work s) := by
  rw [endAborted, current]

end

/-- R105: the end of an order leaves the active bank active. -/
theorem endAborted_active (s : State) : (endAborted s).plan.active = s.plan.active := by
  have emptied : ∀ w, (emptyLoad w s).plan.active = s.plan.active := fun w => by cases w <;> rfl
  unfold endAborted
  split
  · rfl
  · next c _ => simpa using emptied c.work

theorem stopOrder_active (s : State) : (stopOrder s).plan.active = s.plan.active := by
  have next : (abortAtNextStep s).plan.active = s.plan.active := by
    unfold abortAtNextStep
    split
    · rfl
    · exact endAborted_active _
  unfold stopOrder
  split
  · rfl
  · split
    · exact next
    · exact next
    · exact endAborted_active s
    all_goals rfl

/-- An answer reads of the first state the order in hand alone. -/
theorem Answered.of_sameOrder {s t u : State} {status : OrderStatus} {details : Details} (h : Answered t u status details)
    (same : SameOrder s t) (current : t.orders.current = s.orders.current) : Answered s u status details := by
  obtain ⟨state, cursor, c, d, inHand, left, slot, result, waits⟩ := h
  refine ⟨state, cursor.trans same.cursor, c, d, current.symm.trans inHand, left, slot, result, ?_⟩
  rw [waits, writeAccess_congr same.windows, orderSlot, same.area]
  rfl

theorem abortDetails_congr {s t : State} (h : t.plan = s.plan) (w : OrderWork) : abortDetails w t = abortDetails w s := by
  cases w <;> simp [abortDetails, h]

/-! ### The entry to STOPPING (R183, R186) -/

/-- R183, R186: RUN written 0 in RUNNING, before the order in hand and the record writer are seen to. -/
def stopBegun (s : State) : State :=
  dropDue (s.modControl fun c => { c with
    run := false, part := .stopping, result := .runCleared, recordsDropped := 0, stopTornDown := false })

theorem stopBegun_sameOrder (s : State) : SameOrder s (stopBegun s) := ⟨rfl, rfl, rfl, rfl⟩

/-- R162, R183, R186: the part at the entry to STOPPING. -/
def stopEntered (s : State) : State := unpark (stopOrder (stopBegun s))

theorem unpark_portKept (s : State) : PortKept s (unpark s) := by
  unfold unpark
  split
  · exact beginPass_portKept false s
  · exact .of_port rfl

section
variable {s : State}

theorem runWritten0_of_run (released : s.control.holdReset = false) (run : s.control.run = true) :
    runWritten0 s = runCleared (s.modControl fun c => { c with run := false }) := by
  rw [runWritten0, released, run]
  rfl

/-- R183: RUN written 0 in RUNNING. -/
theorem runWritten0_of_running (part : s.control.part = .running) (released : s.control.holdReset = false)
    (run : s.control.run = true) : runWritten0 s = stopEntered s := by
  have running : (s.modControl fun c => { c with run := false }).control.part = .running := part
  rw [runWritten0_of_run released run, runCleared, running]
  rfl

end

/-- R183, R186: the registers at the entry to STOPPING. -/
theorem stopEntered_control (s : State) : (stopEntered s).control = { s.control with
    run := false, part := .stopping, result := .runCleared, recordsDropped := 0, stopTornDown := false } :=
  enterStopping_control (s.modControl fun c => { c with run := false })

/-- R186: the commands that wait, the settings and the lines are as they were. -/
theorem stopEntered_kept (s : State) : (stopEntered s).pending = s.pending ∧ (stopEntered s).settings = s.settings ∧
    (stopEntered s).lines = s.lines := by
  simp [stopEntered, stopBegun]

/-- R162: the record writer's pass reaches neither the order unit nor the plan. -/
theorem stopEntered_order (s : State) : (stopEntered s).orders = (stopOrder (stopBegun s)).orders ∧
    (stopEntered s).plan = (stopOrder (stopBegun s)).plan ∧
    (stopEntered s).port.waitOrder = (stopOrder (stopBegun s)).port.waitOrder := by
  obtain ⟨-, -, -, -, waits⟩ := unpark_portKept (stopOrder (stopBegun s))
  exact ⟨by simp [stopEntered], by simp [stopEntered], waits⟩

theorem stopEntered_active (s : State) : (stopEntered s).plan.active = s.plan.active := by
  obtain ⟨-, plan, -⟩ := stopEntered_order s
  rw [plan, stopOrder_active]
  simp [stopBegun]

/-! ### The order that the stop meets -/

section
variable {s : State} {c : CurrentOrder} (current : s.orders.current = some c)
include current

theorem stopBegun_current : (stopBegun s).orders.current = some c := current

/-- R176, R177: an order whose access is in flight, or whose TAKEN write waits, is ended at that access's completion. -/
theorem stopEntered_waits (state : s.orders.state = .taking ∨ s.orders.state = .executing)
    (access : s.port.orderInFlight = true ∨ s.port.takenWaits = true) :
    (stopEntered s).orders.state = s.orders.state ∧
      (stopEntered s).orders.current = some { c with abort := true } ∧
      (stopEntered s).port.waitOrder = s.port.waitOrder := by
  obtain ⟨orders, -, waits⟩ := stopEntered_order s
  have marked : stopOrder (stopBegun s) = onCurrent (fun c => { c with abort := true }) (stopBegun s) :=
    (stopOrder_before_answer (stopBegun_current current) state).trans (abortAtNextStep_of_access access)
  rw [waits, orders, marked, onCurrent_orders (stopBegun_current current)]
  exact ⟨rfl, rfl, rfl⟩

/-- R176, R177: an order with no access of its own to wait for ends ABORTED at once. -/
theorem stopEntered_aborts (state : s.orders.state = .taking ∨ s.orders.state = .executing)
    (idle : s.port.orderInFlight = false) (unwritten : s.port.takenWaits = false) :
    Answered s (stopEntered s) .aborted (abortDetails c.work s) ∧
      ∀ source b count, c.work = .loadPlan source b count →
        ((stopEntered s).bank b).state = .empty ∧ ((stopEntered s).bank b).entries = [] := by
  obtain ⟨orders, plan, waits⟩ := stopEntered_order s
  have ended : stopOrder (stopBegun s) = endAborted ((stopBegun s).modPort fun p => { p with waitOrder := none }) :=
    (stopOrder_before_answer (stopBegun_current current) state).trans (abortAtNextStep_of_no_access idle unwritten)
  obtain ⟨answered, -, -, -, emptied⟩ := endAborted_aborts (stopBegun_current current)
  rw [← ended, abortDetails_congr (s := s) (by simp [stopBegun])] at answered
  rw [← ended] at emptied
  refine ⟨(answered.congr rfl rfl orders waits).of_sameOrder (stopBegun_sameOrder s) rfl, ?_⟩
  simp only [State.bank_def, plan]
  exact emptied

/-- R131, R132, R177: a SEND_TONES in progress ends ABORTED at once. -/
theorem stopEntered_ends_sendTones (state : s.orders.state = .inProgress) {n : LineNo} {cls : ServiceClass}
    {count sent : Nat} {fixed : Bool} (work : c.work = .sendTones n cls count sent fixed) :
    Answered s (stopEntered s) .aborted { sent, unsent := count - sent } := by
  obtain ⟨orders, -, waits⟩ := stopEntered_order s
  have ended : stopOrder (stopBegun s) = chooseResult .aborted { sent, unsent := count - sent } (stopBegun s) := by
    rw [stopOrder_of_inProgress (stopBegun_current current) state, endAborted_eq (stopBegun_current current), work]
    rfl
  rw [ended] at orders waits
  exact ((stopBegun_sameOrder s).answered current _ _).congr rfl rfl orders waits

/-- R176, R177: an order COMPLETING keeps its result (log 33). -/
theorem stopEntered_keeps_result (state : s.orders.state = .completing) :
    (stopEntered s).orders.state = .completing ∧ (stopEntered s).orders.current = some c ∧
      (stopEntered s).port.waitOrder = s.port.waitOrder := by
  obtain ⟨orders, -, waits⟩ := stopEntered_order s
  rw [orders, waits, stopOrder_of_completing (s := stopBegun s) state]
  exact ⟨state, current, rfl⟩

end

theorem stopEntered_without_order {s : State} (h : s.orders.current = none) :
    (stopEntered s).orders.current = none := by
  obtain ⟨orders, -⟩ := stopEntered_order s
  rw [orders, stopOrder_without_order (s := stopBegun s) h]
  exact h

/-! ### The stop goes on (R183, R186) -/

/-- R186: the lines torn down by a stop. -/
def stopTorn (s : State) : State := stopLines (s.modControl fun c => { c with stopTornDown := true })

theorem stopTorn_control (s : State) : (stopTorn s).control = { s.control with stopTornDown := true } := by
  simp [stopTorn]

section
variable {s : State} (stopping : s.stopping = true) (begun : s.control.stopTornDown = false)
include stopping begun

/-- R186: a stop waits for the order in hand. -/
theorem stopAdvance_of_order {c : CurrentOrder} (current : s.orders.current = some c) : stopAdvance s = s := by
  unfold stopAdvance
  rw [if_pos stopping]
  simp [begun, current]

/-- R186: with no order current the lines are torn down, and a stop with nothing left to do is over. -/
theorem stopAdvance_without_order (none : s.orders.current = none) : stopAdvance s =
    if (stopTorn s).writer.fifo.isEmpty && (stopTorn s).port.quiet then leaveStopping (stopTorn s) else stopTorn s := by
  have tears : (if !s.control.stopTornDown && s.orders.current.isNone then
      stopLines (s.modControl fun c => { c with stopTornDown := true }) else s) = stopTorn s :=
    if_pos (by simp [begun, none])
  have torn : (stopTorn s).control.stopTornDown = true := by rw [stopTorn_control]
  unfold stopAdvance
  simp only [if_pos stopping, tears, torn, Bool.true_and]

end

/-- What a stop just begun, with RUN 0, comes to in the same step: STOPPING or HALTED, and every line at rest once no order
is current. -/
structure StopGoesOn (s t : State) : Prop where
  part : t.control.part = .stopping ∨ t.control.part = .halted
  registers : t.control = { s.control with part := t.control.part, stopTornDown := t.control.stopTornDown }
  lines : t.orders.current = none → ∀ n, (t.line n).atRest

namespace StopGoesOn

variable {s t u : State}

/-- R183: with RUN 0 the part leaves STOPPING for HALTED. -/
theorem leaveStopping (h : StopGoesOn s t) (run : t.control.run = false) : StopGoesOn s (leaveStopping t) := by
  have control : (Machine.leaveStopping t).control = { t.control with part := .halted } := by
    have off : (t.modSlotPath SlotPath.leaveTime).control.run = false := run
    rw [Machine.leaveStopping]
    dsimp only
    rw [off]
    rfl
  have lines : (Machine.leaveStopping t).lines = t.lines := by simp
  have orders : (Machine.leaveStopping t).orders = t.orders := by simp
  refine ⟨.inr (by rw [control]), ?_, fun none n => ?_⟩
  · rw [control, h.registers]
  · rw [State.line_def, lines]
    exact h.lines (orders ▸ none) n

theorem stopAdvance (stopping : s.stopping = true) (run : s.control.run = false) (begun : s.control.stopTornDown = false) :
    StopGoesOn s (stopAdvance s) := by
  have part : s.control.part = .stopping := by simpa using stopping
  have control := stopTorn_control s
  have torn : StopGoesOn s (stopTorn s) :=
    ⟨.inl (by rw [control]; exact part), by rw [control], fun _ n => stopLines_atRest _ n⟩
  cases current : s.orders.current with
  | none =>
    rw [stopAdvance_without_order stopping begun current]
    split
    · exact torn.leaveStopping (by rw [control]; exact run)
    · exact torn
  | some c =>
    rw [stopAdvance_of_order stopping begun current]
    exact ⟨.inl part, rfl, fun none => by rw [current] at none; cases none⟩

/-- Outside RUNNING the rest of the step leaves the registers, the lines and the order unit. -/
theorem epilogue (stopping : s.stopping = true) (run : s.control.run = false) (begun : s.control.stopTornDown = false) :
    StopGoesOn s (epilogue s) := by
  have advanced := stopAdvance stopping run begun
  have quiet : (Machine.advance s).running = false := by
    have part : (Machine.advance s).control.part = (Machine.stopAdvance s).control.part := by simp [Machine.advance]
    rw [State.running_def, part]
    rcases advanced.part with e | e <;> rw [e] <;> rfl
  have lines : (Machine.epilogue s).lines = (Machine.stopAdvance s).lines := by
    have served : (Machine.advance s).lines = (Machine.stopAdvance s).lines := by simp [Machine.advance]
    rw [← served, Machine.epilogue]
    rcases concludeIfQuiet_or (Machine.advance s) with same | concluded
    · rw [same]
    · obtain ⟨-, -, -, lines, -⟩ := BlocksKept.conclude quiet
      rw [concluded, lines]
  have control : (Machine.epilogue s).control = (Machine.stopAdvance s).control := by
    simp [Machine.epilogue, Machine.advance]
  have orders : (Machine.epilogue s).orders = (Machine.stopAdvance s).orders := by
    simp [Machine.epilogue, Machine.advance]
  refine ⟨by rw [control]; exact advanced.part, by rw [control]; exact advanced.registers, fun none n => ?_⟩
  rw [State.line_def, lines]
  exact advanced.lines (orders ▸ none) n

end StopGoesOn

/-! ### A start abandoned (R166, R183) -/

/-- Outside RUNNING and STOPPING what follows a step leaves the registers and the blocks. -/
theorem epilogue_of_inactive_kept {s : State} (hr : s.running = false) (hs : s.stopping = false) :
    BlocksKept s (epilogue s) ∧ (epilogue s).control = s.control ∧
      (epilogue s).port = servePort s.control.stationBase s.port := by
  have served : (portServe s).running = false := by simpa using hr
  rw [epilogue_of_inactive hr hs]
  exact ⟨(BlocksKept.portServe s).trans (.conclude served), by simp, by rw [conclude_port]; rfl⟩

/-- R171: the port's service asks for no header read. -/
theorem servePort_waitStart {base : Word} {p : Port} (h : p.waitStart = none) : (servePort base p).waitStart = none := by
  have placed : ∀ a q, (placeOnBus base a q).waitStart = q.waitStart := fun a q => by
    unfold placeOnBus
    split
    · rfl
    · split <;> rfl
  unfold servePort
  rw [h]
  split
  · exact h
  · dsimp only
    split
    · rw [placed]
    · split
      · rw [placed]
      · exact h

section
variable {s : State} (released : s.control.holdReset = false) (run : s.control.run = true)
include released run

/-- R166: RUN written 0 in STARTING. -/
theorem runWritten0_of_starting (part : s.control.part = .starting) :
    runWritten0 s = (s.modControl fun c => { c with part := .halted, run := false }).modPort abandonHeaderRead := by
  have starting : (s.modControl fun c => { c with run := false }).control.part = .starting := part
  rw [runWritten0_of_run released run, runCleared, starting]
  rfl

/-- R183: RUN written 0 in START_FAILED. -/
theorem runWritten0_of_startFailed (part : s.control.part = .startFailed) :
    runWritten0 s = s.modControl fun c => { c with part := .halted, run := false } := by
  have failed : (s.modControl fun c => { c with run := false }).control.part = .startFailed := part
  rw [runWritten0_of_run released run, runCleared, failed]
  rfl

end

theorem runWritten0_of_run_0 {s : State} (run : s.control.run = false) : runWritten0 s = s := by
  rw [runWritten0, run, if_pos (by simp)]

theorem exec_runWritten0 {s u : State} (h : runWritten0 s = u) : exec .runWritten0 s = .next (epilogue u) :=
  congrArg (fun u => Host.Outcome.next (epilogue u)) h

/-- Settles O23, by the part state that RUN written 0 finds. -/
theorem Proofs.runWritten0 : Obligations.RunWritten0 := by
  refine ⟨fun s part released run => ?_, fun s part released run => ?_, fun s part released run => ?_,
    fun s part released run => ?_, fun s run part => ?_⟩
  · have exec := exec_runWritten0 (runWritten0_of_starting released run part)
    obtain ⟨kept, control, port⟩ := epilogue_of_inactive_kept
      (s := (s.modControl fun c => { c with part := .halted, run := false }).modPort abandonHeaderRead) rfl rfl
    exact ⟨_, exec, kept, control, by rw [port]; exact servePort_waitStart rfl⟩
  · have exec := exec_runWritten0 (runWritten0_of_startFailed released run part)
    obtain ⟨kept, control, -⟩ := epilogue_of_inactive_kept
      (s := s.modControl fun c => { c with part := .halted, run := false }) rfl rfl
    exact ⟨_, exec, kept, control⟩
  · have control := stopEntered_control s
    obtain ⟨pending, settings, lines⟩ := stopEntered_kept s
    exact ⟨_, exec_runWritten0 (runWritten0_of_running part released run), pending, settings, lines,
      stopEntered_active s, by rw [control], by rw [control], by rw [control], by rw [control], by rw [control],
      by rw [control], by rw [control], stopEntered_without_order, fun _ => stopEntered_aborts,
      fun _ => stopEntered_waits, fun _ _ _ _ _ _ current state => stopEntered_ends_sendTones current state,
      fun _ => stopEntered_keeps_result⟩
  · have control := stopEntered_control s
    obtain ⟨pending, settings, -⟩ := stopEntered_kept s
    have stops : StopGoesOn (stopEntered s) (epilogue (stopEntered s)) :=
      .epilogue (by rw [State.stopping_def, control]; rfl) (by rw [control]) (by rw [control])
    have registers := stops.registers
    rw [control] at registers
    exact ⟨_, exec_runWritten0 (runWritten0_of_running part released run), by simpa using pending,
      by simpa using settings, stops.part, by rw [registers], by rw [registers], by rw [registers], by rw [registers],
      fun none n => (stops.lines none n).not_seizedOn⟩
  · have stopping : s.stopping = false := by rw [State.stopping_def, part]; rfl
    refine ⟨_, exec_runWritten0 (runWritten0_of_run_0 run), ?_⟩
    rw [epilogue_of_not_stopping stopping]
    simp

end Sys2Proof.Machine
end

section
/-! HOLD_RESET written 0 in RESET_HELD (R166, R181, R183, R184; O21): the release to HALTED, and the start with the
header read. -/

namespace Sys2Proof.Machine

/-! ### HOLD_RESET written 0 (R181, R183) -/

/-- R181, R183: the part once HOLD_RESET has been written 0, before the write's RUN is taken. -/
def released (attn : Bool) (s : State) : State :=
  s.modControl fun c => { c with part := .halted, holdReset := false, attnEnable := attn }

/-- R183: the part released with RUN 1. -/
def releasedToStart (attn : Bool) (s : State) : State :=
  enterStarting ((released attn s).modControl fun c => { c with run := true })

section
variable {s : State} (held : s.control.holdReset = true) (unrun : s.control.run = false) (attn : Bool)
include held unrun

theorem holdResetRelease_without_run : holdResetRelease false attn s = released attn s :=
  (if_pos held).trans (runWritten0_of_run_0 (s := released attn s) unrun)

theorem holdResetRelease_with_run : holdResetRelease true attn s = releasedToStart attn s := by
  have free : ¬((released attn s).control.holdReset || (released attn s).control.run) = true := by
    simp [released, unrun]
  have starts : runWritten1 (released attn s) = releasedToStart attn s := (if_neg free).trans (if_pos rfl)
  exact (if_pos held).trans starts

end

theorem exec_holdResetRelease {run attn : Bool} {s u : State} (h : holdResetRelease run attn s = u) :
    exec (.holdResetRelease run attn) s = .next (epilogue u) :=
  congrArg (fun u => Host.Outcome.next (epilogue u)) h

/-- R166, R171: the free port makes the header read that the start asks for. -/
theorem enterStarting_served {s : State} (free : s.port.inFlight = none) (base : Word) :
    ∃ a, (servePort base (enterStarting s).port).inFlight = some a ∧ a.purpose = .headerRead ∧ a.length = 160 ∧
      a.addr = s.control.stationBase.toNat := by
  have unused : (enterStarting s).port.inFlight = none := free
  unfold servePort
  rw [unused]
  exact ⟨_, rfl, rfl, rfl, rfl⟩

/-- Settles O21, by the RUN of the write. -/
theorem Proofs.holdResetRelease : Obligations.HoldResetRelease := by
  intro run attn s held _ unrun
  cases run with
  | false =>
    obtain ⟨kept, control, -⟩ := epilogue_of_inactive_kept (s := released attn s) rfl rfl
    refine ⟨_, exec_holdResetRelease (holdResetRelease_without_run held unrun attn), kept, ?_⟩
    rw [control]
    exact ⟨rfl, rfl, unrun, rfl, rfl, rfl, fun _ => ⟨rfl, rfl⟩, nofun⟩
  | true =>
    obtain ⟨kept, control, port⟩ := epilogue_of_inactive_kept (s := releasedToStart attn s) rfl rfl
    refine ⟨_, exec_holdResetRelease (holdResetRelease_with_run held unrun attn), kept, ?_⟩
    rw [control, port]
    exact ⟨rfl, rfl, rfl, rfl, rfl, rfl, nofun, fun _ => ⟨rfl, rfl, fun free => enterStarting_served free _⟩⟩

end Sys2Proof.Machine
end

section
/-! The order unit's scan (R173, R174; O49): the sweep event, and the read of a mark. -/

namespace Sys2Proof.Machine

/-! ### A sweep event (R173) -/

/-- R173: the sweep event is taken. -/
def sweepTaken (s : State) : State := s.modOrders fun o => { o with sweepDue := false }

theorem takeSweep_eq (s : State) : takeSweep s = retryParked (beginScan (sweepTaken s)) := rfl

theorem exec_sweepEvent_due {s : State} (h : isDue .sweep s = true) :
    exec .sweepEvent s = .next (epilogue (takeSweep s)) := congrArg _ (whenDue_of_due h _)

/-- R156, R159: of the port, the record writer's new pass reaches its own waiting access alone. -/
theorem retryParked_portKept (s : State) : PortKept s (retryParked s) := by
  unfold retryParked
  split
  · exact beginPass_portKept true s
  · exact .of_port rfl

theorem retryParked_of_not_parked {s : State} (h : s.writer.state ≠ .parked) : retryParked s = s := if_neg h

/-- R156, R159: the pass of a PARKED writer. -/
theorem retryParked_searches {s : State} (parked : s.writer.state = .parked) (fifo : s.writer.fifo ≠ []) :
    (retryParked s).writer = { s.writer with state := .searching, examined := 0, retry := true } ∧
      (retryParked s).port.waitWriter
        = some (readAccess s .recordMarkRead (recordSlot s.writer (s.writer.cursor % s.writer.slots)) 4) := by
  rw [retryParked, if_pos parked, beginPass_of_ne_nil fifo]
  exact ⟨rfl, rfl⟩

theorem beginScan_of_not_idle {s : State} (h : s.orders.state ≠ .idle) : beginScan s = s := if_neg h

/-- R173: the pass of an IDLE order unit. -/
theorem beginScan_scans {s : State} (h : s.orders.state = .idle) :
    (beginScan s).orders = { s.orders with state := .scanning, passStart := s.orders.cursor, examined := 0 } ∧
      (beginScan s).port.waitOrder
        = some (readAccess s .orderMarkRead (orderSlot s.orders (s.orders.cursor % s.orders.slots)) 4) := by
  rw [beginScan, if_pos h]
  exact ⟨rfl, rfl⟩

/-- Of the port, a pass of the order unit reaches its own waiting access alone. -/
theorem beginScan_port (s : State) :
    (beginScan s).port.windows = s.port.windows ∧ (beginScan s).port.waitWriter = s.port.waitWriter := by
  unfold beginScan
  split <;> exact ⟨rfl, rfl⟩

/-- R173: what a sweep event makes of the order unit. -/
theorem takeSweep_orders (s : State) :
    (takeSweep s).orders = (beginScan (sweepTaken s)).orders ∧
      (takeSweep s).port.waitOrder = (beginScan (sweepTaken s)).port.waitOrder := by
  obtain ⟨-, -, -, -, waits⟩ := retryParked_portKept (beginScan (sweepTaken s))
  exact ⟨by simp [takeSweep_eq], waits⟩

theorem takeSweep_scans {s : State} (idle : s.orders.state = .idle) :
    (takeSweep s).orders =
        { s.orders with sweepDue := false, state := .scanning, passStart := s.orders.cursor, examined := 0 } ∧
      (takeSweep s).port.waitOrder
        = some (readAccess s .orderMarkRead (orderSlot s.orders (s.orders.cursor % s.orders.slots)) 4) := by
  obtain ⟨orders, waits⟩ := takeSweep_orders s
  obtain ⟨scanning, asked⟩ := beginScan_scans (s := sweepTaken s) idle
  exact ⟨orders.trans scanning, waits.trans asked⟩

theorem takeSweep_leaves_orders {s : State} (busy : s.orders.state ≠ .idle) :
    (takeSweep s).orders = { s.orders with sweepDue := false } ∧
      (takeSweep s).port.waitOrder = s.port.waitOrder := by
  obtain ⟨orders, waits⟩ := takeSweep_orders s
  rw [beginScan_of_not_idle (s := sweepTaken s) busy] at orders waits
  exact ⟨orders, waits⟩

theorem takeSweep_sweepDue (s : State) : (takeSweep s).orders.sweepDue = false := by
  obtain ⟨orders, -⟩ := takeSweep_orders s
  rw [orders]
  unfold beginScan
  split <;> rfl

/-- R159, R173: a sweep event gives a PARKED writer a pass. -/
theorem takeSweep_searches {s : State} (parked : s.writer.state = .parked) (fifo : s.writer.fifo ≠ []) :
    (takeSweep s).writer = { s.writer with state := .searching, examined := 0, retry := true } ∧
      (takeSweep s).port.waitWriter
        = some (readAccess s .recordMarkRead (recordSlot s.writer (s.writer.cursor % s.writer.slots)) 4) := by
  have writer : (beginScan (sweepTaken s)).writer = s.writer := by simp [sweepTaken]
  obtain ⟨windows, -⟩ := beginScan_port (sweepTaken s)
  obtain ⟨searching, asked⟩ := retryParked_searches (s := beginScan (sweepTaken s)) (by rw [writer]; exact parked)
    (by rw [writer]; exact fifo)
  rw [writer] at searching asked
  exact ⟨searching, asked.trans (by rw [readAccess_congr windows]; rfl)⟩

theorem takeSweep_leaves_writer {s : State} (h : s.writer.state ≠ .parked) :
    (takeSweep s).writer = s.writer ∧ (takeSweep s).port.waitWriter = s.port.waitWriter := by
  have writer : (beginScan (sweepTaken s)).writer = s.writer := by simp [sweepTaken]
  obtain ⟨-, waits⟩ := beginScan_port (sweepTaken s)
  rw [takeSweep_eq, retryParked_of_not_parked (by rw [writer]; exact h)]
  exact ⟨writer, waits⟩

/-! ### The read of a mark (R173, R174) -/

/-- R173: one mark more of the pass has been read. -/
def orderMarkExamined (s : State) : State := s.modOrders fun o => { o with examined := o.examined + 1 }

section
variable {s : State} {mark : Word}

theorem exec_orderMarkReadDone (h : s.onBus .orderMarkRead = true) (mark : Word) :
    exec (.orderMarkReadDone mark) s = .next (epilogue (orderMarkRead mark (freeBus s))) :=
  congrArg _ (whenDone_of_onBus h _)

/-- R174: the order of a POSTED slot is taken. -/
theorem orderMarkRead_of_posted (posted : mark = 1) (running : s.running = true) :
    orderMarkRead mark s = takeOrder s.orders.scanned (orderMarkExamined s) := if_pos ⟨posted, running⟩

theorem orderMarkRead_of_other (other : mark ≠ 1) : orderMarkRead mark s = goOnScanning (orderMarkExamined s) :=
  if_neg fun h => other h.1

theorem readOrderMark_asks (s : State) : (readOrderMark s).orders.state = .scanning ∧
    (readOrderMark s).port.waitOrder = some (readAccess s .orderMarkRead
      (orderSlot s.orders ((s.orders.passStart + s.orders.examined) % s.orders.slots)) 4) := ⟨rfl, rfl⟩

theorem goOnScanning_scans (more : s.orders.examined < s.orders.slots) (running : s.running = true) :
    goOnScanning s = readOrderMark s := if_pos ⟨more, running⟩

theorem goOnScanning_ends (h : s.running = false ∨ s.orders.slots ≤ s.orders.examined) :
    goOnScanning s = s.modOrders fun o => { o with state := .idle } := by
  refine if_neg fun ⟨more, running⟩ => ?_
  rcases h with stopped | last
  · simp_all
  · omega

end

/-- R173: a pass that goes on or ends keeps its place, the order in hand and the bus. -/
theorem goOnScanning_keeps (s : State) :
    (goOnScanning s).port.inFlight = s.port.inFlight ∧ (goOnScanning s).orders.examined = s.orders.examined ∧
      (goOnScanning s).orders.cursor = s.orders.cursor ∧ (goOnScanning s).orders.current = s.orders.current := by
  unfold goOnScanning
  split <;> exact ⟨rfl, rfl, rfl, rfl⟩

theorem OrderUnitOnly.orderMarkRead (mark : Word) (s : State) : OrderUnitOnly s (orderMarkRead mark s) := by
  simp [OrderUnitOnly]

/-- Settles O49: the sweep event by the states of the order unit and the record writer, the read by the mark. -/
theorem sweepAndMarkRead : Obligations.SweepAndMarkRead := by
  refine ⟨fun s due => ⟨_, exec_sweepEvent_due due, by simp [HostSideKept], by simp, by simp, by simp, by simp, by simp,
      takeSweep_sweepDue s, takeSweep_scans, takeSweep_leaves_orders, takeSweep_searches, takeSweep_leaves_writer⟩,
    fun mark s onBus running => ⟨_, exec_orderMarkReadDone onBus mark, ?_⟩⟩
  · have only := (OrderUnitOnly.freeBus s).trans (.orderMarkRead mark (freeBus s))
    have freed : (freeBus s).running = true := running
    by_cases posted : mark = 1
    · rw [orderMarkRead_of_posted posted freed] at only ⊢
      exact ⟨only, rfl, rfl, rfl, fun _ => ⟨rfl, rfl, rfl⟩, fun other => absurd posted other,
        fun other => absurd posted other, fun other => absurd posted other⟩
    · obtain ⟨inFlight, examined, cursor, current⟩ := goOnScanning_keeps (orderMarkExamined (freeBus s))
      rw [orderMarkRead_of_other posted] at only ⊢
      refine ⟨only, inFlight, examined, cursor, fun taken => absurd taken posted, fun _ => current, fun _ more => ?_,
        fun _ last => ?_⟩
      · rw [goOnScanning_scans (s := orderMarkExamined (freeBus s)) more freed]
        exact ⟨rfl, rfl⟩
      · rw [goOnScanning_ends (s := orderMarkExamined (freeBus s)) (.inr last)]
        exact ⟨rfl, rfl⟩

end Sys2Proof.Machine
end

section
/-! The order taken (R174, R176, R178; O50): the TAKEN write, NOP, and a code that no order has. -/

namespace Sys2Proof.Machine

/-! ### TAKEN written (R174, R176) -/

section
variable {s : State} {c : CurrentOrder}

theorem readBody_of_current (h : s.orders.current = some c) :
    readBody s = askOrder (readAccess s .bodyRead (orderSlot s.orders c.slot + 4) 60) s := by rw [readBody, h]

/-- R176: an ABORT that waited for the access ends the order at its completion. -/
theorem unlessAborted_of_abort (h : s.orders.current = some c) (abort : c.abort = true) (k : State → State) :
    unlessAborted k s = endAborted s := by
  have waits : abortWaits s = true := by
    unfold abortWaits
    rw [h]
    exact abort
  exact if_pos waits

/-- R174: the TAKEN write of an order that goes on. -/
theorem exec_takenWriteDone (h : s.onBus .takenWrite = true) (w : s.working c) :
    exec .takenWriteDone s = .next (epilogue (readBody (freeBus s))) := congrArg _ (whenDone_working h w _)

/-- R176: the TAKEN write of an order whose ABORT waits. -/
theorem exec_takenWriteDone_of_abort (h : s.onBus .takenWrite = true) (current : s.orders.current = some c)
    (abort : c.abort = true) : exec .takenWriteDone s = .next (epilogue (endAborted (freeBus s))) := by
  have ended : unlessAborted readBody (freeBus s) = endAborted (freeBus s) :=
    unlessAborted_of_abort (s := freeBus s) current abort _
  rw [← ended]
  exact congrArg _ (whenDone_of_onBus h _)

/-! ### NOP and the orders that no order has (R174, R178) -/

theorem exec_nop {b : OrderBody} (h : s.executing c) (code : b.code = 0x01) :
    exec (.nop b) s = .next (epilogue (chooseResult .ok {} (bodyHeld b s))) :=
  congrArg _ (whenBody_executing (i := .nop b) h (beq_iff_eq.2 code) _)

/-- R193: the codes of the nine orders. -/
theorem unknownOrder_wellFormed {b : OrderBody} (code : b.code = 0 ∨ 9 < b.code) :
    (Instr.unknownOrder b).wellFormed = true := by
  simp only [Instr.wellFormed, knownOrder, Bool.not_eq_true', Bool.and_eq_false_iff, decide_eq_false_iff_not]
  omega

theorem exec_unknownOrder {b : OrderBody} (h : s.executing c) (code : b.code = 0 ∨ 9 < b.code) :
    exec (.unknownOrder b) s = .next (epilogue (chooseResult .unknownOrder { order := b.code } (bodyHeld b s))) :=
  congrArg _ (whenBody_executing (i := .unknownOrder b) h (unknownOrder_wellFormed code) _)

end

/-- Settles O50: the TAKEN write with and without an ABORT that waits, and the two orders that only answer. -/
theorem takenNopAndUnknown : Obligations.TakenNopAndUnknown := by
  refine ⟨fun s c onBus working => ⟨_, exec_takenWriteDone onBus working, ?_⟩,
    fun s c onBus current abort work => ⟨_, exec_takenWriteDone_of_abort onBus current abort, ?_⟩,
    fun b s c executing code => ⟨_, exec_nop executing code, ?_⟩,
    fun b s c executing code => ⟨_, exec_unknownOrder executing code, ?_⟩⟩
  · obtain ⟨current, -⟩ := working
    rw [readBody_of_current (s := freeBus s) current]
    exact ⟨(OrderUnitOnly.freeBus s).trans (.askOrder _ _), rfl, rfl, rfl⟩
  · have ended : endAborted (freeBus s) = chooseResult .aborted {} (freeBus s) := by
      rw [endAborted_eq (s := freeBus s) current, work]
      rfl
    rw [ended]
    exact ⟨(OrderUnitOnly.freeBus s).trans (.chooseResult _ _ _), (SameOrder.freeBus s).answered current _ _⟩
  · obtain ⟨-, -, current, -⟩ := executing
    exact bodyHeld_answers current b _ _
  · obtain ⟨-, -, current, -⟩ := executing
    exact bodyHeld_answers current b _ _

end Sys2Proof.Machine
end

section
/-! The completion of the order unit's writes (R175, R178, R179; O52). -/

namespace Sys2Proof.Machine

/-! ### The order unit's writes (R175, R178, R179) -/

section
variable {s : State}

/-- R178, R179: in RUNNING the completed destination write chooses OK. -/
theorem recordWritten_of_running (h : s.running = true) : recordWritten s = chooseResult .ok {} s := by
  rw [recordWritten, stopping_of_running h, if_neg Bool.false_ne_true]

theorem exec_identifyWriteDone (h : s.onBus .identifyWrite = true) :
    exec .identifyWriteDone s = .next (epilogue (recordWritten (freeBus s))) := congrArg _ (whenDone_of_onBus h _)

theorem exec_readLineWriteDone (h : s.onBus .readLineWrite = true) :
    exec .readLineWriteDone s = .next (epilogue (recordWritten (freeBus s))) := congrArg _ (whenDone_of_onBus h _)

theorem exec_orderResultWriteDone (h : s.onBus .resultWrite = true) :
    exec .orderResultWriteDone s = .next (epilogue (writeDone (freeBus s))) := congrArg _ (whenDone_of_onBus h _)

theorem exec_orderDoneWriteDone (h : s.onBus .doneWrite = true) :
    exec .orderDoneWriteDone s = .next (epilogue (orderDone (freeBus s))) := congrArg _ (whenDone_of_onBus h _)

theorem recordWritten_answers {c : CurrentOrder} (running : s.running = true) (current : s.orders.current = some c) :
    OrderUnitOnly s (recordWritten (freeBus s)) ∧ Answered s (recordWritten (freeBus s)) .ok {} := by
  rw [recordWritten_of_running (s := freeBus s) running]
  exact ⟨(OrderUnitOnly.freeBus s).trans (.chooseResult _ _ _), (SameOrder.freeBus s).answered current _ _⟩

theorem writeDone_of_current {c : CurrentOrder} (h : s.orders.current = some c) :
    writeDone s = askOrder (writeAccess s .doneWrite (orderSlot s.orders c.slot) [0x03, 0x00, 0x00, 0x00]) s := by
  rw [writeDone, h]
  rfl

end

/-- R175: the order of slot `i` is over: ORDER_DONE is raised and the cursor takes the next slot. -/
def orderOver (i : Nat) (s : State) : State :=
  (raise .orderDone s).modOrders fun o => { o with current := none, cursor := nextSlot o.slots i }

section
variable {s : State} {c : CurrentOrder} (current : s.orders.current = some c)
include current

/-- R175: after an order that was in progress there is no pass to go on. -/
theorem orderDone_of_progressed (h : c.progressed = true) :
    orderDone s = (orderOver c.slot s).modOrders fun o => { o with state := .idle } := by
  rw [orderDone, current]
  exact if_pos h

theorem orderDone_of_not_progressed (h : c.progressed = false) : orderDone s = goOnScanning (orderOver c.slot s) := by
  rw [orderDone, current]
  exact if_neg (by rw [h]; exact Bool.false_ne_true)

end

theorem orderOver_orders (i : Nat) (s : State) :
    (orderOver i s).orders = { s.orders with current := none, cursor := (i + 1) % s.orders.slots } := by
  simp [orderOver, nextSlot]

theorem orderOver_raised (i : Nat) (s : State) : Raised .orderDone s.control (orderOver i s).control :=
  raise_raised .orderDone s

/-- R175: the end of an order, whether the pass goes on or not: ORDER_DONE, no order current, and the next slot. -/
theorem orderDone_keeps {s : State} {c : CurrentOrder} (current : s.orders.current = some c) :
    Raised .orderDone s.control (orderDone s).control ∧ (orderDone s).orders.current = none ∧
      (orderDone s).orders.cursor = (c.slot + 1) % s.orders.slots ∧
      (orderDone s).orders.examined = s.orders.examined := by
  have raised := orderOver_raised c.slot s
  have orders := orderOver_orders c.slot s
  cases progressed : c.progressed with
  | true =>
    rw [orderDone_of_progressed current progressed]
    simp only [State.modOrders_control, State.modOrders_orders, orders]
    exact ⟨raised, trivial, trivial, trivial⟩
  | false =>
    have control : ∀ t, (goOnScanning t).control = t.control := by simp
    obtain ⟨-, examined, cursor, none⟩ := goOnScanning_keeps (orderOver c.slot s)
    rw [orderDone_of_not_progressed current progressed, control, examined, cursor, none, orders]
    exact ⟨raised, rfl, rfl, rfl⟩

/-- R173, R175: with slots left to examine the pass goes on, in RUNNING. -/
theorem orderDone_scans {s : State} {c : CurrentOrder} (current : s.orders.current = some c)
    (fresh : c.progressed = false) (running : s.running = true) (more : s.orders.examined < s.orders.slots) :
    (orderDone s).orders.state = .scanning ∧ (orderDone s).port.waitOrder = some (readAccess s .orderMarkRead
      (orderSlot s.orders ((s.orders.passStart + s.orders.examined) % s.orders.slots)) 4) := by
  have orders := orderOver_orders c.slot s
  have windows : (orderOver c.slot s).port.windows = s.port.windows := by simp [orderOver]
  obtain ⟨scanning, asked⟩ := readOrderMark_asks (orderOver c.slot s)
  have goes : goOnScanning (orderOver c.slot s) = readOrderMark (orderOver c.slot s) :=
    goOnScanning_scans (by rw [orders]; exact more) (by simpa [orderOver, raise_part] using running)
  rw [orders, readAccess_congr windows] at asked
  rw [orderDone_of_not_progressed current fresh, goes]
  exact ⟨scanning, asked⟩

theorem orderDone_rests {s : State} {c : CurrentOrder} (current : s.orders.current = some c)
    (h : c.progressed = true ∨ s.running = false ∨ s.orders.slots ≤ s.orders.examined) :
    (orderDone s).orders.state = .idle := by
  cases progressed : c.progressed with
  | true =>
    rw [orderDone_of_progressed current progressed]
    rfl
  | false =>
    have orders := orderOver_orders c.slot s
    have ends : (orderOver c.slot s).running = false ∨
        (orderOver c.slot s).orders.slots ≤ (orderOver c.slot s).orders.examined := by
      rw [orders]
      simpa [progressed, orderOver, raise_part] using h
    rw [orderDone_of_not_progressed current progressed, goOnScanning_ends ends]
    rfl

/-- Settles O52. -/
theorem orderWritesDone : Obligations.OrderWritesDone := by
  refine ⟨fun s c onBus running current => ⟨_, exec_identifyWriteDone onBus, recordWritten_answers running current⟩,
    fun s c onBus running current => ⟨_, exec_readLineWriteDone onBus, recordWritten_answers running current⟩,
    fun s c onBus current => ⟨_, exec_orderResultWriteDone onBus, ?_⟩,
    fun s c onBus current => ⟨_, exec_orderDoneWriteDone onBus, ?_⟩⟩
  · rw [writeDone_of_current (s := freeBus s) current]
    exact ⟨(OrderUnitOnly.freeBus s).trans (.askOrder _ _), rfl, rfl, rfl⟩
  · obtain ⟨raised, none, cursor, examined⟩ := orderDone_keeps (s := freeBus s) current
    exact ⟨raised, by simp, by simp, by simp, by simp, by simp, by simp, by simp, none, cursor, examined,
      fun progressed => orderDone_rests (s := freeBus s) current (.inl progressed),
      fun fresh running more => orderDone_scans (s := freeBus s) current fresh running more,
      fun ends => orderDone_rests (s := freeBus s) current (.inr ends)⟩

end Sys2Proof.Machine
end

section
/-! IDENTIFY and READ_LINE (R169, R178, R179, R197; O51): the bytes of a structure, the snapshot of a line, and the write at
the destination. -/

namespace Sys2Proof.Machine

/-! ### Bytes of a structure in host memory (R189) -/

theorem byteAt_append_left {xs : List Byte} {i : Nat} (h : i < xs.length) (ys : List Byte) :
    byteAt (xs ++ ys) i = byteAt xs i := by
  rw [byteAt, byteAt, List.getD_append _ _ _ _ h]

theorem byteAt_append_right {xs : List Byte} {i : Nat} (h : xs.length ≤ i) (ys : List Byte) :
    byteAt (xs ++ ys) i = byteAt ys (i - xs.length) := by
  rw [byteAt, byteAt, List.getD_append_right _ _ _ _ h]

theorem byteAt_zeros (k i : Nat) : byteAt (zeros k) i = 0 := by
  simp only [byteAt, zeros, List.getD_eq_getElem?_getD, List.getElem?_replicate]
  split <;> rfl

/-- R189: the unused bytes at the end of a structure. -/
theorem byteAt_padded {xs : List Byte} {i : Nat} (h : xs.length ≤ i) (k : Nat) : byteAt (xs ++ zeros k) i = 0 := by
  rw [byteAt_append_right h, byteAt_zeros]

theorem byteAt_map_ofNat {xs : List Nat} {i : Nat} (h : i < xs.length) :
    byteAt (xs.map (BitVec.ofNat 8)) i = xs[i] % 256 := by
  simp [byteAt, h]

theorem toLE_two (x : Nat) : toLE 2 x = [BitVec.ofNat 8 x, BitVec.ofNat 8 (x / 256)] := rfl

/-- A table of 16-bit fields. -/
theorem half_flatMap {α : Type} (f : α → Nat) (xs : List α) (ys : List Byte) {i : Nat} (h : i < xs.length) :
    half (xs.flatMap (fun x => toLE 2 (f x)) ++ ys) (2 * i) = f xs[i] % 65536 := by
  induction xs generalizing i with
  | nil => cases h
  | cons x xs ih =>
    rw [List.flatMap_cons, toLE_two]
    cases i with
    | zero =>
      show (BitVec.ofNat 8 (f x)).toNat + 256 * (BitVec.ofNat 8 (f x / 256)).toNat = f x % 65536
      rw [BitVec.toNat_ofNat, BitVec.toNat_ofNat]
      omega
    | succ i => exact ih (Nat.lt_of_succ_lt_succ h)

/-! ### The snapshot of a line (R179, R197) -/

/-- R197: the values whose low bytes are bytes 0x00 to 0x11 of the snapshot. -/
def snapshotFields (s : State) (n : LineNo) : List Nat :=
  [n.val, (s.line n).state.code, (s.classifier n).pulse.code, bit (s.line n).escapePending, (s.setting n).profile.val,
    (s.setting n).cls.code, (s.estimator n).p, (s.estimator n).p / 256, (s.estimator n).idt, (s.estimator n).idt / 256,
    (s.line n).queue.length, (match (s.line n).queue.head? with | some e => e.symbol.val | none => 0xFF),
    (match genOf s n with | some g => g.val | none => 0xFF),
    (match genOf s n with | some g => (s.gen g).state.code | none => 0), waitPosition s n,
    (match (s.line n).draft with | .none => 0 | .opened _ => 1 | .unrecorded => 2), bit (closedWaiting s n),
    (match (s.line n).boundBank with | some b => b.val | none => 0xFF)]

/-- R197: the remaining times, from 0x12 on. -/
def snapshotTimes (c : LineCtx) : List Byte := c.timers.toList.flatMap fun t => toLE 2 t.remaining

section
variable (s : State) (n : LineNo)

theorem snapshot_eq :
    snapshot s n = (snapshotFields s n).map (BitVec.ofNat 8) ++ snapshotTimes (s.line n) ++ zeros 30 := by
  have bytes : ∀ x, byte x = [x].map (BitVec.ofNat 8) := fun _ => rfl
  have halves : ∀ x, toLE 2 x = [x, x / 256].map (BitVec.ofNat 8) := fun _ => rfl
  delta snapshot snapshotFields snapshotTimes
  simp only [bytes, halves, ← List.map_append, List.cons_append, List.nil_append] <;> rfl

theorem snapshotFields_length : ((snapshotFields s n).map (BitVec.ofNat 8)).length = 18 := rfl

theorem snapshotTimes_length (c : LineCtx) : (snapshotTimes c).length = 16 := by
  have lengths : ∀ t : Timer, (toLE 2 t.remaining).length = 2 := fun _ => rfl
  simp [snapshotTimes, List.length_flatMap, lengths, c.timers.length_eq]

theorem snapshot_length : (snapshot s n).length = 64 := by
  simp [snapshot_eq, snapshotTimes_length, zeros, snapshotFields]

theorem snapshot_byte {i x : Nat} (h : (snapshotFields s n)[i]? = some x) : byteAt (snapshot s n) i = x % 256 := by
  obtain ⟨inFields, field⟩ := List.getElem?_eq_some_iff.1 h
  rw [snapshot_eq, List.append_assoc, byteAt_append_left (by rw [List.length_map]; exact inFields),
    byteAt_map_ofNat inFields, field]

/-- R197: a byte of the snapshot that holds its field whole. -/
theorem snapshot_field {i x : Nat} (h : (snapshotFields s n)[i]? = some x) (fits : x < 256) :
    byteAt (snapshot s n) i = x := (snapshot_byte s n h).trans (Nat.mod_eq_of_lt fits)

/-- R197: a 16-bit field of the snapshot. -/
theorem snapshot_half {i x : Nat} (low : (snapshotFields s n)[i]? = some x)
    (high : (snapshotFields s n)[i + 1]? = some (x / 256)) : half (snapshot s n) i = x % 65536 := by
  rw [half, snapshot_byte s n low, snapshot_byte s n high]
  omega

theorem snapshot_unused {i : Nat} (h : 34 ≤ i) : byteAt (snapshot s n) i = 0 := by
  rw [snapshot_eq]
  exact byteAt_padded (by rw [List.length_append, snapshotFields_length, snapshotTimes_length]; exact h) 30

/-- R71, R197: the remaining time of a timer stands at its place. -/
theorem snapshot_time (k : TimerKind) :
    half (snapshot s n) (18 + 2 * k.index.val)
      = (match (s.line n).timer k with | .stopped => 0xFFFF | .running c l => (l - c) % 65536) := by
  have place : k.index.val < (s.line n).timers.toList.length := by
    rw [(s.line n).timers.length_eq]
    exact k.index.isLt
  have shift : ∀ i, byteAt (snapshot s n) (18 + i) = byteAt (snapshotTimes (s.line n) ++ zeros 30) i := fun i => by
    rw [snapshot_eq, List.append_assoc, byteAt_append_right (Nat.le_add_right 18 i), snapshotFields_length,
      Nat.add_sub_cancel_left]
  have moved : half (snapshot s n) (18 + 2 * k.index.val)
      = half (snapshotTimes (s.line n) ++ zeros 30) (2 * k.index.val) := by
    rw [half, half, Nat.add_assoc, shift, shift]
  have time : half (snapshotTimes (s.line n) ++ zeros 30) (2 * k.index.val)
      = ((s.line n).timer k).remaining % 65536 := half_flatMap Timer.remaining _ _ place
  rw [moved, time]
  cases (s.line n).timer k <;> rfl

/-- R197: the head of the send queue. -/
theorem snapshot_head :
    byteAt (snapshot s n) 11 = (match (s.line n).queue with | [] => 0xFF | e :: _ => e.symbol.val) := by
  have field : (snapshotFields s n)[11]? =
      some (match (s.line n).queue with | [] => 0xFF | e :: _ => e.symbol.val) := by
    unfold snapshotFields
    cases (s.line n).queue <;> rfl
  refine snapshot_field s n field ?_
  split
  · decide
  · next e _ _ => exact e.symbol.isLt.trans (by decide)

/-- R115, R197: the generator attached to the line, and its state. -/
theorem snapshot_generator :
    byteAt (snapshot s n) 12 = (match genOf s n with | some g => g.val | none => 0xFF) ∧
      byteAt (snapshot s n) 13 = (match genOf s n with | some g => (s.gen g).state.code | none => 0) := by
  refine ⟨snapshot_field s n rfl ?_, snapshot_field s n rfl ?_⟩
  · split
    · next g _ => exact g.isLt.trans (by decide)
    · decide
  · split
    · next g _ => cases (s.gen g).state <;> decide
    · decide

/-- R197: whether a draft is open. -/
theorem snapshot_draft :
    byteAt (snapshot s n) 15 = (match (s.line n).draft with | .none => 0 | .opened _ => 1 | .unrecorded => 2) := by
  refine snapshot_field s n rfl ?_
  split <;> decide

/-- R197: the bound bank. -/
theorem snapshot_bank :
    byteAt (snapshot s n) 17 = (match (s.line n).boundBank with | some b => b.val | none => 0xFF) := by
  refine snapshot_field s n rfl ?_
  split
  · next b _ => exact b.isLt.trans (by decide)
  · decide

/-- R197: the codes of the line state, the pulse state and the class. -/
theorem snapshot_codes :
    byteAt (snapshot s n) 1 = (s.line n).state.code ∧ byteAt (snapshot s n) 2 = (s.classifier n).pulse.code ∧
      byteAt (snapshot s n) 5 = (s.setting n).cls.code := by
  refine ⟨snapshot_field s n rfl ?_, snapshot_field s n rfl ?_, snapshot_field s n rfl ?_⟩
  · cases (s.line n).state <;> decide
  · cases (s.classifier n).pulse <;> decide
  · cases (s.setting n).cls <;> decide

/-- R197: the flags of a pending escape and of a closed draft that waits. -/
theorem snapshot_flags :
    byteAt (snapshot s n) 3 = (if (s.line n).escapePending then 1 else 0) ∧
      byteAt (snapshot s n) 16 = (if closedWaiting s n then 1 else 0) := by
  refine ⟨snapshot_field s n rfl ?_, snapshot_field s n rfl ?_⟩ <;> split <;> decide

/-- R114, R197: a line in no entry of the wait list. -/
theorem waitPosition_of_not_waiting (h : isWaiting s n = false) : waitPosition s n = 0 := by
  have none : (s.pool.waitList.findIdx? fun e => e.line == n) = none :=
    List.findIdx?_eq_none_iff.2 fun e he => beq_false_of_ne (isWaiting_eq_false_iff.1 h e he)
  rw [waitPosition, none]

/-- R114, R197: the first entry of the line, counted from 1. -/
theorem waitPosition_of_first {i : Nat} {e : WaitEntry} (entry : s.pool.waitList[i]? = some e) (line : e.line = n)
    (first : ∀ j f, j < i → s.pool.waitList[j]? = some f → f.line ≠ n) : waitPosition s n = i + 1 := by
  obtain ⟨inList, at_i⟩ := List.getElem?_eq_some_iff.1 entry
  have found : (s.pool.waitList.findIdx? fun e => e.line == n) = some i := by
    refine List.findIdx?_eq_some_iff_getElem.2 ⟨inList, ?_, fun j before => ?_⟩
    · rw [at_i]
      exact beq_iff_eq.2 line
    · have other := first j _ before (List.getElem?_eq_getElem (before.trans inList))
      simpa using other
  rw [waitPosition, found]

end

/-! ### IDENTIFY and READ_LINE (R178, R179) -/

/-- R197: beyond the format revision the identification record is zeros. -/
theorem identification_unused {i : Nat} (h : 16 ≤ i) : byteAt identification i = 0 := byteAt_padded h 48

section
variable {b : OrderBody} {s : State} {c : CurrentOrder}

theorem exec_identify (h : s.executing c) (code : b.code = 0x02) :
    exec (.identify b) s = .next (epilogue (identify b (bodyHeld b s))) :=
  congrArg _ (whenBody_executing (i := .identify b) h (beq_iff_eq.2 code) _)

theorem exec_readLine (h : s.executing c) (code : b.code = 0x03) :
    exec (.readLine b) s = .next (epilogue (readLine b (bodyHeld b s))) :=
  congrArg _ (whenBody_executing (i := .readLine b) h (beq_iff_eq.2 code) _)

theorem readLine_badLine (h : 64 ≤ param b 0x08) : readLine b s = badParameter 0x08 s := dif_neg (Nat.not_lt.2 h)

theorem readLine_writes {n : LineNo} (h : param b 0x08 = n.val) :
    readLine b s = orderAccess .readLineWrite (paramAddress b 0x0C) 64 (snapshot s n) 0 s := by
  have inLines : param b 0x08 < Config.lines := h ▸ n.isLt
  obtain rfl : (⟨param b 0x08, inLines⟩ : LineNo) = n := Fin.ext h
  exact dif_pos inLines

end

/-- The snapshot reads neither the order unit nor the port. -/
theorem snapshot_bodyHeld (b : OrderBody) (s : State) (n : LineNo) : snapshot (bodyHeld b s) n = snapshot s n := rfl

section
variable {s t : State} {sa : Word} {len : Nat} {data : List Byte} (same : SameOrder s t) (p : Purpose) (i : Nat)
include same

/-- R169: a write that passes the port's check is asked for. -/
theorem SameOrder.write_allowed (written : data.isEmpty = false)
    (h : accessAllowed s.port.windows sa len true = true) :
    orderAccess p sa len data i t = askOrder (writeAccess s p sa data) t := by
  rw [orderAccess, same.windows, written, Bool.not_false, if_pos h, if_neg Bool.false_ne_true,
    writeAccess_congr same.windows]

/-- R169: an access that does not pass, read or write, answers the order WINDOW_FAULT and raises the cause. -/
theorem SameOrder.access_refused {c : CurrentOrder} (current : s.orders.current = some c)
    (control : t.control = s.control) (h : accessAllowed s.port.windows sa len (!data.isEmpty) = false) :
    Raised .windowFault s.control (orderAccess p sa len data i t).control ∧
      Answered s (orderAccess p sa len data i t) .windowFault
        { address := sa.toNat, kind := bit (!data.isEmpty), index := i } := by
  have refused : orderAccess p sa len data i t = chooseResult .windowFault
      { address := sa.toNat, kind := bit (!data.isEmpty), index := i } (raise .windowFault (emptyCurrentLoad t)) := by
    rw [orderAccess, same.windows, if_neg (by rw [h]; exact Bool.false_ne_true)]
  have emptied : (emptyCurrentLoad t).control = s.control := by rw [← control]; simp
  have kept : SameOrder t (raise .windowFault (emptyCurrentLoad t)) := .of_orders (by simp) (by simp)
  have chosen : ∀ (d : Details) (v : State), (chooseResult .windowFault d v).control = v.control := by simp
  rw [refused, chosen, ← emptied]
  exact ⟨raise_raised .windowFault _, (same.trans kept).answered current _ _⟩

end

/-- R169, R178, R179: the order's one write to its destination. -/
theorem bodyHeld_writes {s : State} {c : CurrentOrder} (current : s.orders.current = some c) (b : OrderBody)
    (p : Purpose) (sa : Word) (len : Nat) {data : List Byte} (written : data.isEmpty = false) :
    (accessAllowed s.port.windows sa len true = true →
      OrderUnitOnly s (orderAccess p sa len data 0 (bodyHeld b s)) ∧
        (orderAccess p sa len data 0 (bodyHeld b s)).orders.state = .executing ∧
        (orderAccess p sa len data 0 (bodyHeld b s)).orders.current = some { c with body := some b } ∧
        (orderAccess p sa len data 0 (bodyHeld b s)).port.inFlight = none ∧
        (orderAccess p sa len data 0 (bodyHeld b s)).port.waitOrder = some (writeAccess s p sa data)) ∧
      (accessAllowed s.port.windows sa len true = false →
        Raised .windowFault s.control (orderAccess p sa len data 0 (bodyHeld b s)).control ∧
          (orderAccess p sa len data 0 (bodyHeld b s)).lines = s.lines ∧
          (orderAccess p sa len data 0 (bodyHeld b s)).settings = s.settings ∧
          Answered s (orderAccess p sa len data 0 (bodyHeld b s)) .windowFault { address := sa.toNat, kind := 1 }) := by
  have same := SameOrder.bodyHeld b s
  have only := OrderUnitOnly.bodyHeld b s
  have orders := bodyHeld_orders current b
  refine ⟨fun allowed => ?_, fun refused => ?_⟩
  · obtain ⟨asked, waits⟩ := askOrder_waits (writeAccess s p sa data) (bodyHeld b s)
    rw [same.write_allowed p 0 written allowed, asked, waits, orders]
    exact ⟨only.trans (.askOrder _ _), rfl, rfl, rfl, rfl⟩
  · have answers := same.access_refused p 0 (data := data) current (by simp [bodyHeld]) (by rw [written]; exact refused)
    rw [written] at answers
    obtain ⟨raised, answered⟩ := answers
    exact ⟨raised, by simp [bodyHeld], by simp [bodyHeld], answered⟩

theorem snapshot_not_empty (s : State) (n : LineNo) : (snapshot s n).isEmpty = false := by
  rw [List.isEmpty_eq_false_iff_exists_mem, ← List.length_pos_iff_exists_mem, snapshot_length]
  decide

/-- Settles O51. -/
theorem identifyAndReadLine : Obligations.IdentifyAndReadLine := by
  refine ⟨rfl, fun n s => snapshot_length s n, ⟨rfl, rfl, rfl, rfl, rfl, rfl, rfl, rfl, rfl, rfl, rfl, rfl, rfl,
      fun i => identification_unused⟩, fun n s => ?_,
    fun b s c executing code => ⟨_, exec_identify executing code, ?_⟩,
    fun b s c executing code => ⟨_, exec_readLine executing code, ?_⟩⟩
  · obtain ⟨line, pulse, cls⟩ := snapshot_codes s n
    obtain ⟨escape, closed⟩ := snapshot_flags s n
    obtain ⟨generator, state⟩ := snapshot_generator s n
    have profile := (s.setting n).profile.isLt
    exact ⟨snapshot_field s n rfl (n.isLt.trans (by decide)), line, pulse, escape,
      snapshot_field s n rfl (profile.trans (by decide)), cls, snapshot_half s n rfl rfl, snapshot_half s n rfl rfl,
      snapshot_byte s n rfl, snapshot_head s n, generator, state, snapshot_byte s n rfl, snapshot_draft s n, closed,
      snapshot_bank s n, snapshot_time s n, fun i => snapshot_unused s n, waitPosition_of_not_waiting s n,
      fun i e entry line first => waitPosition_of_first s n entry line first⟩
  · obtain ⟨-, -, current, -⟩ := executing
    exact bodyHeld_writes current b .identifyWrite (paramAddress b 0x08) 64 rfl
  · obtain ⟨-, -, current, -⟩ := executing
    refine ⟨fun n line => ?_, fun inLines => ?_, fun outside => ?_⟩
    · obtain ⟨allowed, -⟩ := bodyHeld_writes current b .readLineWrite (paramAddress b 0x0C) 64 (snapshot_not_empty s n)
      rw [readLine_writes line, snapshot_bodyHeld]
      exact allowed
    · obtain ⟨-, refused⟩ := bodyHeld_writes current b .readLineWrite (paramAddress b 0x0C) 64
        (snapshot_not_empty s ⟨_, inLines⟩)
      rw [readLine_writes (n := ⟨_, inLines⟩) rfl, snapshot_bodyHeld]
      exact refused
    · rw [readLine_badLine outside]
      exact bodyHeld_answers current b _ _

end Sys2Proof.Machine
end

section
/-! The TOUCHED write and the header read (R167, R168, R170, R179, R185; O59). -/

namespace Sys2Proof.Machine

/-! ### The TOUCHED write (R170) -/

/-- R170: the window's TOUCHED write has completed and the data write behind it is on the bus. -/
def touchedThrough (w : WindowNo) (a : Access) (s : State) : State :=
  (s.modPort (touchWindow w)).modPort fun p => { p with inFlight := some a, behind := none }

/-- R170: the data write follows at once, where no ABORT waits. -/
theorem touchedWritten_of_behind {s : State} {a : Access} (behind : s.port.behind = some a) (free : abortWaits s = false)
    (w : WindowNo) : touchedWritten (some w) s = touchedThrough w a s := by
  have next : (s.modPort (touchWindow w)).port.behind = some a := behind
  have waits : abortWaits (s.modPort (touchWindow w)) = false := free
  have follows : dropsBehind a (s.modPort (touchWindow w)) = false := by rw [dropsBehind, waits, Bool.and_false]
  show followTouched (s.modPort (touchWindow w)) = _
  rw [followTouched, next]
  exact if_neg (by rw [follows]; exact Bool.false_ne_true)

theorem exec_touchedWriteDone {s : State} {t : Access} {w : WindowNo} (inFlight : s.port.inFlight = some t)
    (purpose : t.purpose = .touchedWrite) (counts : t.abandoned = none) (window : t.window = some w) :
    exec .touchedWriteDone s = .next (epilogue (touchedWritten (some w) (freeBus s))) := by
  have through : windowInFlight s = some w := by rw [windowInFlight, inFlight]; exact window
  have done := whenDone_of_onBus (onBus_iff.2 ⟨t, inFlight, purpose, counts⟩) (touchedWritten (windowInFlight s))
  rw [through] at done
  show Host.Outcome.next _ = _
  rw [through, done]

theorem touchWindow_windows (w : WindowNo) (p : Port) :
    (touchWindow w p).windows.get w = { p.windows.get w with touched := true } ∧
      ∀ x, x ≠ w → (touchWindow w p).windows.get x = p.windows.get x :=
  ⟨Table.get_set_self _ _ _, fun _ other => Table.get_set_ne _ _ (Ne.symm other)⟩

/-! ### The header read (R167, R168, R185) -/

section
variable {s : State} {h : HeaderBytes}

theorem exec_headerReadDone (onBus : s.onBus .headerRead = true) (h : HeaderBytes) :
    exec (.headerReadDone h) s = .next (epilogue (headerRead h (freeBus s))) := congrArg _ (whenDone_of_onBus onBus _)

theorem headerRead_of_failure {code : ResultCode} (fails : headerFailure h.toList = some code) :
    headerRead h s = failStart code s := by rw [headerRead, fails]

theorem headerRead_of_passed (passes : headerFailure h.toList = none) :
    headerRead h s = enterRunning (installHeader h.toList s) := by rw [headerRead, passes]

end

theorem failStart_control (code : ResultCode) (s : State) : (failStart code s).control =
    { s.control with part := .startFailed, result := code, attention := (failStart code s).control.attention } :=
  raise_control .startResult _

theorem enterRunning_control (s : State) : (enterRunning s).control =
    { s.control with part := .running, result := .ok, attention := (enterRunning s).control.attention } :=
  raise_control .startResult _

/-- R187: a cause raised after changes that leave ATTENTION and its mask. -/
theorem raise_raised_of (k : Cause) {s t : State} (attention : t.control.attention = s.control.attention)
    (mask : t.control.attentionMask = s.control.attentionMask) : Raised k s.control (raise k t).control := by
  have raised := raise_raised k t
  rw [Raised, attention, mask] at raised
  exact raised

/-- R167, R185: START_RESULT is raised whether the start fails or the part runs. -/
theorem headerRead_raised (h : HeaderBytes) (s : State) : Raised .startResult s.control (headerRead h s).control := by
  unfold headerRead
  split
  · exact raise_raised_of .startResult rfl rfl
  · exact raise_raised_of .startResult rfl rfl

theorem headerRead_control_kept (h : HeaderBytes) (s : State) :
    (headerRead h s).control.run = s.control.run ∧ (headerRead h s).control.stationBase = s.control.stationBase := by
  unfold headerRead
  split
  · rw [failStart_control]
    exact ⟨rfl, rfl⟩
  · rw [enterRunning_control]
    exact ⟨rfl, rfl⟩

section
variable (s : State)

/-- R168, R185: the windows, the slot path, the order unit, the record writer and the pool of a run that begins. -/
theorem enterRunning_blocks (h : List Byte) :
    (enterRunning (installHeader h s)).port.windows = headerWindows h ∧
      (enterRunning (installHeader h s)).slotPath = { s.slotPath with frameCount := 0, runClock := 0, msDue := false } ∧
      (enterRunning (installHeader h s)).orders = { s.orders with
        state := .idle, cursor := 0, passStart := 0, examined := 0, current := none, sweepTimer := 0, sweepDue := false,
        area := headerOrderArea h, slots := half h 0x0C, sweepInterval := byteAt h 0x14 } ∧
      (enterRunning (installHeader h s)).writer = { s.writer with
        fifo := [], cursor := 0, sequence := 0, state := .idle, examined := 0, chosen := 0, retry := false,
        area := headerRecordArea h, slots := recordSlotCount h } ∧
      (enterRunning (installHeader h s)).pool =
        { s.pool with gens := Table.replicate _ .reset, waitList := [], reserve := byteAt h 0x15 } ∧
      (enterRunning (installHeader h s)).plan.active = s.plan.active := by
  simp [enterRunning, installHeader]

/-- R59, R148, R185: a line at entry to RUNNING. -/
theorem enterRunning_line (n : LineNo) :
    (enterRunning s).line n = (s.line n).startRun (s.setting n).enabled := Table.get_ofFn _ _

/-- R41, R185: a classifier at entry to RUNNING. -/
theorem enterRunning_classifier (n : LineNo) : (enterRunning s).classifier n = startClassifier s n :=
  Table.get_ofFn _ _

theorem enterRunning_bank (b : BankNo) : (enterRunning s).bank b = { s.bank b with refCount := 0 } :=
  Table.get_ofFn _ _

theorem enterRunning_gen (g : GenNo) : (enterRunning s).gen g = Generator.reset := Table.get_replicate _ _

/-- R41, R179: every classifier waits for a fresh start with the state it accepted; one of a line that becomes IDLE while
the line highway is lost shows STEADY_OPEN. -/
theorem startClassifier_waits (n : LineNo) :
    (startClassifier s n).waiting = true ∧ (startClassifier s n).accepted = (s.classifier n).accepted ∧
      ((s.setting n).enabled = true → s.slotPath.lineHw.present = false →
        (startClassifier s n).pulse = .steadyOpen) := by
  unfold startClassifier
  split
  · unfold Classifier.enterIdle
    split
    · next present => exact ⟨rfl, rfl, fun _ lost => absurd present (by simp [lost])⟩
    · exact ⟨rfl, rfl, fun _ _ => rfl⟩
  · next disabled => exact ⟨rfl, rfl, fun enabled => absurd enabled disabled⟩

end

/-- Settles O59: the TOUCHED write, and the header read by the first check that fails. -/
theorem touchedAndHeader : Obligations.TouchedAndHeader := by
  refine ⟨fun s a t w inFlight purpose counts window behind free =>
      ⟨_, exec_touchedWriteDone inFlight purpose counts window, ?_⟩,
    fun h s onBus => ⟨_, exec_headerReadDone onBus h, ?_⟩⟩
  · obtain ⟨touched, others⟩ := touchWindow_windows w (freeBus s).port
    rw [touchedWritten_of_behind (s := freeBus s) behind free]
    exact ⟨rfl, rfl, rfl, rfl, rfl, rfl, touched, others⟩
  · obtain ⟨run, base⟩ := headerRead_control_kept h (freeBus s)
    refine ⟨by simp, by simp, headerRead_raised h (freeBus s), run, base, fun code fails => ?_, fun passes => ?_⟩
    · rw [headerRead_of_failure fails, failStart_control]
      exact ⟨rfl, rfl, by simp, by simp, fun w => congrArg Window.pages (Table.get_replicate _ _)⟩
    · obtain ⟨windows, slotPath, orders, writer, pool, active⟩ := enterRunning_blocks (freeBus s) h.toList
      rw [headerRead_of_passed passes, enterRunning_control, windows, slotPath, orders, writer, pool, active]
      refine ⟨rfl, rfl, rfl, rfl, rfl, rfl, BitVec.toNat_ofNat _ _, rfl, rfl, rfl, rfl, rfl, rfl, rfl, rfl, rfl, rfl, rfl,
        enterRunning_gen _, fun b => ?_, rfl, fun n => ?_⟩
      · have bank : (installHeader h.toList (freeBus s)).bank b = s.bank b := by simp
        rw [enterRunning_bank, bank]
      · have line : (installHeader h.toList (freeBus s)).line n = s.line n := by simp
        have setting : (installHeader h.toList (freeBus s)).setting n = s.setting n := by simp
        have classifier : (installHeader h.toList (freeBus s)).classifier n = s.classifier n := by simp
        obtain ⟨waits, accepted, lost⟩ := startClassifier_waits (installHeader h.toList (freeBus s)) n
        rw [setting] at lost
        rw [enterRunning_line, enterRunning_classifier, line, setting, accepted, classifier]
        exact ⟨rfl, rfl, rfl, rfl, rfl, waits, rfl, rfl, lost⟩

end Sys2Proof.Machine
end

section
/-! The port's invariant (R171; O9): a state that meets it and steps out of it. -/

namespace Sys2Proof.Machine

/-- A part in STARTING whose start sequencer waits to make an access that is no header read. No start asks for one
(R166), but the invariant speaks in STARTING of the access on the bus alone, not of the one that waits. -/
def strayStart : State :=
  { State.reset with
    control := { Control.powerOn with part := .starting, run := true }
    port := { Port.reset with waitStart := some (readAccess State.reset .orderMarkRead 0 4) }
    pending := [.abortOrder] }

theorem strayStart_control_legal : strayStart.control.Legal :=
  ⟨⟨nofun, nofun⟩, nofun, fun _ => rfl, rfl, rfl, Nat.zero_le 255⟩

theorem strayStart_portLegal : strayStart.PortLegal :=
  ⟨nofun, fun _ => ⟨⟨rfl, rfl, rfl, rfl⟩, nofun⟩, nofun, nofun⟩

/-- R171: an ABORT with no order current changes nothing, and the free port then makes the access. -/
theorem strayStart_served : ∃ t, step strayStart = .next t ∧ t.control.part = .starting ∧
    t.port.inFlight = some (readAccess State.reset .orderMarkRead 0 4) := by
  obtain ⟨-, control, port⟩ := epilogue_of_inactive_kept (s := { strayStart with pending := [] }) rfl rfl
  exact ⟨_, rfl, congrArg Control.part control, congrArg Port.inFlight port⟩

/-- Refutes O9: the invariant as stated does not bear itself over a step. In STARTING it lets an access other than the
header read wait, and forbids that access once the port has made it. -/
theorem not_stepKeepsPortLegal : ¬ Obligations.StepKeepsPortLegal := by
  intro keeps
  obtain ⟨t, stepped, starting, served⟩ := strayStart_served
  obtain ⟨-, headerOnly, -⟩ := keeps strayStart t strayStart_control_legal strayStart_portLegal stepped
  obtain ⟨-, onlyHeader⟩ := headerOnly starting
  obtain ⟨purpose, -⟩ := onlyHeader _ served rfl
  cases purpose

end Sys2Proof.Machine
end

section
/-! The state after reset (R182; O4), and the single registers: ATTN_ENABLE (R181; O25), STATION BASE (R182; O26) and
ATTENTION (R187, R188; O27). -/

namespace Sys2Proof.Machine

/-! ### Reset -/

/-- R59, R115, R156: the part has no call after reset. -/
theorem reset_noCalls : State.reset.NoCalls :=
  ⟨fun n => congrArg LineCtx.draft (Table.get_replicate LineCtx.reset n), rfl, fun g => Table.get_replicate _ g, rfl⟩

/-- R171: the part is HALTED after reset, and its port has nothing to do. -/
theorem reset_portLegal : State.reset.PortLegal :=
  ⟨fun _ => ⟨⟨rfl, rfl, rfl, rfl⟩, rfl, nofun⟩, nofun, nofun, nofun⟩

/-- Settles O4: `State.reset` is the state of power-on, without a call. -/
theorem resetIsSafe : Obligations.ResetIsSafe :=
  ⟨powerOn_controlLegal .reset, SlotPath.Legal.reset, .of_reset rfl rfl, fifoLegal_invariant.noCalls reset_noCalls,
    reset_portLegal, poolLegal_invariant.noCalls reset_noCalls⟩

/-! ### ATTN_ENABLE -/

/-- R181: ATTN_ENABLE takes the value written. -/
theorem writeAttnEnable_of_released {s : State} (released : s.control.holdReset = false) (v : Bool) :
    writeAttnEnable v s = s.modControl fun c => { c with attnEnable := v } := by
  rw [writeAttnEnable, if_neg (Bool.eq_false_iff.1 released)]

theorem exec_attnEnable (v : Bool) (s : State) : exec (.attnEnable v) s = .next (writeAttnEnable v s) := rfl

/-- Settles O25. -/
theorem attnEnableGatesTheLine : Obligations.AttnEnableGatesTheLine := by
  intro v s released
  refine ⟨_, exec_attnEnable v s, ?_⟩
  rw [writeAttnEnable_of_released released]
  exact ⟨rfl, rfl⟩

/-! ### STATION BASE -/

/-- A run of `k` ones above `j` zeros keeps `k` bits of a number in their places. -/
theorem land_ones_shiftLeft (n k j : Nat) : n &&& (2 ^ k - 1) <<< j = n / 2 ^ j % 2 ^ k * 2 ^ j := by
  rw [← Nat.shiftRight_eq_div_pow, ← Nat.shiftLeft_eq]
  refine Nat.eq_of_testBit_eq fun i => ?_
  rw [Nat.testBit_and, Nat.testBit_shiftLeft, Nat.testBit_shiftLeft, Nat.testBit_two_pow_sub_one,
    Nat.testBit_mod_two_pow, Nat.testBit_shiftRight]
  by_cases above : j ≤ i
  · rw [Nat.add_sub_cancel' above, Bool.and_left_comm, Bool.and_comm (n.testBit i)]
  · simp [above]

/-- R182: the low 12 bits of STATION BASE are discarded. -/
theorem stationBase_toNat (v : Word) : (v &&& 0xFFFFF000).toNat = v.toNat / 4096 * 4096 := by
  have bounded : v.toNat < 2 ^ 32 := v.isLt
  have kept : v.toNat &&& (2 ^ 20 - 1) <<< 12 = v.toNat / 2 ^ 12 % 2 ^ 20 * 2 ^ 12 := land_ones_shiftLeft _ _ _
  rw [BitVec.toNat_and]
  exact kept.trans (by omega)

section
variable (v : Word) {s : State}

theorem exec_stationBaseWrite (s : State) : exec (.stationBaseWrite v) s = .next (writeStationBase v s) := rfl

theorem writeStationBase_taken (h : s.control.part = .resetHeld ∨ s.control.part = .halted) :
    writeStationBase v s = s.modControl fun c => { c with stationBase := v &&& 0xFFFFF000 } := if_pos h

theorem writeStationBase_discarded (held : s.control.part ≠ .resetHeld) (halted : s.control.part ≠ .halted) :
    writeStationBase v s = s := if_neg (not_or.2 ⟨held, halted⟩)

/-- R182: of the registers STATION BASE alone is written. -/
theorem writeStationBase_control (s : State) : (writeStationBase v s).control =
    { s.control with stationBase := (writeStationBase v s).control.stationBase } := by
  unfold writeStationBase
  split <;> rfl

end

/-- Settles O26, by whether the part state takes the write. -/
theorem stationBaseWrite : Obligations.StationBaseWrite := by
  intro v s
  refine ⟨_, exec_stationBaseWrite v s, ?_, fun taken => ?_, writeStationBase_discarded v⟩
  · unfold writeStationBase
    split <;> rfl
  · rw [writeStationBase_taken v taken]
    exact stationBase_toNat v

/-! ### ATTENTION -/

/-- R187: nothing but ATTENTION changes when a cause is raised. -/
theorem raise_kept (k : Cause) (s : State) :
    { raise k s with control := { (raise k s).control with attention := s.control.attention } } = s := by
  rw [raise_control]
  rfl

section
variable {c : Control}

theorem firstPending_eq_none (h : ∀ i, c.attention.get i = false) : firstPending c = none := by
  rw [firstPending, List.find?_eq_none]
  exact fun i _ => by simp [h i]

/-- R187: the pending flag before which none is. -/
theorem firstPending_eq_some {i : Fin 9} (pending : c.attention.get i = true)
    (first : ∀ j, j < i → c.attention.get j = false) : firstPending c = some i := by
  rw [firstPending, List.find?_eq_some_iff_getElem]
  refine ⟨pending, i.val, by simp, by simp, fun j before => ?_⟩
  rw [List.getElem_finRange, first _ before]
  rfl

end

section
variable {s : State}

theorem exec_attentionRead (s : State) : exec .attentionRead s = .next (readAttention s) := rfl

theorem readAttention_of_none (h : firstPending s.control = none) :
    readAttention s = s.modControl fun c => { c with readData := 0 } := by
  simp only [readAttention, State.modControl, h]

theorem readAttention_of_pending {i : Fin 9} (h : firstPending s.control = some i) :
    readAttention s = s.modControl fun c =>
      { c with readData := BitVec.ofNat 32 (i.val + 1), attention := c.attention.set i false } := by
  simp only [readAttention, State.modControl, h]

/-- R187: nothing but ATTENTION and the answer changes at a read. -/
theorem readAttention_kept (s : State) : { readAttention s with
    control := { (readAttention s).control with
      attention := s.control.attention, readData := s.control.readData } } = s := by
  cases h : firstPending s.control with
  | none => rw [readAttention_of_none h]; rfl
  | some i => rw [readAttention_of_pending h]; rfl

end

/-- Settles O27: a cause raised, and a read of ATTENTION with no flag pending and with a first one. -/
theorem attentionFlags : Obligations.AttentionFlags := by
  refine ⟨fun k s => ⟨raise_raised k s, raise_kept k s⟩, fun s => ⟨_, exec_attentionRead s, readAttention_kept s,
    fun none => ?_, fun i pending first => ?_⟩⟩
  · rw [readAttention_of_none (firstPending_eq_none none)]
    exact ⟨rfl, rfl⟩
  · rw [readAttention_of_pending (firstPending_eq_some pending first)]
    have fits : i.val + 1 < 2 ^ 32 := by omega
    exact ⟨BitVec.toNat_ofNat _ _ ▸ Nat.mod_eq_of_lt fits, Table.get_set_self _ _ _,
      fun j other => Table.get_set_ne _ _ other.symm⟩

end Sys2Proof.Machine
end

section
/-! RUN written 1 (R166, R181, R183; O22): the start from HALTED, and a stop that goes on with RUN 1. -/

namespace Sys2Proof.Machine

/-! ### A stop goes on (R183, R186) -/

section
variable {s : State}

/-- R183: the part leaves STOPPING for STARTING with RUN 1, for HALTED with RUN 0. -/
theorem leaveStopping_control (s : State) : (leaveStopping s).control =
    if s.control.run then { s.control with part := .starting, result := .none } else { s.control with part := .halted } :=
  apply_ite State.control _ _ _

/-- R186: a stop that goes on tears the lines down or has done so, and the part stays in STOPPING or leaves it. -/
theorem stopAdvance_stays_or_leaves (stopping : s.stopping = true) : ∃ t : State,
    t.control = { s.control with stopTornDown := t.control.stopTornDown } ∧
      (stopAdvance s = t ∨ stopAdvance s = leaveStopping t) := by
  refine ⟨if !s.control.stopTornDown && s.orders.current.isNone then stopTorn s else s, ?_, ?_⟩
  · split
    · rw [stopTorn_control]
    · rfl
  · rw [stopAdvance, if_pos stopping]
    exact (ite_eq_or_eq _ _ _).symm

theorem epilogue_control (s : State) : (epilogue s).control = (stopAdvance s).control := by
  simp [epilogue, advance]

/-- R183: with RUN 1 a stop leads to STARTING. -/
theorem epilogue_of_stopping_with_run (stopping : s.stopping = true) (run : s.control.run = true) :
    (epilogue s).control.run = true ∧
      ((epilogue s).control.part = .stopping ∨ (epilogue s).control.part = .starting) := by
  obtain ⟨t, control, stays | leaves⟩ := stopAdvance_stays_or_leaves stopping
  · rw [epilogue_control, stays, control]
    exact ⟨run, .inl (by simpa using stopping)⟩
  · have runs : t.control.run = true := by rw [control]; exact run
    rw [epilogue_control, leaves, leaveStopping_control, if_pos runs]
    exact ⟨runs, .inr rfl⟩

end

/-! ### RUN written 1 (R181, R183) -/

section
variable {s u : State}

theorem runWritten1_of_no_effect (h : s.control.holdReset = true ∨ s.control.run = true) : runWritten1 s = s :=
  if_pos (by simpa using h)

theorem runWritten1_of_run_0 (released : s.control.holdReset = false) (unrun : s.control.run = false) :
    runWritten1 s = if s.control.part = .halted then enterStarting (s.modControl fun c => { c with run := true })
      else s.modControl fun c => { c with run := true } := by
  rw [runWritten1, released, unrun]
  rfl

theorem exec_runWritten1 (h : runWritten1 s = u) : exec .runWritten1 s = .next (epilogue u) :=
  congrArg (fun u => Host.Outcome.next (epilogue u)) h

end

/-- Settles O22, by the part state that RUN written 1 finds. -/
theorem Proofs.runWritten1 : Obligations.RunWritten1 := by
  refine ⟨fun s part released unrun => ?_, fun s part run => ?_, fun s part released unrun => ?_,
    fun s h => exec_runWritten1 (runWritten1_of_no_effect h)⟩
  · have starts := (runWritten1_of_run_0 released unrun).trans (if_pos part)
    obtain ⟨kept, control, port⟩ := epilogue_of_inactive_kept
      (s := enterStarting (s.modControl fun c => { c with run := true })) rfl rfl
    refine ⟨_, exec_runWritten1 starts, kept, control, fun free => ?_⟩
    rw [port]
    exact enterStarting_served free _
  · have stopping : s.stopping = false := by simpa using part
    refine ⟨_, exec_runWritten1 (runWritten1_of_no_effect (.inr run)), ?_⟩
    rw [epilogue_control, stopAdvance_of_not_stopping stopping]
  · have unhalted : s.control.part ≠ .halted := by rw [part]; nofun
    have stopping : (s.modControl fun c => { c with run := true }).stopping = true := by simpa using part
    exact ⟨_, exec_runWritten1 ((runWritten1_of_run_0 released unrun).trans (if_neg unhalted)),
      epilogue_of_stopping_with_run stopping rfl⟩

end Sys2Proof.Machine
end

section
/-! The register bus (R181, R182, R187, R190; O28): the offsets, and a write of each register. -/

namespace Sys2Proof.Machine

/-! ### The offsets (R190) -/

theorem registerAt_eq_none {offset : Nat} (h : ∀ r, registerOffset r ≠ offset) : registerAt offset = none :=
  List.find?_eq_none.2 fun r _ => by simpa using h r

theorem registerOffset_mem (r : Register) : registerOffset r ∈ [0x00, 0x04, 0x08, 0x0C, 0x10] := by
  cases r <;> simp [registerOffset]

/-! ### A write of ATTENTION MASK (R187) -/

/-- R187, R190: ATTENTION MASK keeps bits 1 to 9. -/
theorem attentionMask_toNat (v : Word) : (v &&& 0x3FE).toNat = v.toNat % 1024 / 2 * 2 := by
  have kept : v.toNat &&& (2 ^ 9 - 1) <<< 1 = v.toNat / 2 ^ 1 % 2 ^ 9 * 2 ^ 1 := land_ones_shiftLeft _ _ _
  rw [BitVec.toNat_and]
  exact kept.trans (by omega)

/-! ### A write of CONTROL (R181) -/

theorem exec_registerWrite (r : Register) (v : Word) (s : State) :
    exec (.registerWrite r v) s = .next (epilogue (writeRegister r v s)) := rfl

theorem exec_controlWrite {v : Word} {s u : State} (h : writeControl v s = u) :
    exec (.registerWrite .control v) s = .next (epilogue u) :=
  congrArg (fun u => Host.Outcome.next (epilogue u)) h

section
variable {v : Word} {s : State}

/-- R181: HOLD_RESET written 1 in RESET_HELD (log 31). -/
theorem writeControl_of_still_held (held : s.control.holdReset = true) (hold : v.getLsbD 1 = true) :
    writeControl v s = s := by rw [writeControl, if_pos held, if_pos hold]

/-- R181, R183: HOLD_RESET written 0 in RESET_HELD. -/
theorem writeControl_releases (held : s.control.holdReset = true) (release : v.getLsbD 1 = false) :
    writeControl v s = holdResetRelease (v.getLsbD 0) (v.getLsbD 3) s := by
  rw [writeControl, if_pos held, if_neg (Bool.eq_false_iff.1 release)]

/-- R181, R184: HOLD_RESET written 1. -/
theorem writeControl_holds (released : s.control.holdReset = false) (hold : v.getLsbD 1 = true) :
    writeControl v s = holdReset s := by
  rw [writeControl, if_neg (Bool.eq_false_iff.1 released), if_pos hold]

variable (released : s.control.holdReset = false) (unheld : v.getLsbD 1 = false)
include released unheld

/-- R181: with HOLD_RESET 0 and written 0, ATTN_ENABLE is taken first, then RUN and ABORT_ORDER. -/
theorem writeControl_of_released : writeControl v s =
    if v.getLsbD 0 = s.control.run then
      if v.getLsbD 2 then abortOrder (writeAttnEnable (v.getLsbD 3) s) else writeAttnEnable (v.getLsbD 3) s
    else if v.getLsbD 2 then abortAndRun (v.getLsbD 0) (writeAttnEnable (v.getLsbD 3) s)
    else writeRun (v.getLsbD 0) (writeAttnEnable (v.getLsbD 3) s) := by
  rw [writeControl, if_neg (Bool.eq_false_iff.1 released), if_neg (Bool.eq_false_iff.1 unheld)]

theorem writeControl_enables (unaborted : v.getLsbD 2 = false) (same : v.getLsbD 0 = s.control.run) :
    writeControl v s = writeAttnEnable (v.getLsbD 3) s := by
  rw [writeControl_of_released released unheld, if_pos same, if_neg (Bool.eq_false_iff.1 unaborted)]

theorem writeControl_aborts (abort : v.getLsbD 2 = true) (same : v.getLsbD 0 = s.control.run) :
    writeControl v s = abortOrder (writeAttnEnable (v.getLsbD 3) s) := by
  rw [writeControl_of_released released unheld, if_pos same, if_pos abort]

theorem writeControl_writes_run (unaborted : v.getLsbD 2 = false) {run : Bool} (written : v.getLsbD 0 = run)
    (changes : s.control.run = !run) :
    writeControl v s = writeRun run (writeAttnEnable (v.getLsbD 3) s) := by
  have other : v.getLsbD 0 ≠ s.control.run := by rw [written, changes]; exact (Bool.not_ne_self run).symm
  rw [writeControl_of_released released unheld, if_neg other, if_neg (Bool.eq_false_iff.1 unaborted), written]

theorem writeControl_aborts_and_writes_run (abort : v.getLsbD 2 = true) (other : v.getLsbD 0 ≠ s.control.run) :
    writeControl v s = abortAndRun (v.getLsbD 0) (writeAttnEnable (v.getLsbD 3) s) := by
  rw [writeControl_of_released released unheld, if_neg other, if_pos abort]

end

/-- R181: an ABORT and a RUN change of one write are taken in either order (log 20). -/
theorem abortAndRun_either_order (run : Bool) (s : State) :
    abortAndRun run s = abortOrder (writeRun run s.draw) ∨ abortAndRun run s = writeRun run (abortOrder s.draw) := by
  unfold abortAndRun
  split
  · exact .inr rfl
  · exact .inl rfl

/-- Settles O28, by the register written and, of CONTROL, by what the write's bits change. -/
theorem registerWrite : Obligations.RegisterWrite := by
  refine ⟨⟨rfl, rfl, rfl, rfl, rfl, fun offset other => registerAt_eq_none fun r at_r =>
      other (at_r ▸ registerOffset_mem r)⟩,
    fun v s => ⟨⟨_, exec_registerWrite .attentionMask v s, attentionMask_toNat v, rfl⟩,
      exec_registerWrite .state v s, exec_registerWrite .attention v s,
      ⟨_, exec_stationBaseWrite v s, exec_registerWrite .stationBase v s⟩,
      fun held hold => exec_controlWrite (writeControl_of_still_held held hold),
      fun held release => exec_controlWrite (writeControl_releases held release),
      fun released hold => exec_controlWrite (writeControl_holds released hold),
      fun released unheld unaborted same =>
        ⟨_, exec_attnEnable _ s, exec_controlWrite (writeControl_enables released unheld unaborted same)⟩,
      fun released unheld abort same =>
        ⟨_, exec_attnEnable _ s, exec_controlWrite (writeControl_aborts released unheld abort same)⟩,
      fun released unheld unaborted run changes =>
        ⟨_, exec_attnEnable _ s, exec_controlWrite (writeControl_writes_run released unheld unaborted run changes)⟩,
      fun released unheld unaborted run changes =>
        ⟨_, exec_attnEnable _ s, exec_controlWrite (writeControl_writes_run released unheld unaborted run changes)⟩,
      fun released unheld abort other => ⟨_, exec_attnEnable _ s, ?_⟩⟩⟩
  have write := writeControl_aborts_and_writes_run released unheld abort other
  exact (abortAndRun_either_order (v.getLsbD 0) (writeAttnEnable (v.getLsbD 3) s)).imp
    (fun abortLast => exec_controlWrite (write.trans abortLast))
    fun runLast => exec_controlWrite (write.trans runLast)

end Sys2Proof.Machine
end

section
/-! What the registers keep over the part's events, a stop, a start and a write (R181 to R187): STATION BASE, ATTENTION
MASK, and the part state RESET_HELD. -/

namespace Sys2Proof.Machine

/-! ### What the registers keep -/

/-- R182, R187: STATION BASE and ATTENTION MASK are as they were. -/
structure BaseAndMaskKept (s t : State) : Prop where
  base : t.control.stationBase = s.control.stationBase
  mask : t.control.attentionMask = s.control.attentionMask

/-- R181, R182, R187: STATION BASE and ATTENTION MASK are as they were, and a part in RESET_HELD stays there. -/
structure RegistersKept (s t : State) : Prop extends BaseAndMaskKept s t where
  held : s.control.part = .resetHeld → t.control.part = .resetHeld

theorem BaseAndMaskKept.trans {s t u : State} (h : BaseAndMaskKept s t) (k : BaseAndMaskKept t u) :
    BaseAndMaskKept s u := ⟨k.base.trans h.base, k.mask.trans h.mask⟩

namespace RegistersKept

variable {s t u : State}

theorem of_part (part : t.control.part = s.control.part) (kept : BaseAndMaskKept s t) : RegistersKept s t :=
  ⟨kept, fun held => part.trans held⟩

theorem of_control (h : t.control = s.control) : RegistersKept s t := by
  refine .of_part ?_ ⟨?_, ?_⟩ <;> rw [h]

/-- The part goes from a state other than RESET_HELD to any. -/
theorem of_released (apart : s.control.part ≠ .resetHeld) (kept : BaseAndMaskKept s t) : RegistersKept s t :=
  ⟨kept, fun held => absurd held apart⟩

theorem refl (s : State) : RegistersKept s s := of_control rfl

theorem trans (h : RegistersKept s t) (k : RegistersKept t u) : RegistersKept s u :=
  ⟨h.toBaseAndMaskKept.trans k.toBaseAndMaskKept, fun held => k.held (h.held held)⟩

theorem raises (h : OnlyRaises s t) : RegistersKept s t := by
  rw [OnlyRaises] at h
  refine .of_part ?_ ⟨?_, ?_⟩ <;> rw [h]

/-! ### The end of every step, and a frame moment -/

/-- R183, R186: a stop that goes on leaves STOPPING at most. -/
theorem stopAdvance (s : State) : RegistersKept s (stopAdvance s) := by
  by_cases stopping : s.stopping = true
  · have apart : s.control.part ≠ .resetHeld := by
      have part : s.control.part = .stopping := by simpa using stopping
      rw [part]
      nofun
    obtain ⟨t, control, stays | leaves⟩ := stopAdvance_stays_or_leaves stopping
    · refine .of_released apart ⟨?_, ?_⟩ <;> rw [stays, control]
    · refine .of_released apart ⟨?_, ?_⟩ <;> rw [leaves, leaveStopping_control, control] <;> split <;> rfl
  · rw [stopAdvance_of_not_stopping (by simpa using stopping)]
    exact .refl s

theorem advance (s : State) : RegistersKept s (advance s) :=
  (stopAdvance s).trans (.of_control (by simp [Machine.advance]))

theorem epilogue (s : State) : RegistersKept s (epilogue s) := (stopAdvance s).trans (.of_control (epilogue_control s))

theorem takeOne (s : State) : RegistersKept s (takeOne s) := by
  unfold Machine.takeOne
  split
  · refine RegistersKept.trans ?_ (.trans (.raises (.takeDue _ _)) (advance _))
    split
    · exact .refl s
    · exact .of_control rfl
  · exact .refl s

theorem settle (k : Nat) (s : State) : RegistersKept s (settle k s) := by
  induction k generalizing s with
  | zero => exact .refl s
  | succ k ih =>
    rw [Machine.settle]
    split
    · exact .refl s
    · exact (takeOne s).trans (ih _)

theorem enterMoment (s : State) : RegistersKept s (enterMoment s) := by
  have begun : RegistersKept s (beginMoment s) := .of_control (by simp)
  refine (begun.trans (settle 1024 _)).trans (.of_control ?_)
  simp [Machine.enterMoment, settleFrame]

/-! ### Commands that wait for an event, an access or a body -/

section
variable {k : State → State} (hk : ∀ s, RegistersKept s (k s))
include hk

/-- An effect, and what follows every step. -/
theorem ends (s : State) : RegistersKept s (Machine.epilogue (k s)) := (hk s).trans (epilogue _)

/-- A frame moment, an effect, and what follows every step. -/
theorem moment (s : State) : RegistersKept s (Machine.epilogue (k (Machine.enterMoment s))) :=
  (enterMoment s).trans (ends hk _)

theorem whenDone (p : Purpose) (s : State) : RegistersKept s (whenDone p k s) := by
  have freed : RegistersKept s (freeBus s) := .of_control rfl
  unfold Machine.whenDone
  split
  · exact .refl s
  · split
    · split
      · exact freed.trans (epilogue _)
      · exact freed.trans (ends hk _)
    · exact .refl s

theorem unlessAborted (s : State) : RegistersKept s (unlessAborted k s) := by
  unfold Machine.unlessAborted
  split
  · exact .of_control (by simp)
  · exact hk s

theorem whenBody (c : Instr) (b : OrderBody) (s : State) : RegistersKept s (whenBody c b k s) := by
  have held : ∀ s, RegistersKept s (k (holdBody b s)) := fun s => .trans (.of_control (by simp)) (hk _)
  unfold Machine.whenBody
  split
  · exact whenDone (unlessAborted held) .bodyRead s
  · exact .refl s

end

theorem whenDue (e : Due) (s : State) : RegistersKept s (whenDue e (takeDue e) s) := by
  unfold Machine.whenDue
  split
  · exact ends (fun s => .raises (.takeDue e s)) s
  · exact .refl s

/-! ### RUN and HOLD_RESET -/

/-- R183: RUN written 1 starts a part that is HALTED. -/
theorem runWritten1 (s : State) : RegistersKept s (runWritten1 s) := by
  unfold Machine.runWritten1
  split
  · exact .refl s
  · dsimp only
    split
    · next halted => exact .of_released (by rw [halted]; nofun) ⟨rfl, rfl⟩
    · exact .of_part rfl ⟨rfl, rfl⟩

/-- R183: RUN written 0 leaves RESET_HELD alone. -/
theorem runCleared (s : State) : RegistersKept s (runCleared s) := by
  unfold Machine.runCleared
  split
  · next starting => exact .of_released (by rw [starting]; nofun) ⟨rfl, rfl⟩
  · next failed => exact .of_released (by rw [failed]; nofun) ⟨rfl, rfl⟩
  · next running =>
    refine .of_released (by rw [running]; nofun) ⟨?_, ?_⟩ <;> rw [enterStopping_control]
  all_goals exact .refl s

theorem runWritten0 (s : State) : RegistersKept s (runWritten0 s) := by
  have cleared : RegistersKept s (s.modControl fun c => { c with run := false }) := .of_part rfl ⟨rfl, rfl⟩
  unfold Machine.runWritten0
  split
  · exact .refl s
  · exact cleared.trans (runCleared _)

theorem writeRun (run : Bool) (s : State) : RegistersKept s (writeRun run s) := by
  unfold Machine.writeRun
  split
  · exact runWritten1 s
  · exact runWritten0 s

theorem writeAttnEnable (v : Bool) (s : State) : RegistersKept s (writeAttnEnable v s) := by
  unfold Machine.writeAttnEnable
  split
  · exact .refl s
  · exact .of_part rfl ⟨rfl, rfl⟩

theorem abortOrder (s : State) : RegistersKept s (abortOrder s) := .of_control (by simp)

theorem abortAndRun (run : Bool) (s : State) : RegistersKept s (abortAndRun run s) := by
  have drawn : RegistersKept s s.draw := .of_control rfl
  rcases abortAndRun_either_order run s with either | either <;> rw [either]
  · exact drawn.trans ((writeRun run _).trans (abortOrder _))
  · exact drawn.trans ((abortOrder _).trans (writeRun run _))

/-- R184: hold reset keeps STATION BASE and ATTENTION MASK, and holds the part. -/
theorem holdReset (s : State) : RegistersKept s (holdReset s) := ⟨⟨rfl, rfl⟩, fun _ => rfl⟩

theorem readAttention (s : State) : RegistersKept s (readAttention s) := by
  cases h : firstPending s.control with
  | none => rw [readAttention_of_none h]; exact .of_part rfl ⟨rfl, rfl⟩
  | some i => rw [readAttention_of_pending h]; exact .of_part rfl ⟨rfl, rfl⟩

/-! ### Records -/

theorem beginPass (retry : Bool) (s : State) : RegistersKept s (beginPass retry s) := .of_control (by simp)

/-- R162, R163: a pass that fails counts the draft it drops, or raises RECORD_PARKED. -/
theorem passFailed (s : State) : RegistersKept s (passFailed s) := by
  unfold Machine.passFailed
  split
  · have dropped : RegistersKept s (dropHead s) := .of_part rfl ⟨rfl, rfl⟩
    exact dropped.trans (beginPass false _)
  · dsimp only
    split
    · exact .of_control rfl
    · exact .raises ((OnlyRaises.raise .recordParked _).after rfl)

theorem recordMarkRead (mark : Word) (s : State) : RegistersKept s (recordMarkRead mark s) := by
  unfold Machine.recordMarkRead
  dsimp only
  split
  · exact .of_control (by simp)
  · split
    · exact .of_control rfl
    · have examined : RegistersKept s (s.modWriter fun w => { w with examined := w.examined + 1 }) := .of_control rfl
      exact examined.trans (passFailed _)

theorem recordFilled (s : State) : RegistersKept s (recordFilled s) := by
  have raised : RegistersKept s (raise .recordWritten (recordCounted s)) :=
    .raises ((OnlyRaises.raise .recordWritten _).after rfl)
  rw [recordFilled_eq]
  exact raised.trans (beginPass false _)

end RegistersKept

/-! ### The writes of CONTROL, the header read and the host-bus error -/

namespace BaseAndMaskKept

theorem holdResetRelease (run attn : Bool) (s : State) : BaseAndMaskKept s (holdResetRelease run attn s) := by
  have released : BaseAndMaskKept s (released attn s) := ⟨rfl, rfl⟩
  unfold Machine.holdResetRelease
  split
  · exact released.trans (RegistersKept.writeRun run _).toBaseAndMaskKept
  · exact ⟨rfl, rfl⟩

theorem headerRead (b : HeaderBytes) (s : State) : BaseAndMaskKept s (headerRead b s) := by
  unfold Machine.headerRead
  split
  · constructor <;> rw [failStart_control]
  · constructor <;> rw [enterRunning_control] <;> rfl

theorem stopOnError (s : State) : BaseAndMaskKept s (stopOnError s) := by
  rw [stopOnError_eq]
  constructor <;> simp [dropDrafts, errorTaken_control]

end BaseAndMaskKept

namespace RegistersKept

/-- R181: in RESET_HELD a write of CONTROL that releases the part alone may end it. -/
theorem writeControl {v : Word} {s : State} (h : s.control.holdReset = false ∨ v.getLsbD 1 = true) :
    RegistersKept s (writeControl v s) := by
  have enabled : RegistersKept s (Machine.writeAttnEnable (v.getLsbD 3) s) := writeAttnEnable _ s
  unfold Machine.writeControl
  split
  · next held =>
    rw [if_pos (h.resolve_left (by simp [held]))]
    exact .refl s
  · split
    · exact holdReset s
    · dsimp only
      split
      · split
        · exact enabled.trans (abortOrder _)
        · exact enabled
      · split
        · exact enabled.trans (abortAndRun _ _)
        · exact enabled.trans (writeRun _ _)

theorem startOnError {s : State} (starting : s.control.part = .starting) : RegistersKept s (startOnError s) := by
  refine .of_released (by rw [starting]; nofun) ⟨?_, ?_⟩ <;> rw [startOnError_control]

/-- R171: an error in RESET_HELD stops nothing. -/
theorem busError (s : State) : RegistersKept s (busError s) := by
  unfold Machine.busError
  split
  · next starting => exact startOnError starting
  · next running =>
    have cleared : BaseAndMaskKept s (s.modControl fun c => { c with run := false, recordsDropped := 0 }) := ⟨rfl, rfl⟩
    exact .of_released (by rw [running]; nofun) (cleared.trans (.stopOnError _))
  · next stopping => exact .of_released (by rw [stopping]; nofun) (.stopOnError s)
  all_goals exact .refl s

theorem hostBusError (s : State) : RegistersKept s (hostBusError s) := by
  have freed : RegistersKept s (freeBus s) := .of_control rfl
  unfold Machine.hostBusError
  split
  · exact .refl s
  · split
    · next why _ =>
      cases why with
      | byRunCleared => exact freed.trans (.raises (.raise .memoryError _))
      | byReset => exact freed
    · exact freed.trans (busError _)

end RegistersKept

end Sys2Proof.Machine
end

section
/-! STATION BASE and ATTENTION MASK change, and RESET_HELD ends, only by the commands that may do so (R181 to R183, R187;
O10, O11). -/

namespace Sys2Proof.Machine

/-- R166, R184: what an access would bring about does not matter where it is not on the bus, or is abandoned. -/
theorem whenDone_of_not_onBus {s : State} {p : Purpose} (h : ¬ s.onBus p = true) (j k : State → State) :
    whenDone p j s = whenDone p k s := by
  unfold whenDone
  cases inFlight : s.port.inFlight with
  | none => rfl
  | some a =>
    by_cases purpose : a.purpose = p
    · have abandoned : a.abandoned.isSome = true :=
        Option.isSome_iff_ne_none.2 fun counts => h (onBus_iff.2 ⟨a, inFlight, purpose, counts⟩)
      simp only [purpose, abandoned, if_true]
    · simp only [purpose, if_false]

/-- R182, R183, R187: what a command that takes `s` to `t` changes of STATION BASE, of ATTENTION MASK and of RESET_HELD is
what the rules let it. -/
structure ChangesAsStated (c : Instr) (s t : State) : Prop where
  base : c ≠ .powerOn → s.control.part ≠ .resetHeld → s.control.part ≠ .halted →
    t.control.stationBase = s.control.stationBase
  mask : c ≠ .powerOn → (∀ v, c ≠ .registerWrite .attentionMask v) → t.control.attentionMask = s.control.attentionMask
  held : s.PortLegal → s.control.part = .resetHeld → s.control.holdReset = true → t.control.part ≠ .resetHeld →
    c = .powerOn ∨ (∃ run attn, c = .holdResetRelease run attn) ∨
      ∃ v : Word, c = .registerWrite .control v ∧ v.getLsbD 1 = false

theorem RegistersKept.asStated {s t : State} (h : RegistersKept s t) (c : Instr) : ChangesAsStated c s t :=
  ⟨fun _ _ _ => h.base, fun _ _ => h.mask, fun _ held _ left => absurd (h.held held) left⟩

namespace ChangesAsStated

variable {c : Instr} {s t u : State}

/-- What follows a command's own effect leaves the registers. -/
theorem followed (h : ChangesAsStated c s t) (k : RegistersKept t u) : ChangesAsStated c s u :=
  ⟨fun on part unhalted => k.base.trans (h.base on part unhalted), fun on other => k.mask.trans (h.mask on other),
    fun port held hold left => h.held port held hold fun still => left (k.held still)⟩

theorem powerOn (s : State) : ChangesAsStated .powerOn s (powerOn s) :=
  ⟨fun on => absurd rfl on, fun on => absurd rfl on, fun _ _ _ _ => .inl rfl⟩

theorem holdResetRelease (run attn : Bool) (s : State) :
    ChangesAsStated (.holdResetRelease run attn) s (holdResetRelease run attn s) := by
  have kept := BaseAndMaskKept.holdResetRelease run attn s
  exact ⟨fun _ _ _ => kept.base, fun _ _ => kept.mask, fun _ _ _ _ => .inr (.inl ⟨run, attn, rfl⟩)⟩

/-- R182: a write of STATION BASE is discarded outside RESET_HELD and HALTED. -/
theorem writeStationBase (c : Instr) (v : Word) (s : State) : ChangesAsStated c s (writeStationBase v s) := by
  have control := writeStationBase_control v s
  refine ⟨fun _ held halted => ?_, fun _ _ => ?_, fun _ held _ left => absurd ?_ left⟩
  · rw [writeStationBase_discarded v held halted]
  · rw [control]
  · rw [control]
    exact held

/-- R181, R183: of the writes of CONTROL only one with HOLD_RESET 0 may end RESET_HELD. -/
theorem writeControl (v : Word) (s : State) : ChangesAsStated (.registerWrite .control v) s (writeControl v s) := by
  by_cases releases : s.control.holdReset = true ∧ v.getLsbD 1 = false
  · obtain ⟨held, release⟩ := releases
    have kept := BaseAndMaskKept.holdResetRelease (v.getLsbD 0) (v.getLsbD 3) s
    rw [writeControl_releases held release]
    exact ⟨fun _ _ _ => kept.base, fun _ _ => kept.mask, fun _ _ _ _ => .inr (.inr ⟨v, rfl, release⟩)⟩
  · refine (RegistersKept.writeControl ?_).asStated _
    simpa [Classical.or_iff_not_imp_left] using releases

theorem writeRegister (r : Register) (v : Word) (s : State) :
    ChangesAsStated (.registerWrite r v) s (writeRegister r v s) := by
  cases r with
  | control => exact writeControl v s
  | stationBase => exact writeStationBase _ v s
  | attentionMask =>
    exact ⟨fun _ _ _ => rfl, fun _ other => absurd rfl (other v), fun _ held _ left => absurd held left⟩
  | state | attention => exact (RegistersKept.refl s).asStated _

/-- R166, R171: a header read whose result counts completes in STARTING, so not in RESET_HELD. -/
theorem headerReadDone (b : HeaderBytes) (s : State) :
    ChangesAsStated (.headerReadDone b) s (whenDone .headerRead (headerRead b) s) := by
  by_cases read : s.onBus .headerRead = true
  · have freed : BaseAndMaskKept s (freeBus s) := ⟨rfl, rfl⟩
    have kept := freed.trans (.headerRead b _)
    have effect : ChangesAsStated (.headerReadDone b) s (headerRead b (freeBus s)) :=
      ⟨fun _ _ _ => kept.base, fun _ _ => kept.mask, fun port held _ _ =>
        PartState.noConfusion (held.symm.trans (port.starting read))⟩
    rw [whenDone_of_onBus read]
    exact effect.followed (.epilogue _)
  · rw [whenDone_of_not_onBus read (headerRead b) id]
    exact (RegistersKept.whenDone .refl .headerRead s).asStated _

end ChangesAsStated

/-- Every command changes STATION BASE, ATTENTION MASK and RESET_HELD as the rules say. -/
theorem exec_changesAsStated (c : Instr) (s : State) : ∃ t, exec c s = .next t ∧ ChangesAsStated c s t := by
  have due : ∀ e, ChangesAsStated c s (whenDue e (takeDue e) s) := fun e => (RegistersKept.whenDue e s).asStated c
  have body : ∀ (i : Instr) (b : OrderBody) {k : State → State}, (∀ s, OnlyRaises s (k s)) →
      ChangesAsStated c s (whenBody i b k s) :=
    fun i b _ hk => (RegistersKept.whenBody (fun s => .raises (hk s)) i b s).asStated c
  have done : ∀ (p : Purpose) {k : State → State}, (∀ s, OnlyRaises s (k s)) → ChangesAsStated c s (whenDone p k s) :=
    fun p _ hk => (RegistersKept.whenDone (fun s => .raises (hk s)) p s).asStated c
  have goesOn : ∀ (p : Purpose) {k : State → State}, (∀ s, OnlyRaises s (k s)) →
      ChangesAsStated c s (whenDone p (unlessAborted k) s) :=
    fun p _ hk => (RegistersKept.whenDone (RegistersKept.unlessAborted fun s => .raises (hk s)) p s).asStated c
  have ends : ∀ {k : State → State}, (∀ s, RegistersKept s (k s)) → ChangesAsStated c s (epilogue (k s)) :=
    fun hk => (RegistersKept.ends hk s).asStated c
  have moment : ∀ {k : State → State}, (∀ s, OnlyRaises s (k s)) → ChangesAsStated c s (epilogue (k (enterMoment s))) :=
    fun hk => (RegistersKept.moment (fun s => .raises (hk s)) s).asStated c
  cases c with
  | powerOn => exact ⟨_, rfl, .powerOn s⟩
  | holdReset => exact ⟨_, rfl, ends .holdReset⟩
  | holdResetRelease run attn => exact ⟨_, rfl, (ChangesAsStated.holdResetRelease run attn s).followed (.epilogue _)⟩
  | runWritten1 => exact ⟨_, rfl, ends .runWritten1⟩
  | runWritten0 => exact ⟨_, rfl, ends .runWritten0⟩
  | abortOrder => exact ⟨_, rfl, ends .abortOrder⟩
  | attnEnable v => exact ⟨_, rfl, (RegistersKept.writeAttnEnable v s).asStated _⟩
  | stationBaseWrite v => exact ⟨_, rfl, .writeStationBase _ v s⟩
  | attentionRead => exact ⟨_, rfl, (RegistersKept.readAttention s).asStated _⟩
  | registerWrite r v => exact ⟨_, rfl, (ChangesAsStated.writeRegister r v s).followed (.epilogue _)⟩
  | lineFrame f => exact ⟨_, rfl, moment (.lineFrameArrives f)⟩
  | referenceFrameTime =>
    refine ⟨_, rfl, ?_⟩
    split
    · exact moment (k := referenceTime) fun s => .of_control (by simp)
    · exact (RegistersKept.refl s).asStated _
  | returnFrame f => exact ⟨_, rfl, ends fun s => .raises (.returnFrameArrives f s)⟩
  | frameWatchExpiry highway =>
    cases highway with
    | line => exact ⟨_, rfl, moment .lineWatchExpires⟩
    | ret => exact ⟨_, rfl, ends fun s => .raises (.returnWatchExpires s)⟩
  | millisecondEvent | loopChangeAccepted | longOpenEntry | seizure | clear | digitComplete | firstDigitTimerExpiry
  | completeTimerExpiry | quietTimerExpiry | proceedTimerExpiry | generatorWaitTimerExpiry | escapeTimerExpiry
  | muteTailExpiry | flashOutExpiry | onExpiry | gapExpiry | holdExpiry | sweepEvent => exact ⟨_, rfl, due _⟩
  | orderMarkReadDone | identifyWriteDone | readLineWriteDone | orderResultWriteDone | touchedWriteDone
  | recordBodyWriteDone => exact ⟨_, rfl, done _ fun _ => .of_control (by simp)⟩
  | takenWriteDone | profileReadDone => exact ⟨_, rfl, goesOn _ fun _ => .of_control (by simp)⟩
  | unknownOrder b | nop b | setLine b | switchPlan b | sendTones b =>
    exact ⟨_, rfl, body _ b fun _ => .of_control (by simp)⟩
  | identify b => exact ⟨_, rfl, body _ b (.orderAccess _ _ _ _ _)⟩
  | readLine b => exact ⟨_, rfl, body _ b (.readLine b)⟩
  | loadProfile b => exact ⟨_, rfl, body _ b (.loadProfile b)⟩
  | loadTones b => exact ⟨_, rfl, body _ b (.loadTones b)⟩
  | loadPlan b => exact ⟨_, rfl, body _ b (.loadPlan b)⟩
  | toneEntryReadDone bytes => exact ⟨_, rfl, goesOn _ (.toneRead bytes)⟩
  | planEntryReadDone bytes => exact ⟨_, rfl, goesOn _ (.planRead bytes)⟩
  | orderDoneWriteDone => exact ⟨_, rfl, done _ .orderDone⟩
  | recordMarkReadDone mark => exact ⟨_, rfl, (RegistersKept.whenDone (.recordMarkRead mark) _ s).asStated _⟩
  | recordMarkWriteDone => exact ⟨_, rfl, (RegistersKept.whenDone .recordFilled _ s).asStated _⟩
  | headerReadDone bytes => exact ⟨_, rfl, .headerReadDone bytes s⟩
  | hostBusError => exact ⟨_, rfl, ends .hostBusError⟩

theorem changesAsStated_of_exec {c : Instr} {s t : State} (h : exec c s = .next t) : ChangesAsStated c s t := by
  obtain ⟨u, completes, stated⟩ := exec_changesAsStated c s
  rw [completes] at h
  cases h
  exact stated

/-- Settles O10, of every command. -/
theorem baseAndMaskChangeOnlyAsStated : Obligations.BaseAndMaskChangeOnlyAsStated :=
  ⟨fun _ _ _ h held halted on => (changesAsStated_of_exec h).base on held halted,
    fun _ _ _ h => (changesAsStated_of_exec h).mask⟩

/-- Settles O11, of every command. -/
theorem onlyReleaseLeavesResetHeld : Obligations.OnlyReleaseLeavesResetHeld :=
  fun _ _ _ port part hold h => (changesAsStated_of_exec h).held port part hold

end Sys2Proof.Machine
end

section
/-! The step runs the command at the front of the queue, every command completes, and none touches the queue (logs 3, 5,
29; O1, O2). -/

namespace Sys2Proof.Machine

/-! ### The step -/

theorem step_of_pending {c : Instr} {s : State} {rest : List Instr} (h : s.pending = c :: rest) :
    step s = exec c { s with pending := rest } := by
  unfold step
  rw [h]

theorem step_of_empty {s : State} (h : s.pending = []) : step s = .next (idle s) := by
  unfold step
  rw [h]

theorem takeOne_of_quiet {s : State} (h : dueEvents s = []) : takeOne s = s := by
  unfold takeOne
  rw [h]
  rfl

/-- With nothing due and no frame in hand the part idles (log 5). -/
theorem idle_of_quiet {s : State} (quiet : dueEvents s = []) (done : s.slotPath.frameInHand = none) : idle s = s := by
  rw [idle, takeOne_of_quiet quiet, concludeIfQuiet_of_none done]

/-- Settles O1. -/
theorem stepRunsTheFrontCommand : Obligations.StepRunsTheFrontCommand :=
  ⟨fun _ _ _ front => step_of_pending front, fun s empty quiet done => by
    rw [step_of_empty empty, idle_of_quiet quiet done]⟩

/-! ### What keeps the queue of commands -/

/-- The queue of commands is as it was. -/
def KeepsPending (k : State → State) : Prop := ∀ s, (k s).pending = s.pending

theorem takeOne_pending : KeepsPending takeOne := fun s => by
  unfold takeOne
  split
  · split <;> simp
  · rfl

theorem settle_pending (k : Nat) : KeepsPending (settle k) := by
  induction k with
  | zero => exact fun _ => rfl
  | succ k ih =>
    intro s
    rw [settle]
    split
    · rfl
    · exact (ih _).trans (takeOne_pending s)

theorem enterMoment_pending : KeepsPending enterMoment := fun s => by
  have settled := settle_pending 1024 (beginMoment s)
  simpa [enterMoment, settleFrame] using settled

theorem writeControl_pending (v : Word) : KeepsPending (writeControl v) := fun s => by
  unfold writeControl
  split
  · split
    · rfl
    · simp
  · split
    · rfl
    · dsimp only
      split <;> split <;> simp

theorem writeRegister_pending (r : Register) (v : Word) : KeepsPending (writeRegister r v) := fun s => by
  cases r with
  | control => exact writeControl_pending v s
  | state | attention => rfl
  | stationBase | attentionMask => simp [writeRegister]

namespace KeepsPending

variable {k : State → State} (hk : KeepsPending k)
include hk

theorem epilogue (s : State) : (epilogue (k s)).pending = s.pending := by
  simpa using hk s

theorem moment (s : State) : (Machine.epilogue (k (enterMoment s))).pending = s.pending :=
  (hk.epilogue _).trans (enterMoment_pending s)

theorem whenDue (e : Due) : KeepsPending (whenDue e k) := fun s => by
  unfold Machine.whenDue
  split
  · exact hk.epilogue s
  · rfl

/-- An access that completes does its effect, or none where it is abandoned (R166, R184). -/
theorem whenDone (p : Purpose) : KeepsPending (whenDone p k) := fun s => by
  unfold Machine.whenDone
  split
  · rfl
  · split
    · split
      · simp
      · simpa using hk (freeBus s)
    · rfl

theorem unlessAborted : KeepsPending (unlessAborted k) := fun s => by
  unfold Machine.unlessAborted
  split
  · simp
  · exact hk s

theorem whenBody (c : Instr) (b : OrderBody) : KeepsPending (whenBody c b k) := fun s => by
  have held : KeepsPending fun s => k (holdBody b s) := fun s => (hk _).trans (by simp)
  unfold Machine.whenBody
  split
  · exact held.unlessAborted.whenDone .bodyRead s
  · rfl

end KeepsPending

/-! ### Every command -/

/-- Settles O2: each kind of command (from outside, due, an access, an order's body) completes and keeps the queue. -/
theorem everyCommandCompletes : Obligations.EveryCommandCompletes := by
  intro c s
  have ends : ∀ {k : State → State}, KeepsPending k → (epilogue (k s)).pending = s.pending := fun hk => hk.epilogue s
  have due : ∀ e, (whenDue e (takeDue e) s).pending = s.pending := fun e =>
    KeepsPending.whenDue (fun s => by simp) e s
  have done : ∀ (p : Purpose) {k : State → State}, KeepsPending k → (whenDone p k s).pending = s.pending :=
    fun p _ hk => hk.whenDone p s
  have goesOn : ∀ (p : Purpose) {k : State → State}, KeepsPending k →
      (whenDone p (unlessAborted k) s).pending = s.pending := fun p _ hk => hk.unlessAborted.whenDone p s
  have body : ∀ (i : Instr) (b : OrderBody) {k : State → State}, KeepsPending k →
      (whenBody i b k s).pending = s.pending := fun i b _ hk => hk.whenBody i b s
  cases c with
  | powerOn => exact ⟨_, rfl, rfl⟩
  | holdReset => exact ⟨_, rfl, ends fun _ => rfl⟩
  | holdResetRelease | runWritten1 | runWritten0 | abortOrder | returnFrame | hostBusError =>
    exact ⟨_, rfl, ends fun _ => by simp⟩
  | attnEnable | stationBaseWrite | attentionRead => exact ⟨_, rfl, by simp⟩
  | registerWrite r v => exact ⟨_, rfl, ends (writeRegister_pending r v)⟩
  | lineFrame f => exact ⟨_, rfl, KeepsPending.moment (k := lineFrameArrives f) (fun _ => by simp) s⟩
  | referenceFrameTime =>
    refine ⟨_, rfl, ?_⟩
    split
    · exact KeepsPending.moment (k := referenceTime) (fun _ => by simp) s
    · rfl
  | frameWatchExpiry highway =>
    cases highway with
    | line => exact ⟨_, rfl, KeepsPending.moment (k := lineWatchExpires) (fun _ => by simp) s⟩
    | ret => exact ⟨_, rfl, ends (k := returnWatchExpires) fun _ => by simp⟩
  | millisecondEvent | loopChangeAccepted | longOpenEntry | seizure | clear | digitComplete | firstDigitTimerExpiry
  | completeTimerExpiry | quietTimerExpiry | proceedTimerExpiry | generatorWaitTimerExpiry | escapeTimerExpiry
  | muteTailExpiry | flashOutExpiry | onExpiry | gapExpiry | holdExpiry | sweepEvent => exact ⟨_, rfl, due _⟩
  | orderMarkReadDone | identifyWriteDone | readLineWriteDone | orderResultWriteDone | orderDoneWriteDone
  | touchedWriteDone | recordMarkReadDone | recordBodyWriteDone | recordMarkWriteDone | headerReadDone =>
    exact ⟨_, rfl, done _ fun _ => by simp⟩
  | takenWriteDone | profileReadDone | toneEntryReadDone | planEntryReadDone =>
    exact ⟨_, rfl, goesOn _ fun _ => by simp⟩
  | unknownOrder b | nop b | identify b | readLine b | setLine b | loadProfile b | loadTones b | loadPlan b
  | switchPlan b | sendTones b => exact ⟨_, rfl, body _ b fun _ => by simp⟩

end Sys2Proof.Machine
end
